-- ==== Sys2Proof/Word.lean ====
section
/-!
DEFINITION. The word types of the two byte-wide ports (R183, R199): bytes, and the two-, three- and four-byte
fields of messages. The part has no arithmetic of its own on them; every computed figure is a natural number or
an integer, narrowed only when a field is sent.
-/
namespace Sys2Proof

/-- One byte of the request link or of the counter line. -/
abbrev Byte := BitVec 8

/-- A two-byte field. -/
abbrev Word16 := BitVec 16

/-- A three-byte field. -/
abbrev Word24 := BitVec 24

/-- A four-byte field. -/
abbrev Word32 := BitVec 32

end Sys2Proof
end

