-- ==== Sys2Proof/Syntax.lean ====
section
/-!
DEFINITION. The commands of the block: one constructor of `Instr` for each row of spec/opcode_table.json, with the
fields the row's request carries "as sent" (Table 11-3) or the figures its event reports. A request carries its tag.
-/
namespace Sys2Proof

/-- A drive position; position d of the manual (1 to 6) is the index d - 1. -/
abbrev DriveNo := Fin 6

/-- One of the two recording sides of a cartridge. -/
inductive Side where
  | A
  | B
  deriving DecidableEq, Repr

/-- One timer setting of TIMING as sent: a count and a base code (R83). -/
structure SentSetting where
  count : Byte
  base  : Byte
  deriving DecidableEq, Repr

/-- A point at which the picker picks or places (Table 3-2). -/
inductive PickPoint where
  | slot (n : Nat)
  | drive (d : DriveNo)
  | mail
  deriving DecidableEq, Repr

/-- What the mechanism reset reports of one drive position (R60, R86). `facing` is the side turned towards the head
of a drive that may hold a cartridge: the manual does not say how the part learns it, so the report carries it. -/
inductive DriveReport where
  | absent
  | fault (facing : Side)
  | holding (facing : Side)
  | vacant
  deriving DecidableEq, Repr

/-- What the mechanism reset reports of the picker (R60). -/
inductive PickerReport where
  | fault
  | holding
  | vacant
  deriving DecidableEq, Repr

/-- The report of a completed mechanism reset: six drive positions and the picker (R60). -/
structure MechReport where
  drives : Vector DriveReport 6
  picker : PickerReport
  deriving DecidableEq, Repr

/-- What a verify run reads back: the page lengths of the index block and the bytes of the pages (R141). -/
structure ReadBack where
  lengths : List Nat
  data    : List Byte
  deriving DecidableEq, Repr

/-- How a POST transaction ends (R176); `notAcknowledged k` is the failure at byte k, the address being byte 0. -/
inductive PostEnd where
  | completed
  | notAcknowledged (byteNo : Nat)
  deriving DecidableEq, Repr

/-- How a POLL transaction ends: the stop after the reply's bytes, as the controller read them, or a missing acknowledgement
before them (R177). -/
inductive PollEnd where
  | reply (bytes : List Byte)
  | addressNotAcknowledged
  | commandNotAcknowledged
  deriving DecidableEq, Repr

/-- The two causes of a full reset (R197). -/
inductive ResetCause where
  | powerOn
  | resetInput
  deriving DecidableEq, Repr

/-- The commands of the W7130: requests of the host with their fields as sent, link events, mechanism events,
timer events and counter line events. -/
inductive Instr where
  -- requests of the title directory
  | format (tag : Byte)
  | lookup (tag : Byte) (title : Word24)
  | list (tag : Byte) (first last : Word24)
  | newTitle (tag : Byte) (title : Word24) (feeClass : Byte)
  | setClass (tag : Byte) (title : Word24) (feeClass : Byte)
  /-- `stray` are body bytes after the last whole successor number. -/
  | retire (tag : Byte) (title : Word24) (count : Byte) (successors : List Word24) (stray : List Byte)
  -- requests of the library controller
  | importCart (tag : Byte) (cart : Word16) (roleA roleB : Byte)
  | exportCart (tag : Byte) (cart : Word16)
  | sideRole (tag : Byte) (cart : Word16) (side role : Byte)
  | shelfQuery (tag : Byte) (cart : Word16)
  | timing (tag : Byte) (hold linger window promotion idle poll : SentSetting)
  | driveQuery (tag : Byte)
  -- request of the staging memory controller
  | ring (tag : Byte) (number : Byte) (base modulus : Word16)
  -- requests of the fetch scheduler
  | order (tag : Byte) (title : Word24) (edition : Word16) (account kind : Byte)
  | cancel (tag : Byte) (number : Word16)
  | orderQuery (tag : Byte) (number : Word16)
  -- requests of the filing unit
  | lodge (tag : Byte) (title : Word24) (kind pages entry : Byte)
  /-- The fixed fields of a PAGE_IN; `bodyBytes` is how many bytes of blocks its header says follow them. -/
  | pageIn (tag : Byte) (lodgement : Word16) (length : Byte) (bodyBytes : Nat)
  /-- The end of a PAGE_IN body; `data` are its bytes that the host has yet to write. -/
  | pageInBodyEnd (data : List Byte)
  | abandon (tag : Byte) (number : Word16)
  | lodgeQuery (tag : Byte) (number : Word16)
  -- requests of the fee unit
  | feeClass (tag : Byte) (cls : Byte) (document rate certified historical : Word16)
  | duty (tag : Byte) (rate : Word16)
  | account (tag : Byte) (number kind : Byte) (discount : Word16)
  | accountQuery (tag : Byte) (number : Byte)
  | settle (tag : Byte) (number : Byte) (amount : Word32)
  | dayClose (tag : Byte)
  -- request of the counter line controller
  | counterLine (tag : Byte) (addrPrefix rate : Byte)
  -- requests of the request link interface
  | linkLevels (tag : Byte) (hold resume halt haltResume trigger : Word16)
  | queueReset (tag : Byte)
  | unknownKind (tag kind : Byte) (body : List Byte)
  | badFrame (tag kind : Byte) (body : List Byte)
  -- events of the request link
  | wrStrobe (data : Byte)
  | rdStrobe
  | answerPlaced
  | noticePlaced
  | pageOutBegin
  | pageOutEnd
  /-- `memoryKept` is false when directory memory has lost its format mark (R12). -/
  | fullReset (cause : ResetCause) (memoryKept : Bool)
  | resetRelease
  -- events of the mechanism port
  | mechanismResetCompletion (report : MechReport)
  | pickCompletion (point : PickPoint)
  | placementCompletion (point : PickPoint)
  | targetSlotOccupied (slot : Nat)
  | mailSlotPlaced
  | mailSlotEmptied
  | spinUpCompletion (d : DriveNo)
  | spinDownCompletion (d : DriveNo)
  | indexReadCompletion (d : DriveNo) (lengths : List Nat)
  | pageReadCompletion (d : DriveNo) (data : List Byte)
  | mediaError (d : DriveNo)
  | writeRunCompletion (d : DriveNo)
  | writeMediaError (d : DriveNo)
  | verifyRunCompletion (d : DriveNo) (readBack : ReadBack)
  | stopCompletion (d : DriveNo)
  | driveFault (d : DriveNo)
  | pickerFault
  -- timer events
  | holdExpiry (d : DriveNo)
  | lingerExpiry (d : DriveNo)
  | reopeningExpiry
  | idleTimeout (lodgement : Word16)
  | pollIntervalExpiry
  -- counter line events
  | post (ending : PostEnd)
  | poll (ending : PollEnd)
  | clockStretchTimeout
  | clockRelease
  | pollAddressAcknowledged
  | clockHeldLow
  deriving DecidableEq, Repr

end Sys2Proof
end

