-- ==== Sys2Proof/Decode.lean ====
section
/-!
DEFINITION. The commands that words of the opcode table spell. No row of spec/opcode_table.json gives a bit pattern, so no
word spells a command. The decoding of request messages from their bytes is in `Machine/Messages.lean`.
-/
namespace Sys2Proof

/-- No row of the table gives bits: no word spells a command. -/
def decodeTableWord (_nbits _w : Nat) : Option Instr := none

end Sys2Proof
end

