-- ==== Sys2Proof/Config.lean ====
section
/-!
DEFINITION. The constants the manual fixes for every W7130: capacities, limits and the sizes of its stores.
The settings a request can change (timing, ring layout, link levels, counter line) are state, not constants: they
are in `Machine/State.lean`. The one free value is the last definition.
-/
namespace Sys2Proof.Config

/-- Records the title directory can hold (R5). -/
def maxTitles : Nat := 131072
/-- Places of the encumbrance pool (R8). -/
def poolPlaces : Nat := 65536
/-- Items an entries list can hold (R3). -/
def maxEntries : Nat := 24
/-- Next entry number once all 255 entry numbers are spent (R3). -/
def spentEntryNumber : Nat := 256
/-- Items the prior-editions list can hold (R2). -/
def maxPriors : Nat := 4
/-- The last edition, and the limit of copies issued (R39, R1). -/
def maxEdition : Nat := 65535
/-- The limit at which copies issued is held (R1). -/
def maxCopies : Nat := 65535
/-- Items of one LIST answer (R20). -/
def listLimit : Nat := 32
/-- Records of the cartridge table (R41). -/
def maxCartridges : Nat := 1024
/-- The largest cartridge number (R41). -/
def maxCartridgeNumber : Nat := 4095
/-- Shelf slots of the jukebox (R43). -/
def shelfSlots : Nat := 240
/-- Blocks of one side (R2, R45). -/
def sideBlocks : Nat := 262144
/-- The limit at which a side's error count is held (R46). -/
def maxErrors : Nat := 255
/-- The error count that retires a FILING side (R46). -/
def retireErrors : Nat := 8
/-- The largest extent a deed can need (R143). -/
def largestExtent : Nat := 16001
/-- LOAD beginnings permitted within the load window (R74). -/
def windowLoads : Nat := 4
/-- Blocks of staging memory (chapter Staging Rings). -/
def stagingBlocks : Nat := 8192
/-- Bytes of one block. -/
def blockBytes : Nat := 1024
/-- The longest page, in blocks (R92). -/
def maxPageBlocks : Nat := 64
/-- The largest page count of a deed (R2). -/
def maxPages : Nat := 250
/-- Orders the fetch queue can hold (R107). -/
def maxOrders : Nat := 64
/-- Lodgements the lodgement table can hold (R126). -/
def maxLodgements : Nat := 16
/-- The last number of the order and lodgement numberings (R106, R129). -/
def maxNumber : Nat := 65535
/-- The limit of an account's sums of money (R168). -/
def maxSum : Nat := 999999999
/-- The limit of orders charged today (R168). -/
def maxCharged : Nat := 65535
/-- The greatest fee of a post item (R180). -/
def maxPostFee : Nat := 16777215
/-- Items of a post queue (R180). -/
def maxPosts : Nat := 4
/-- Failed attempts that make a counter ABSENT (R179). -/
def absentFailures : Nat := 3
/-- Bytes of the inbound FIFO (R183). -/
def inboundBytes : Nat := 1024
/-- Bytes of the outbound FIFO (R183). -/
def outboundBytes : Nat := 4096
/-- Notices the notice queue can hold (R194). -/
def maxNotices : Nat := 64
/-- Bytes of a message header (chapter The Request Link, section 10.3). -/
def headerBytes : Nat := 6
/-- Bytes of the fixed fields of a PAGE_OUT body (R190, section 11.5). -/
def pageOutFields : Nat := 5

/-- FREE VALUE (DESIGN CHOICE, notes/assumptions/55.md): the byte that DRIVE_QUERY sends for a number of queued tasks above 255.
R84 and Table 11-7 give the number one byte and state none for it. -/
opaque queuedTasksByte : Nat → BitVec 8

end Sys2Proof.Config
end

