-- ==== Sys2Proof/Machine/State.lean ====
section
/-!
DEFINITION. The state of the part as plain data, group by group as its blocks own it, the reasons a step can stop,
and the state right after a power-on full reset of a part whose directory memory is new.
Times and spans are counted in units of 0.25 s of the single time base (R199).
-/
namespace Sys2Proof.Machine

-- Title directory ---------------------------------------------------------------------------------------------

/-- The part's two conditions (R13, R14). -/
inductive Condition where
  | ready
  | unformatted
  deriving DecidableEq, Repr

/-- A side of a cartridge, by cartridge number. -/
structure SideId where
  cart : Nat
  side : Side
  deriving DecidableEq, Repr

/-- A location names a deed extent on disc (R2). -/
structure Location where
  cart   : Nat
  side   : Side
  start  : Nat
  blocks : Nat
  pages  : Nat
  deriving DecidableEq, Repr

/-- A title's status (R4). -/
inductive Status where
  | active
  | closed
  deriving DecidableEq, Repr

/-- The kinds of an encumbrance entry (R3). -/
inductive EntryKind where
  | charge
  | easement
  | covenant
  | caution
  deriving DecidableEq, Repr

/-- An encumbrance entry (R3). -/
structure Entry where
  number  : Nat
  kind    : EntryKind
  edition : Nat
  deriving DecidableEq, Repr

/-- An item of the prior-editions list (R2). -/
structure Prior where
  edition : Nat
  loc     : Location
  deriving DecidableEq, Repr

/-- A title record (Table 1-1). -/
structure TitleRecord where
  number     : Nat
  status     : Status
  feeClass   : Fin 8
  edition    : Nat
  current    : Option Location
  priors     : List Prior
  entries    : List Entry
  nextEntry  : Nat
  successors : List Nat
  copies     : Nat
  deriving DecidableEq, Repr

/-- The title directory: the records in ascending order of title number with their count (R5), and the two pool
figures kept (R8). `reserved` is volatile, the rest lasting. -/
structure Directory where
  titles   : List TitleRecord
  count    : Nat
  inUse    : Nat
  reserved : Nat
  deriving DecidableEq, Repr

-- Library controller ------------------------------------------------------------------------------------------

/-- The roles of a side (R45). -/
inductive Role where
  | archive
  | filing
  | full
  deriving DecidableEq, Repr

/-- A side record (R45). -/
structure SideRecord where
  role     : Role
  nextFree : Nat
  defects  : Nat
  errors   : Nat
  deriving DecidableEq, Repr

/-- Where a cartridge is (Table 3-1). -/
inductive Place where
  | slot (n : Nat)
  | picker
  | drive (d : DriveNo)
  | mail
  | offline
  deriving DecidableEq, Repr

/-- A cartridge record (Table 3-1). -/
structure Cartridge where
  number : Nat
  place  : Place
  home   : Option Nat
  former : Option Nat
  sideA  : SideRecord
  sideB  : SideRecord
  deriving DecidableEq, Repr

/-- The cartridge table (kept ascending by number) and the active filing side, which are lasting; the leaving marks,
the blocked slots and the mail slot state (`mail` is OCCUPIED), which are volatile (R41, R43, R48, R50, R55). -/
structure Library where
  carts   : List Cartridge
  active  : Option SideId
  leaving : List Nat
  blocked : List Nat
  mail    : Bool
  deriving DecidableEq, Repr

-- Drive channels and picker -----------------------------------------------------------------------------------

/-- The drive states (Table 4-2). -/
inductive DriveState where
  | empty
  | loading
  | spinup
  | idle
  | reading
  | stalled
  | writing
  | verifying
  | spindown
  | unloading
  | fault
  deriving DecidableEq, Repr

/-- The kinds of a run (Table 4-1). -/
inductive RunKind where
  | index
  | page
  | write
  | verify
  deriving DecidableEq, Repr

/-- How the ending of a run will be taken: handed to its owner, discarded (a read whose order is gone), or discarded
after the run stop the drive channel issued (R65). -/
inductive RunMark where
  | live
  | discard
  | stopped
  deriving DecidableEq, Repr

/-- The blocks of a side that a run reads or writes (R64, R110). -/
structure Region where
  side   : SideId
  start  : Nat
  blocks : Nat
  deriving DecidableEq, Repr

/-- A run in flight: its owner is an order number for reads and a lodgement number for writes; `page` is the page
index of a page read, else 0 (Table 4-1); `region` is what it addresses on the disc (R110, R140, R141). -/
structure Run where
  kind   : RunKind
  owner  : Nat
  page   : Nat
  region : Region
  mark   : RunMark
  deriving DecidableEq, Repr

/-- An item of a drive's work list: an order or the write work of a lodgement (R66). -/
inductive Work where
  | order (n : Nat)
  | write (n : Nat)
  deriving DecidableEq, Repr

/-- A drive channel record (Table 4-1) with the drive channel's index buffer (R97). The timers hold their expiry
times. `unrecorded` marks a drive whose cartridge has no record in the cartridge table (R71); `fitted` is false for
a position reported absent at the mechanism reset (R82). -/
structure Drive where
  state          : DriveState
  mounted        : Option SideId
  unrecorded     : Bool
  reserved       : Option SideId
  hold           : Option Nat
  releasePending : Bool
  linger         : Option Nat
  pin            : Bool
  idleSince      : Nat
  work           : List Work
  run            : Option Run
  indexBuffer    : List Nat
  fitted         : Bool
  deriving DecidableEq, Repr

/-- The picker's states (R72). -/
inductive PickerState where
  | idle
  | busy
  | fault
  deriving DecidableEq, Repr

/-- The kinds of picker task (R72). -/
inductive TaskKind where
  | load
  | unload
  | importTask
  | exportTask
  deriving DecidableEq, Repr

/-- A picker task (R72). `cart` is absent for an unrecorded cartridge; `side` is the side to turn towards the head,
for a LOAD; `drive` is absent for IMPORT, EXPORT and a sweep return from the picker. -/
structure Task where
  kind  : TaskKind
  cart  : Option Nat
  side  : Side
  drive : Option DriveNo
  deriving DecidableEq, Repr

/-- The task in progress: whether its pick was made, where it picks from (absent for a sweep return from the picker),
where it places, whether the picker is holding the cartridge until it can place it (R44, R56, R60), and what its
drive had mounted before the pick (for a return to the drive, R71). -/
structure Active where
  task       : Task
  picked     : Bool
  source     : Option PickPoint
  target     : PickPoint
  waiting    : Bool
  wasMounted : Option SideId
  deriving DecidableEq, Repr

/-- The picker: its state, task queue in joining order, task in progress, the load starts oldest first and the
reopening timer's expiry (R72, R74). -/
structure Picker where
  state     : PickerState
  queue     : List Task
  active    : Option Active
  starts    : List Nat
  reopening : Option Nat
  deriving DecidableEq, Repr

-- Staging memory ----------------------------------------------------------------------------------------------

/-- Base and modulus of a ring (Table 5-1). -/
structure RingShape where
  base    : Nat
  modulus : Nat
  deriving DecidableEq, Repr

/-- A page entry (Table 5-3); `streaming` marks the entry whose PAGE_OUT has begun and `held` a release held against
it (R97). -/
structure PageEntry where
  owner     : Nat
  page      : Nat
  length    : Nat
  start     : Nat
  live      : Bool
  filled    : Bool
  streaming : Bool
  held      : Bool
  deriving DecidableEq, Repr

/-- The volatile part of a ring record (Table 5-1). -/
structure PageRing where
  drain    : Nat
  fill     : Nat
  occupied : Nat
  entries  : List PageEntry
  deriving DecidableEq, Repr

/-- Staging memory: byte addresses 0 to 8,388,607 in rising order, no listed byte 0 (an unlisted byte reads 0). -/
abbrev Memory := List Host.Cell

-- Fetch scheduler ---------------------------------------------------------------------------------------------

/-- The states of an order (R107). -/
inductive OrderState where
  | waiting
  | attached
  | reading
  | delivering
  deriving DecidableEq, Repr

/-- The two priorities (R100). -/
inductive Priority where
  | counter
  | postal
  deriving DecidableEq, Repr

/-- The two kinds of an order (R100). -/
inductive OrderKind where
  | plain
  | certified
  deriving DecidableEq, Repr

/-- An order: its snapshot (Table 6-2; the page count is the location's) and its running state (R105). `erred` says
whether the read under way has met one media error. -/
structure FetchOrder where
  number     : Nat
  title      : Nat
  edition    : Nat
  loc        : Location
  feeClass   : Fin 8
  historical : Bool
  pending    : Bool
  priority   : Priority
  account    : Fin 13
  kind       : OrderKind
  takeIn     : Nat
  state      : OrderState
  drive      : Option DriveNo
  lengths    : Option (List Nat)
  read       : Nat
  delivered  : Nat
  erred      : Bool
  deriving DecidableEq, Repr

/-- The fetch scheduler: the fetch queue in take-in order and the last issued order number (R106, R107). -/
structure Fetch where
  queue : List FetchOrder
  last  : Nat
  deriving DecidableEq, Repr

-- Filing unit -------------------------------------------------------------------------------------------------

/-- The lodgement kinds (Table 7-1). -/
inductive LodgeKind where
  | first
  | transfer
  | charge
  | easement
  | covenant
  | caution
  | discharge
  | withdrawal
  deriving DecidableEq, Repr

/-- The states of a lodgement (R130). -/
inductive LodgeState where
  | receiving
  | staged
  | writing
  | verifying
  deriving DecidableEq, Repr

/-- A lodgement record (Table 7-3). `lengths` is its entry list: the lengths of its filing-ring entries in page order.
`idle` is the idle timer's expiry (R133). `stagedNo` is the model's own: the ordinal of the event at which it became
STAGED, which orders lodgements whose staging times read alike (R135). -/
structure Lodgement where
  number       : Nat
  title        : Nat
  kind         : LodgeKind
  named        : Option Nat
  declared     : Nat
  received     : Nat
  lengths      : List Nat
  held         : Nat
  state        : LodgeState
  staging      : Option Nat
  stagedNo     : Nat
  attempts     : Nat
  extent       : Option Location
  lastActivity : Nat
  idle         : Option Nat
  deriving DecidableEq, Repr

/-- The steps of the lodgement in hand (R134). -/
inductive EngineStep where
  | side
  | drive
  | ready
  | run
  deriving DecidableEq, Repr

/-- The filing unit: the lodgement table in order of acceptance, the last issued lodgement number, the write engine's
lodgement in hand with its step, and the space-wanting mark (R126, R129, R134). `stagedCount` is the model's own: how
many lodgements have become STAGED. -/
structure Filing where
  table       : List Lodgement
  last        : Nat
  hand        : Option (Nat × EngineStep)
  wanting     : Bool
  stagedCount : Nat
  deriving DecidableEq, Repr

-- Fee unit ----------------------------------------------------------------------------------------------------

/-- An entry of the fee schedule (Table 8-1). -/
structure FeeEntry where
  document   : Nat
  rate       : Nat
  certified  : Nat
  historical : Nat
  deriving DecidableEq, Repr

/-- The two kinds of an account (R167). -/
inductive AccountKind where
  | cash
  | credit
  deriving DecidableEq, Repr

/-- An account record (Table 9-1). -/
structure Account where
  kind     : AccountKind
  discount : Nat
  phase    : Nat
  pending  : Int
  dayOpen  : Int
  posted   : Nat
  settled  : Nat
  charged  : Nat
  clamp    : Bool
  deriving DecidableEq, Repr

/-- The fee unit: the schedule, the duty rate and accounts 0 to 12 (R153, R154, R167). -/
structure Fees where
  schedule : Vector FeeEntry 8
  duty     : Nat
  accounts : Vector Account 13
  deriving DecidableEq, Repr

-- Counter line controller -------------------------------------------------------------------------------------

/-- A counter; counter n of the manual (1 to 12) is the index n - 1. -/
abbrev CounterNo := Fin 12

/-- An item of a post queue (R180). -/
structure PostItem where
  order   : Nat
  fee     : Nat
  pending : Int
  deriving DecidableEq, Repr

/-- What the controller holds of one counter (R175, R179, R180). -/
structure Counter where
  present  : Bool
  failures : Nat
  due      : Bool
  posts    : List PostItem
  deriving DecidableEq, Repr

/-- A transaction in progress, with the address prefix and rate it began with (R174). A POST carries its item;
`orphan` is set when FORMAT has emptied the queue the item stood in (R18). `acked` says that a POLL's address has been
acknowledged (R179). -/
inductive Transaction where
  | post (n : CounterNo) (item : PostItem) (orphan : Bool) (addrPrefix rate : Nat)
  | poll (n : CounterNo) (acked : Bool) (addrPrefix rate : Nat)
  deriving DecidableEq, Repr

/-- The counter line controller: the counters, the transaction in progress, whether a cash unit holds the clock low,
whether a stop is owed at its release, the poll timer's expiry and the last counter served by a post, 0 for none
(R175, R178). -/
structure Line where
  counters   : Vector Counter 12
  trans      : Option Transaction
  clockHeld  : Bool
  stopOwed   : Bool
  poll       : Option Nat
  lastServed : Nat
  deriving DecidableEq, Repr

-- Configuration -----------------------------------------------------------------------------------------------

/-- A timer setting in force: count 1 to 63 and base code 0 to 3 (R83). -/
structure Setting where
  count : Nat
  base  : Nat
  deriving DecidableEq, Repr

/-- The six timer settings (R83). -/
structure Timing where
  hold      : Setting
  linger    : Setting
  window    : Setting
  promotion : Setting
  idle      : Setting
  poll      : Setting
  deriving DecidableEq, Repr

/-- The five link levels (R196). -/
structure Levels where
  hold       : Nat
  resume     : Nat
  halt       : Nat
  haltResume : Nat
  trigger    : Nat
  deriving DecidableEq, Repr

/-- The configuration, which is lasting: timing settings, ring layout, link levels, counter line prefix and rate code
(Table 1-3). -/
structure Settings where
  timing     : Timing
  layout     : Vector RingShape 7
  levels     : Levels
  addrPrefix : Nat
  rate       : Nat
  deriving DecidableEq, Repr

-- Request link ------------------------------------------------------------------------------------------------

/-- The outcome codes in the order of section 10.8, which numbers them from 0 (R199). -/
inductive Code where
  | done | badFrame | unknownKind | badField | notFormatted | libraryBusy | unknownTitle | titleExists | titleClosed
  | titleBusy | directoryFull | badSuccessor | cautioned | alreadyRegistered | notRegistered | editionLimit
  | editionUnavailable | entryLimit | noSuchEntry | poolFull | lodgementTableFull | noSuchLodgement | pageCount
  | stagingFull | queueFull | noSuchOrder | mediaOffline | mediaTrapped | unknownCartridge | cartridgeExists
  | cartridgeBusy | tableFull | noFreeSlot | mailSlotEmpty | mailSlotFull | ringOverlap
  deriving DecidableEq, Repr

/-- The causes of BAD_FRAME (Table 11-1). -/
inductive FrameCause where
  | length
  | overflow
  deriving DecidableEq, Repr

/-- The faults of a successor list (R29). -/
inductive SuccessorFault where
  | self
  | unknown
  | closed
  | duplicate
  deriving DecidableEq, Repr

/-- The reasons an order fails (R118). -/
inductive FailReason where
  | indexMismatch
  | media
  | drive
  | picker
  deriving DecidableEq, Repr

/-- The reasons a lodgement fails (R194). -/
inductive LodgeFailReason where
  | timeout
  | media
  | drive
  deriving DecidableEq, Repr

/-- The reasons of a CARTRIDGE_PLACED notice (R53). -/
inductive PlacedReason where
  | done
  | noFreeSlot
  | removed
  deriving DecidableEq, Repr

/-- An item of a LIST answer (R20). -/
structure ListItem where
  title   : Nat
  status  : Status
  edition : Nat
  pending : Bool
  deriving DecidableEq, Repr

/-- A drive item of a DRIVE_QUERY answer (R84). -/
structure DriveItem where
  state          : DriveState
  mounted        : Option SideId
  reserved       : Option SideId
  releasePending : Bool
  pin            : Bool
  occupied       : Nat
  orders         : Nat
  deriving DecidableEq, Repr

/-- The picker part of a DRIVE_QUERY answer (R84). -/
structure PickerItem where
  state  : PickerState
  task   : Option (TaskKind × Option Nat)
  queued : Nat
  starts : Nat
  deriving DecidableEq, Repr

/-- An item of a DAY_CLOSE answer (R173). -/
structure DayItem where
  posted  : Nat
  settled : Nat
  charged : Nat
  dayOpen : Int
  pending : Int
  clamp   : Bool
  deriving DecidableEq, Repr

/-- The bodies of ANSWERs (R200, Table 11-4), one constructor for each layout; `done` is a DONE answer of no fields and
`referral` a TITLE_CLOSED answering ORDER. -/
inductive Answer where
  | refused (code : Code)
  | badFrame (cause : FrameCause)
  | badSuccessor (position : Nat) (fault : SuccessorFault)
  | referral (successors : List Nat)
  | done
  | lookup (record : TitleRecord) (lodgement : Nat)
  | list (items : List ListItem) (more : Bool) (next : Nat)
  | newTitle (title count : Nat)
  | setClass (former new : Nat)
  | retire (returned free : Nat)
  | importCart (cart slot : Nat)
  | sideRole (former new : Role)
  | shelf (record : Cartridge) (leaving trapped activeA activeB : Bool)
  | timing (settings : Timing)
  | drives (items : List DriveItem) (picker : PickerItem)
  | ring (number base modulus alignment : Nat)
  | order (number edition pages : Nat) (historical pending : Bool)
  | orderQuery (number : Nat) (state : OrderState) (priority : Priority) (drive pages read delivered : Nat)
      (streaming : Bool)
  | lodge (number edition : Nat) (reserved : Bool) (free : Nat)
  | pageIn (lodgement received : Nat) (state : LodgeState)
  | lodgeQuery (record : Lodgement) (since : Nat) (step : Option EngineStep)
  | feeClass (cls : Nat) (entry : FeeEntry)
  | duty (rate : Nat)
  | account (number : Nat) (kind : AccountKind) (discount : Nat)
  | accountQuery (number : Nat) (record : Account) (absent : Bool) (failures posts : Nat)
  | settle (pending : Int)
  | dayClose (items : List DayItem)
  | counterLine (addrPrefix rate : Nat)
  | linkLevels (levels : Levels)
  deriving DecidableEq, Repr

/-- The notices (Table 10-4). -/
inductive Notice where
  | orderDone (order : Nat) (account : Nat) (pages fee : Nat)
  | orderFailed (order : Nat) (reason : FailReason) (sent : Nat)
  | lodgementFiled (lodgement title edition : Nat)
  | lodgementFailed (lodgement title : Nat) (reason : LodgeFailReason)
  | noFilingSpace (staged : Nat)
  | filingSpaceLow (cart : Nat) (side : Side) (left : Nat)
  | sideRetired (cart : Nat) (side : Side) (errors : Nat)
  | driveFault (drive : Nat) (cart : Nat) (side : Side) (before : DriveState)
  | pickerFault (task : Option TaskKind) (cart : Nat)
  | cartridgePlaced (cart : Nat) (place : Place) (slot : Nat) (reason : PlacedReason)
  | cartridgeAtMailSlot (cart : Nat) (former : Option Nat)
  | counterAbsent (counter : Nat)
  | counterSettled (counter amount : Nat) (pending : Int)
  deriving DecidableEq, Repr

/-- A composed ANSWER waiting in PLACING: its tag, its body, the condition flag fixed at its composition (R192), and
whether it is the OVERFLOW answer whose reading ends a recovery (R185). -/
structure Placing where
  tag         : Byte
  answer      : Answer
  unformatted : Bool
  recovery    : Bool
  deriving DecidableEq, Repr

/-- What becomes of the body of a PAGE_IN: it enters the filing ring for an admitted page of a lodgement, or it is
discarded and the refusal follows it (R188). -/
inductive BodyFate where
  | admitted (lodgement length : Nat)
  | refused (answer : Answer)
  deriving DecidableEq, Repr

/-- The request decoder's states (R187), with the bytes read so far in HEADER and FIELDS and the bytes still to come
in FIELDS, BODY and DISCARDING. OWNER is not held: an owning block takes its request at the event it receives it. -/
inductive Decoder where
  | header (got : List Byte)
  | fields (kind tag : Byte) (bodyLength : Nat) (got : List Byte)
  | body (tag : Byte) (fate : BodyFate) (left : Nat)
  | discarding (tag : Byte) (answer : Answer) (left : Nat)
  | placing (p : Placing)
  deriving DecidableEq, Repr

/-- A byte of the outbound FIFO, whether it is the last of its message (R195), and whether it is the last of the
OVERFLOW answer (R185). -/
structure OutByte where
  value    : Byte
  last     : Bool
  recovery : Bool
  deriving DecidableEq, Repr

/-- The PAGE_OUT being placed: the drive ring it streams from and the block bytes already placed (R190). -/
structure Stream where
  ring : DriveNo
  sent : Nat
  deriving DecidableEq, Repr

/-- The request link: both FIFOs, the overflow mark and whether its recovery is discarding (R185), whether a
QUEUE_RESET is discarding (R198), the HOLD and ATTENTION outputs, page halt, the notice queue and the notices-lost
flag, the decoder, the arbiter's last ring served (0 for none) and streaming message, and the byte last driven on
D7 to D0. -/
structure Link where
  inbound    : List Byte
  outbound   : List OutByte
  overflow   : Bool
  recovering : Bool
  discarding : Bool
  hold       : Bool
  attention  : Bool
  halt       : Bool
  notices    : List Notice
  lost       : Bool
  decoder    : Decoder
  lastRing   : Nat
  streaming  : Option Stream
  driven     : Byte
  deriving DecidableEq, Repr

-- The state ---------------------------------------------------------------------------------------------------

/-- The W7130 and the queue of commands waiting for it, first in, first out. `now` is the time-base reading;
`resetHeld` says that RESET is asserted; `mechReset` that the mechanism reset is issued and not yet complete. -/
structure State where
  pending    : List Instr
  now        : Nat
  condition  : Condition
  formatMark : Bool
  resetHeld  : Bool
  mechReset  : Bool
  dir        : Directory
  lib        : Library
  drives     : Vector Drive 6
  picker     : Picker
  rings      : Vector PageRing 7
  staging    : Memory
  fetch      : Fetch
  filing     : Filing
  fees       : Fees
  line       : Line
  link       : Link
  cfg        : Settings
  deriving DecidableEq, Repr

/-- No rule of the manual stops the part: every command leaves it in a state the rules give. There is no fault. -/
inductive Fault where
  deriving DecidableEq, Repr

/-- Why a command is refused by the model. -/
inductive Refusal where
  /-- Raised by a command of the table that has no meaning yet, naming it: safe, since the step answers no state. No
  arm of `exec` raises it. -/
  | notModelled (mnemonic : String)
  deriving DecidableEq, Repr

-- Values after FORMAT and after a full reset ------------------------------------------------------------------

/-- The timing defaults (Table 1-3, R83). -/
def Timing.default : Timing where
  hold := ⟨3, 1⟩
  linger := ⟨8, 1⟩
  window := ⟨30, 1⟩
  promotion := ⟨30, 2⟩
  idle := ⟨15, 3⟩
  poll := ⟨2, 0⟩

/-- The default ring layout (Table 5-2). -/
def defaultLayout : Vector RingShape 7 :=
  #v[⟨0, 1024⟩, ⟨1024, 1024⟩, ⟨2048, 1024⟩, ⟨3072, 1024⟩, ⟨4096, 1024⟩, ⟨5120, 1024⟩, ⟨6144, 2048⟩]

/-- The default link levels (Table 1-3). -/
def Levels.default : Levels where
  hold := 960
  resume := 512
  halt := 3072
  haltResume := 1024
  trigger := 256

/-- The configuration after FORMAT, which is also the default configuration of UNFORMATTED (Table 1-3, R14). -/
def Settings.default : Settings where
  timing := Timing.default
  layout := defaultLayout
  levels := Levels.default
  addrPrefix := 5
  rate := 1

/-- The directory after FORMAT (Table 1-3). -/
def Directory.initial : Directory where
  titles := []
  count := 0
  inUse := 0
  reserved := 0

/-- A fee schedule entry after FORMAT (Table 1-3). -/
def FeeEntry.initial : FeeEntry where
  document := 0
  rate := 0
  certified := 0
  historical := 0

/-- An account after FORMAT (Table 1-3). -/
def Account.initial : Account where
  kind := .cash
  discount := 0
  phase := 0
  pending := 0
  dayOpen := 0
  posted := 0
  settled := 0
  charged := 0
  clamp := false

/-- The fee unit after FORMAT (Table 1-3). -/
def Fees.initial : Fees where
  schedule := Vector.replicate 8 FeeEntry.initial
  duty := 0
  accounts := Vector.replicate 13 Account.initial

/-- The library of a part whose cartridge table is empty, after a full reset (Table 3-6). -/
def Library.initial : Library where
  carts := []
  active := none
  leaving := []
  blocked := []
  mail := false

/-- A drive record after a full reset (R86). -/
def Drive.initial : Drive where
  state := .empty
  mounted := none
  unrecorded := false
  reserved := none
  hold := none
  releasePending := false
  linger := none
  pin := false
  idleSince := 0
  work := []
  run := none
  indexBuffer := []
  fitted := true

/-- The empty ring (Table 5-4, full reset). -/
def PageRing.initial : PageRing where
  drain := 0
  fill := 0
  occupied := 0
  entries := []

/-- The fetch scheduler after a full reset (R124). -/
def Fetch.initial : Fetch where
  queue := []
  last := 0

/-- The filing unit after a full reset (R152). -/
def Filing.initial : Filing where
  table := []
  last := 0
  hand := none
  wanting := false
  stagedCount := 0

/-- A counter after a full reset (R182). -/
def Counter.initial : Counter where
  present := true
  failures := 0
  due := false
  posts := []

/-- The counter line after a full reset in UNFORMATTED (R182). -/
def Line.initial : Line where
  counters := Vector.replicate 12 Counter.initial
  trans := none
  clockHeld := false
  stopOwed := false
  poll := none
  lastServed := 0

/-- The request link after a full reset (R197). -/
def Link.initial : Link where
  inbound := []
  outbound := []
  overflow := false
  recovering := false
  discarding := false
  hold := false
  attention := false
  halt := false
  notices := []
  lost := false
  decoder := .header []
  lastRing := 0
  streaming := none
  driven := 0

/-- The picker after a full reset at time `t` with the window length `w` in force: idle, with four load starts at the
time of the reset and the reopening timer running for the window (R74, R86). -/
def Picker.afterReset (t w : Nat) : Picker where
  state := .idle
  queue := []
  active := none
  starts := [t, t, t, t]
  reopening := some (t + w)

/-- The part after power-on with new directory memory: the format mark is absent (R12), so it is UNFORMATTED, on the
default configuration, every queue, ring and FIFO empty (R14, R197). RESET is released and no command waits. The
window length of 30 × 1 s is 120 units. -/
def State.reset : State where
  pending := []
  now := 0
  condition := .unformatted
  formatMark := false
  resetHeld := false
  mechReset := false
  dir := Directory.initial
  lib := Library.initial
  drives := Vector.replicate 6 Drive.initial
  picker := Picker.afterReset 0 120
  rings := Vector.replicate 7 PageRing.initial
  staging := []
  fetch := Fetch.initial
  filing := Filing.initial
  fees := Fees.initial
  line := Line.initial
  link := Link.initial
  cfg := Settings.default

end Sys2Proof.Machine
end

