-- ==== Sys2Proof/Machine/Ops.lean ====
section
/-!
DEFINITION. The named operations over the state that the chapters share: one update per group of the state, the
directory, the library, staging memory and its rings, notices and the placing of answers in the decoder.
-/
namespace Sys2Proof.Machine

-- One update per group ----------------------------------------------------------------------------------------

def State.modDir (f : Directory → Directory) (s : State) : State := { s with dir := f s.dir }
def State.modLib (f : Library → Library) (s : State) : State := { s with lib := f s.lib }
def State.modPicker (f : Picker → Picker) (s : State) : State := { s with picker := f s.picker }
def State.modFetch (f : Fetch → Fetch) (s : State) : State := { s with fetch := f s.fetch }
def State.modFiling (f : Filing → Filing) (s : State) : State := { s with filing := f s.filing }
def State.modFees (f : Fees → Fees) (s : State) : State := { s with fees := f s.fees }
def State.modLine (f : Line → Line) (s : State) : State := { s with line := f s.line }
def State.modLink (f : Link → Link) (s : State) : State := { s with link := f s.link }
def State.modCfg (f : Settings → Settings) (s : State) : State := { s with cfg := f s.cfg }
def State.modStaging (f : Memory → Memory) (s : State) : State := { s with staging := f s.staging }
def State.modRings (f : Vector PageRing 7 → Vector PageRing 7) (s : State) : State := { s with rings := f s.rings }
def State.modDrives (f : Vector Drive 6 → Vector Drive 6) (s : State) : State := { s with drives := f s.drives }

/-- Changes the record of drive `d`. -/
def State.modDrive (d : DriveNo) (f : Drive → Drive) (s : State) : State :=
  s.modDrives fun v => v.set d.val (f v[d]) d.isLt

/-- Changes ring `r`. -/
def State.modRing (r : Fin 7) (f : PageRing → PageRing) (s : State) : State :=
  s.modRings fun v => v.set r.val (f v[r]) r.isLt

/-- Changes account `a`. -/
def State.modAccount (a : Fin 13) (f : Account → Account) (s : State) : State :=
  s.modFees fun u => { u with accounts := u.accounts.set a.val (f u.accounts[a]) a.isLt }

/-- Changes counter `n`. -/
def State.modCounter (n : CounterNo) (f : Counter → Counter) (s : State) : State :=
  s.modLine fun l => { l with counters := l.counters.set n.val (f l.counters[n]) n.isLt }

/-- The six drives, lowest first. -/
def allDrives : List DriveNo := [0, 1, 2, 3, 4, 5]

/-- The twelve counters, lowest first. -/
def allCounters : List CounterNo := [0, 1, 2, 3, 4, 5, 6, 7, 8, 9, 10, 11]

/-- Does `f` to each drive in turn, lowest first. -/
def State.forDrives (f : DriveNo → State → State) (s : State) : State :=
  allDrives.foldl (fun t d => f d t) s

/-- Does `f` to each counter in turn, lowest first. -/
def State.forCounters (f : CounterNo → State → State) (s : State) : State :=
  allCounters.foldl (fun t n => f n t) s

-- Timers ------------------------------------------------------------------------------------------------------

/-- A setting in units of 0.25 s: base codes 0 to 3 stand for 0.25 s, 1 s, 4 s and 16 s (R83). -/
def Setting.quarters (t : Setting) : Nat :=
  t.count * 4 ^ t.base

/-- The time base at the event of a timer's expiry: it reads at least the expiry time. -/
def State.reach (t : Nat) (s : State) : State :=
  { s with now := max s.now t }

-- Title directory ---------------------------------------------------------------------------------------------

/-- The record of a title number, or none (R5). -/
def State.title? (s : State) (n : Nat) : Option TitleRecord :=
  s.dir.titles.find? fun r => r.number = n

/-- Changes the record of title `n` and no other. -/
def State.modTitle (n : Nat) (f : TitleRecord → TitleRecord) (s : State) : State :=
  s.modDir fun d => { d with titles := d.titles.map fun r => if r.number = n then f r else r }

/-- Places a record at the position that keeps title numbers ascending (R5). -/
def insertTitle (r : TitleRecord) : List TitleRecord → List TitleRecord
  | [] => [r]
  | q :: rest => if r.number < q.number then r :: q :: rest else q :: insertTitle r rest

/-- The record NEW_TITLE creates (R1). -/
def TitleRecord.fresh (n : Nat) (cls : Fin 8) : TitleRecord where
  number := n
  status := .active
  feeClass := cls
  edition := 0
  current := none
  priors := []
  entries := []
  nextEntry := 1
  successors := []
  copies := 0

/-- The lodgement in the table that names a title, or none (R7). -/
def State.lodgementOn? (s : State) (title : Nat) : Option Lodgement :=
  s.filing.table.find? fun l => l.title = title

/-- The number of the lodgement pending on a title, 0 when it is not pending (R7). -/
def State.pendingNumber (s : State) (title : Nat) : Nat :=
  ((s.lodgementOn? title).map fun l => l.number).getD 0

/-- A title is pending while a lodgement in the table names it (R7). -/
def State.isPending (s : State) (title : Nat) : Bool :=
  (s.lodgementOn? title).isSome

/-- The pool's derived figure, free (R8). -/
def Directory.free (d : Directory) : Nat :=
  Config.poolPlaces - d.inUse - d.reserved

/-- A completion counts a copy of the title, held at 65,535 (R1). -/
def countCopy (title : Nat) (s : State) : State :=
  s.modTitle title fun r => { r with copies := min Config.maxCopies (r.copies + 1) }

-- Lodgement kinds ---------------------------------------------------------------------------------------------

/-- The entry kind an adding kind adds; none for the other kinds (Table 7-1). -/
def LodgeKind.adds : LodgeKind → Option EntryKind
  | .charge => some .charge
  | .easement => some .easement
  | .covenant => some .covenant
  | .caution => some .caution
  | .first => none
  | .transfer => none
  | .discharge => none
  | .withdrawal => none

/-- The kinds that name an entry: DISCHARGE and WITHDRAWAL (R125). -/
def LodgeKind.removes : LodgeKind → Bool
  | .discharge => true
  | .withdrawal => true
  | _ => false

-- Library -----------------------------------------------------------------------------------------------------

/-- The record of a cartridge number, or none (R41). -/
def State.cart? (s : State) (c : Nat) : Option Cartridge :=
  s.lib.carts.find? fun r => r.number = c

/-- Changes the record of cartridge `c` and no other. -/
def State.modCart (c : Nat) (f : Cartridge → Cartridge) (s : State) : State :=
  s.modLib fun l => { l with carts := l.carts.map fun r => if r.number = c then f r else r }

/-- Places a cartridge record in ascending order of cartridge number. -/
def insertCart (r : Cartridge) : List Cartridge → List Cartridge
  | [] => [r]
  | q :: rest => if r.number < q.number then r :: q :: rest else q :: insertCart r rest

/-- The record of one side. -/
def Cartridge.sideRecord (r : Cartridge) : Side → SideRecord
  | .A => r.sideA
  | .B => r.sideB

/-- Changes the record of one side. -/
def Cartridge.modSide (side : Side) (f : SideRecord → SideRecord) (r : Cartridge) : Cartridge :=
  match side with
  | .A => { r with sideA := f r.sideA }
  | .B => { r with sideB := f r.sideB }

/-- Changes the side record of `sd`. -/
def State.modSide (sd : SideId) (f : SideRecord → SideRecord) (s : State) : State :=
  s.modCart sd.cart fun r => r.modSide sd.side f

/-- The side record of `sd`, if its cartridge is in the table. -/
def State.side? (s : State) (sd : SideId) : Option SideRecord :=
  (s.cart? sd.cart).map fun r => r.sideRecord sd.side

/-- The other side of a cartridge. -/
def SideId.other (sd : SideId) : SideId :=
  match sd.side with
  | .A => ⟨sd.cart, .B⟩
  | .B => ⟨sd.cart, .A⟩

/-- The side a location lies on. -/
def Location.sideId (l : Location) : SideId := ⟨l.cart, l.side⟩

/-- The blocks of a location, index block and pages (R2). -/
def Location.region (l : Location) : Region := { side := l.sideId, start := l.start, blocks := l.blocks }

/-- The index block of a location (R110). -/
def Location.indexRegion (l : Location) : Region := { side := l.sideId, start := l.start, blocks := 1 }

/-- Where the page after the first `i` lies, from the page lengths of the index block: past the index block and the pages
before it, for its own length (R110). -/
def Location.pageRegion (l : Location) (lengths : List Nat) (i : Nat) : Region where
  side := l.sideId
  start := l.start + 1 + (lengths.take i).sum
  blocks := lengths.getD i 0

/-- A slot is open: free, not blocked, and the home slot of no cartridge (R43). -/
def Library.slotOpen (l : Library) (n : Nat) : Bool :=
  !l.blocked.contains n && l.carts.all fun r => decide (r.place ≠ .slot n) && decide (r.home ≠ some n)

/-- The lowest open slot, or none (R43). -/
def Library.lowestOpen (l : Library) : Option Nat :=
  (List.range' 1 Config.shelfSlots).find? l.slotOpen

/-- A cartridge is trapped while its place is a drive in FAULT (R59). -/
def State.trapped (s : State) (c : Nat) : Bool :=
  match s.cart? c with
  | some ⟨_, .drive d, _, _, _, _⟩ => s.drives[d].state = .fault
  | _ => false

/-- A cartridge carries the leaving mark of an accepted EXPORT (R55). -/
def State.isLeaving (s : State) (c : Nat) : Bool := s.lib.leaving.contains c

/-- Places from which a side is usable: a slot, the picker or a drive (R48). -/
def Place.inLibrary : Place → Bool
  | .slot _ => true
  | .picker => true
  | .drive _ => true
  | .mail => false
  | .offline => false

/-- A FILING side is usable: its cartridge is in the library, not trapped and not leaving (R48). R48 counts place PICKER as usable, and
R53 has a side of a cartridge under IMPORT become usable at its placement: R48's list is taken, so such a side is usable from the pick
on (DESIGN CHOICE, notes/assumptions/57.md). -/
def State.usable (s : State) (sd : SideId) : Bool :=
  match s.cart? sd.cart with
  | some r => r.place.inLibrary && !s.trapped sd.cart && !s.isLeaving sd.cart &&
      decide ((r.sideRecord sd.side).role = .filing)
  | none => false

/-- The usable FILING side with the lowest cartridge number, side A before side B (R48). -/
def State.lowestUsable (s : State) : Option SideId :=
  (s.lib.carts.flatMap fun r => [SideId.mk r.number .A, SideId.mk r.number .B]).find? s.usable

/-- The active filing side as the write engine receives it: as it stands, or chosen afresh (R48). -/
def State.filingSide (s : State) : Option SideId :=
  match s.lib.active with
  | some sd => some sd
  | none => s.lowestUsable

/-- The active filing side becomes absent if it names cartridge `c` (R49). -/
def clearActiveOf (c : Nat) (s : State) : State :=
  s.modLib fun l => { l with active := l.active.filter fun sd => sd.cart ≠ c }

-- Drives ------------------------------------------------------------------------------------------------------

/-- The states in which the side facing the head is mounted (section 4.1). -/
def DriveState.mounts : DriveState → Bool
  | .idle => true
  | .reading => true
  | .stalled => true
  | .writing => true
  | .verifying => true
  | .empty => false
  | .loading => false
  | .spinup => false
  | .spindown => false
  | .unloading => false
  | .fault => false

/-- Drive `d` mounts side `sd` of a recorded cartridge (section 4.1, R71). -/
def Drive.mountsSide (dr : Drive) (sd : SideId) : Bool :=
  dr.state.mounts && !dr.unrecorded && decide (dr.mounted = some sd)

/-- The drive mounting a side, or none. -/
def State.mountedOn (s : State) (sd : SideId) : Option DriveNo :=
  allDrives.find? fun d => s.drives[d].mountsSide sd

-- Notices -----------------------------------------------------------------------------------------------------

/-- Two notices of one kind and subject (Table 10-4). -/
def Notice.sameSubject : Notice → Notice → Bool
  | .orderDone a _ _ _, .orderDone b _ _ _ => a = b
  | .orderFailed a _ _, .orderFailed b _ _ => a = b
  | .lodgementFiled a _ _, .lodgementFiled b _ _ => a = b
  | .lodgementFailed a _ _, .lodgementFailed b _ _ => a = b
  | .noFilingSpace _, .noFilingSpace _ => true
  | .filingSpaceLow c x _, .filingSpaceLow e y _ => c = e && x = y
  | .sideRetired c _ _, .sideRetired e _ _ => c = e
  | .driveFault a _ _ _, .driveFault b _ _ _ => a = b
  | .pickerFault _ _, .pickerFault _ _ => true
  | .cartridgePlaced c _ _ _, .cartridgePlaced e _ _ _ => c = e
  | .cartridgeAtMailSlot c _, .cartridgeAtMailSlot e _ => c = e
  | .counterAbsent a, .counterAbsent b => a = b
  | .counterSettled a _ _, .counterSettled b _ _ => a = b
  | _, _ => false

/-- Queues a notice: it replaces a waiting one of its kind and subject in its place, else joins the tail, else is
discarded with the notices-lost flag set (R194). -/
def queueNotice (n : Notice) (s : State) : State :=
  s.modLink fun k =>
    if k.notices.any n.sameSubject then
      { k with notices := k.notices.map fun m => if n.sameSubject m then n else m }
    else if k.notices.length < Config.maxNotices then
      { k with notices := k.notices ++ [n] }
    else
      { k with lost := true }

-- Answers -----------------------------------------------------------------------------------------------------

/-- Composes the ANSWER to a request, with the condition as it stands, and passes the decoder to PLACING (R187, R192). -/
def answer (tag : Byte) (a : Answer) (s : State) : State :=
  s.modLink fun k => { k with
    decoder := .placing { tag := tag, answer := a, unformatted := decide (s.condition = .unformatted), recovery := false } }

/-- A request refused with a code and nothing else (R193, R200). -/
def refuse (tag : Byte) (c : Code) (s : State) : State :=
  answer tag (.refused c) s

/-- R14's screen: in UNFORMATTED a request is answered NOT_FORMATTED and the state is unchanged. -/
def screened (tag : Byte) (take : State → State) (s : State) : State :=
  match s.condition with
  | .unformatted => refuse tag .notFormatted s
  | .ready => take s

-- Staging memory ----------------------------------------------------------------------------------------------

/-- The byte at an address; an address that is not listed reads 0. -/
def Memory.read (m : Memory) (a : Nat) : Byte :=
  match m with
  | [] => 0
  | (k, v) :: rest => if a < k then 0 else if a = k then v else Memory.read rest a

/-- Writes a byte, keeping addresses rising and no byte 0 listed. -/
def Memory.write (m : Memory) (a : Nat) (b : Byte) : Memory :=
  match m with
  | [] => if b = 0 then [] else [(a, b)]
  | (k, v) :: rest =>
    if a < k then (if b = 0 then (k, v) :: rest else (a, b) :: (k, v) :: rest)
    else if a = k then (if b = 0 then rest else (a, b) :: rest)
    else (k, v) :: Memory.write rest a b

/-- The canonical form: addresses strictly rising and no byte 0 listed. -/
def Memory.wf (m : Memory) : Bool :=
  match m with
  | [] => true
  | (k, v) :: rest => decide (v ≠ 0) && rest.all (fun c => decide (k < c.1)) && Memory.wf rest

/-- The address of byte `j` of a page that starts at offset `start` of a ring: block `start + j / 1,024` of the ring,
modulo its modulus, above its base (R87, R91). Block numbers are those of the 8,192 blocks of staging memory. -/
def pageAddress (shape : RingShape) (start j : Nat) : Nat :=
  ((shape.base + (start + j / Config.blockBytes) % shape.modulus) % Config.stagingBlocks) * Config.blockBytes +
    j % Config.blockBytes

/-- Writes bytes of a page from byte `j` on. -/
def Memory.storePage (shape : RingShape) (start : Nat) : Nat → List Byte → Memory → Memory
  | _, [], m => m
  | j, b :: rest, m => Memory.storePage shape start (j + 1) rest (m.write (pageAddress shape start j) b)

/-- Reads `n` bytes of a page from byte `j` on. -/
def Memory.loadPage (m : Memory) (shape : RingShape) (start j : Nat) : Nat → List Byte
  | 0 => []
  | n + 1 => m.read (pageAddress shape start j) :: Memory.loadPage m shape start (j + 1) n

-- Rings -------------------------------------------------------------------------------------------------------

/-- The ring of drive `d`. -/
def driveRing (d : DriveNo) : Fin 7 := ⟨d.val, by omega⟩

/-- The filing ring, ring 7. -/
def filingRing : Fin 7 := 6

/-- The sum of the lengths of page entries. -/
def entryBlocks (es : List PageEntry) : Nat := (es.map fun e => e.length).sum

/-- Admission (R92): a page of 1 to 64 blocks that fits gets an entry, LIVE and AWAITING, at the tail. -/
def PageRing.admitPage (modulus owner page length : Nat) (r : PageRing) : Option PageRing :=
  if 1 ≤ length ∧ length ≤ Config.maxPageBlocks ∧ r.occupied + length ≤ modulus then
    some { r with
      fill := (r.fill + length) % modulus
      occupied := r.occupied + length
      entries := r.entries ++ [{ owner := owner, page := page, length := length, start := r.fill, live := true,
                                 filled := false, streaming := false, held := false }] }
  else none

/-- Reclamation (R94): RELEASED entries at the head leave, advancing drain and lowering occupied. -/
def PageRing.reclaim (modulus : Nat) (r : PageRing) : PageRing :=
  let gone := r.entries.takeWhile fun e => !e.live
  if gone = [] then r
  else { r with
    drain := (r.drain + entryBlocks gone) % modulus
    occupied := r.occupied - entryBlocks gone
    entries := r.entries.dropWhile fun e => !e.live }

/-- Releases one entry: a streaming entry's release is held, any other takes effect at once (R94, R97). -/
def PageEntry.release (e : PageEntry) : PageEntry :=
  if e.streaming then { e with held := true } else { e with live := false }

/-- Releases every LIVE entry that `p` picks, then reclaims (R94). -/
def PageRing.release (modulus : Nat) (p : PageEntry → Bool) (r : PageRing) : PageRing :=
  ({ r with entries := r.entries.map fun e => if e.live && p e then e.release else e } : PageRing).reclaim modulus

/-- The AWAITING entry of a page becomes FILLED if it is still LIVE (R93). -/
def PageRing.fillEntry (owner page : Nat) (r : PageRing) : PageRing :=
  { r with entries := r.entries.map fun e =>
      if e.owner = owner ∧ e.page = page ∧ e.live = true ∧ e.filled = false then { e with filled := true } else e }

/-- The modulus in force of a ring. -/
def State.modulus (s : State) (r : Fin 7) : Nat := s.cfg.layout[r].modulus

/-- Releases in ring `r` (R94). -/
def releaseIn (r : Fin 7) (p : PageEntry → Bool) (s : State) : State :=
  s.modRing r fun g => g.release (s.modulus r) p

/-- Releases every drive-ring entry of an order (R97, R118, R121). -/
def releaseOrder (n : Nat) (s : State) : State :=
  s.forDrives fun d t => releaseIn (driveRing d) (fun e => decide (e.owner = n)) t

/-- Releases every filing-ring entry of a lodgement (R98). -/
def releaseLodgement (n : Nat) (s : State) : State :=
  releaseIn filingRing (fun e => decide (e.owner = n)) s

/-- A ring holds a LIVE entry (R112). -/
def PageRing.hasLive (r : PageRing) : Bool := r.entries.any fun e => e.live

/-- The head entry of a ring when it is LIVE and FILLED, which the ring offers to the arbiter (R97). -/
def PageRing.offered (r : PageRing) : Option PageEntry :=
  match r.entries with
  | [] => none
  | e :: _ => if e.live && e.filled then some e else none

-- Orders and lodgements ---------------------------------------------------------------------------------------

/-- The order of a number in the fetch queue, or none. -/
def State.order? (s : State) (n : Nat) : Option FetchOrder :=
  s.fetch.queue.find? fun o => o.number = n

/-- Changes the order of number `n`. -/
def State.modOrder (n : Nat) (f : FetchOrder → FetchOrder) (s : State) : State :=
  s.modFetch fun q => { q with queue := q.queue.map fun o => if o.number = n then f o else o }

/-- The lodgement of a number in the table, or none. -/
def State.lodgement? (s : State) (n : Nat) : Option Lodgement :=
  s.filing.table.find? fun l => l.number = n

/-- Changes the lodgement of number `n`. -/
def State.modLodgement (n : Nat) (f : Lodgement → Lodgement) (s : State) : State :=
  s.modFiling fun g => { g with table := g.table.map fun l => if l.number = n then f l else l }

/-- The next number after `last` that is not in use, counting 65,535 on to 1 (R106, R129). `tries` bounds the search:
one more than the numbers in use always finds one. -/
def nextNumber (used : List Nat) : Nat → Nat → Nat
  | 0, last => last
  | tries + 1, last =>
    let n := if last < Config.maxNumber then last + 1 else 1
    if used.contains n then nextNumber used tries n else n

/-- The sum of a list of page lengths. -/
def sumBlocks (ls : List Nat) : Nat := ls.sum

end Sys2Proof.Machine
end

