-- ==== Sys2Proof/Machine/Fees.lean ====
section
/-!
DEFINITION. The fee computation in its four stages (R158 to R165), the posting (R171), the settlement (R172, R181) and
the limits of an account's figures (R168).
-/
namespace Sys2Proof.Machine

/-- A spread position with its three binary digits in reverse order (Table 8-2). -/
def rev (k : Nat) : Nat := k % 2 * 4 + k / 2 % 2 * 2 + k / 4 % 2

/-- The pence page `i` carries from phase `φ` at a page rate of `r8` eighths (R159). -/
def pagePence (r8 φ i : Nat) : Nat :=
  r8 / 8 + if rev ((φ + i) % 8) < r8 % 8 then 1 else 0

/-- Stage 1: the page charge P, the sum over pages 0 to p - 1 (R159). -/
def pageCharge (r8 φ : Nat) : Nat → Nat
  | 0 => 0
  | p + 1 => pageCharge r8 φ p + pagePence r8 φ p

/-- Convergent rounding of x / 10,000: exact halves go to the even neighbour (R163). -/
def roundEven (x : Nat) : Nat :=
  let q := x / 10000
  let r := x % 10000
  if r < 5000 then q
  else if 5000 < r then q + 1
  else if q % 2 = 0 then q
  else q + 1

/-- Stage 2: the subtotal B (R162). -/
def subtotal (e : FeeEntry) (page : Nat) (kind : OrderKind) (historical : Bool) : Nat :=
  e.document + page + (if kind = .certified then e.certified else 0) + (if historical then e.historical else 0)

/-- Stage 3: the net N, the subtotal less the rounded discount (R164). -/
def netOf (b discount : Nat) : Nat := b - roundEven (b * discount)

/-- Stage 4: the total T, the net with the rounded duty (R165). -/
def totalOf (n duty : Nat) : Nat := n + roundEven (n * duty)

/-- The fee of an order from its schedule entry, the duty rate, and the discount and spread phase of its account
(R158). -/
def feeOf (e : FeeEntry) (duty discount φ pages : Nat) (kind : OrderKind) (historical : Bool) : Nat :=
  totalOf (netOf (subtotal e (pageCharge e.rate φ pages) kind historical) discount) duty

/-- The discount rate of an account: 0 for a CASH account (R158). -/
def Account.rate (a : Account) : Nat :=
  match a.kind with
  | .cash => 0
  | .credit => a.discount

/-- The fee of a completing order as the schedule, the duty rate and its account stand (R157, R158). -/
def State.feeFor (s : State) (o : FetchOrder) : Nat :=
  let a := s.fees.accounts[o.account]
  feeOf s.fees.schedule[o.feeClass] s.fees.duty a.rate a.phase o.loc.pages o.kind o.historical

-- Figures held at their limits --------------------------------------------------------------------------------

/-- A signed sum held within its limits (R168). -/
def holdSigned (x : Int) : Int := max (-(Config.maxSum : Int)) (min (Config.maxSum : Int) x)

/-- An account's figures after a sum is charged and counted: each held at its limit, the clamp flag set where one was
(R168, R171). -/
def Account.charge (fee pages : Nat) (a : Account) : Account :=
  { a with
    pending := holdSigned (a.pending + fee)
    posted := min Config.maxSum (a.posted + fee)
    charged := min Config.maxCharged (a.charged + 1)
    phase := (a.phase + pages) % 8
    clamp := a.clamp || decide (holdSigned (a.pending + fee) ≠ a.pending + fee) ||
      decide (Config.maxSum < a.posted + fee) || decide (Config.maxCharged < a.charged + 1) }

/-- The amount of a settlement that is applied: an amount above 999,999,999 is taken as that (R172, R181). -/
def amountApplied (amount : Nat) : Nat := min Config.maxSum amount

/-- An account's figures after a settlement (R168, R172). -/
def Account.settleBy (amount : Nat) (a : Account) : Account :=
  let x := amountApplied amount
  { a with
    pending := holdSigned (a.pending - x)
    settled := min Config.maxSum (a.settled + x)
    clamp := a.clamp || decide (Config.maxSum < amount) || decide (holdSigned (a.pending - x) ≠ a.pending - x) ||
      decide (Config.maxSum < a.settled + x) }

/-- An account after DAY_CLOSE (R173). -/
def Account.closeDay (a : Account) : Account :=
  { a with dayOpen := a.pending, posted := 0, settled := 0, charged := 0, clamp := false }

/-- The counter of an account, none for account 0 (R167). -/
def counterOf (a : Fin 13) : Option CounterNo :=
  if h : 1 ≤ a.val then some ⟨a.val - 1, by omega⟩ else none

/-- The account of a counter (R167). -/
def accountOfCounter (n : CounterNo) : Fin 13 := ⟨n.val + 1, by omega⟩

end Sys2Proof.Machine
end

