-- ==== Sys2Proof/Machine/CounterLine.lean ====
section
/-!
DEFINITION. The counter line controller's shared operations: the choice of a transaction (R175), post queues (R180),
failed and completed attempts (R178, R179), and the application of a settlement (R172, R181).
-/
namespace Sys2Proof.Machine

/-- The counters in the cyclic order 1 to 12 that begins after counter `last`, 0 standing for none (R175). -/
def countersAfter (last : Nat) : List CounterNo :=
  (allCounters.filter fun n => last < n.val + 1) ++ allCounters.filter fun n => n.val + 1 ≤ last

/-- The next counter a post serves: PRESENT with a waiting item (R175). -/
def Line.nextPost (l : Line) : Option CounterNo :=
  (countersAfter l.lastServed).find? fun n => l.counters[n].present && decide (l.counters[n].posts ≠ [])

/-- The lowest counter due for a poll (R175). -/
def Line.nextPoll (l : Line) : Option CounterNo :=
  allCounters.find? fun n => l.counters[n].due

/-- A POST of the oldest item of counter `n` begins (R175, R176). -/
def beginPost (n : CounterNo) (s : State) : State :=
  match s.line.counters[n].posts with
  | item :: _ =>
    s.modLine fun l => { l with
      lastServed := n.val + 1
      trans := some (.post n item false s.cfg.addrPrefix s.cfg.rate) }
  | [] => s

/-- A POLL of counter `n` begins, its due mark cleared (R175, R177). -/
def beginPoll (n : CounterNo) (s : State) : State :=
  (s.modCounter n fun c => { c with due := false }).modLine fun l =>
    { l with trans := some (.poll n false s.cfg.addrPrefix s.cfg.rate) }

/-- The controller chooses its next transaction when none is in progress and the clock is not held low: a post, else a
poll, else none (R175, R178). None is begun in UNFORMATTED (R14). -/
def lineChoose (s : State) : State :=
  if s.line.trans = none ∧ s.line.clockHeld = false ∧ s.condition = .ready then
    match s.line.nextPost with
    | some n => beginPost n s
    | none =>
      match s.line.nextPoll with
      | some n => beginPoll n s
      | none => s
  else s

/-- The last item of a full queue with a new item merged into it: the fees added, held at 16,777,215, the order number and
pending after replaced (R180). -/
def PostItem.merge (last item : PostItem) : PostItem where
  order := item.order
  fee := min Config.maxPostFee (last.fee + item.fee)
  pending := item.pending

/-- A post queue after an item is offered: it joins the tail, or is merged into the last item of a full queue (R180). -/
def offerTo (item : PostItem) (posts : List PostItem) : List PostItem :=
  if posts.length < Config.maxPosts then posts ++ [item]
  else
    match posts.getLast? with
    | some last => posts.dropLast ++ [last.merge item]
    | none => [item]

/-- An item is offered to a counter's post queue (R180). -/
def offerItem (n : CounterNo) (item : PostItem) (s : State) : State :=
  s.modCounter n fun c => { c with posts := offerTo item c.posts }

/-- The refresh item carrying a pending balance (R172). -/
def refreshItem (pending : Int) : PostItem where
  order := 0
  fee := 0
  pending := pending

/-- An item is offered for the counter of an account, if it has one, and the controller chooses (R171, R172, R175). -/
def offerForAccount (a : Fin 13) (item : PostItem) (s : State) : State :=
  match counterOf a with
  | some n => lineChoose (offerItem n item s)
  | none => s

/-- A completed transaction zeroes the counter's failure count (R179). -/
def attemptGood (n : CounterNo) (s : State) : State :=
  s.modCounter n fun c => { c with failures := 0 }

/-- A failed attempt raises the count, held at 3; a PRESENT counter whose count reaches 3 becomes ABSENT with a notice
(R179). -/
def attemptFailed (n : CounterNo) (s : State) : State :=
  let c := s.line.counters[n]
  let f := min Config.absentFailures (c.failures + 1)
  if c.present = true ∧ Config.absentFailures ≤ f then
    queueNotice (.counterAbsent (n.val + 1)) (s.modCounter n fun r => { r with failures := f, present := false })
  else s.modCounter n fun r => { r with failures := f }

/-- The address of an ABSENT counter is acknowledged in a POLL: it becomes PRESENT with count 0 (R179). -/
def addressAcked (n : CounterNo) (s : State) : State :=
  s.modCounter n fun c => if c.present then c else { c with present := true, failures := 0 }

/-- No transaction is in progress. -/
def endTransaction (s : State) : State := s.modLine fun l => { l with trans := none }

/-- The counter a transaction addresses. -/
def Transaction.counter : Transaction → CounterNo
  | .post n _ _ _ _ => n
  | .poll n _ _ _ => n

/-- A settlement is applied to an account (R172). -/
def applySettlement (a : Fin 13) (amount : Nat) (s : State) : State :=
  s.modAccount a (Account.settleBy amount)

/-- A collected settlement (R181): the account, COUNTER_SETTLED, and the refresh item. -/
def settleCounter (n : CounterNo) (amount : Nat) (s : State) : State :=
  let s1 := applySettlement (accountOfCounter n) amount s
  let pending := s1.fees.accounts[accountOfCounter n].pending
  offerItem n (refreshItem pending)
    (queueNotice (.counterSettled (n.val + 1) (amountApplied amount) pending) s1)

/-- The posting of a completing order (R171): the account is charged and a post item offered. -/
def postFee (o : FetchOrder) (s : State) : State :=
  let fee := s.feeFor o
  let s1 := s.modAccount o.account (Account.charge fee o.loc.pages)
  offerForAccount o.account { order := o.number, fee := fee, pending := s1.fees.accounts[o.account].pending } s1

/-- The poll timer starts for the poll interval in force (R175). -/
def startPollTimer (s : State) : State :=
  s.modLine fun l => { l with poll := some (s.now + s.cfg.timing.poll.quarters) }

/-- The counter line's refresh (R18, R182): the post queues hold one refresh item each with its account's pending
balance, the due marks are clear, no counter was served, and the poll timer starts. -/
def refreshLine (s : State) : State :=
  startPollTimer ((s.forCounters fun n t => t.modCounter n fun c =>
    { c with due := false, posts := [refreshItem t.fees.accounts[accountOfCounter n].pending] }).modLine fun l =>
    { l with lastServed := 0 })

end Sys2Proof.Machine
end

