-- ==== Sys2Proof/Machine/Picker.lean ====
section
/-!
DEFINITION. The picker: the load window, the destination of each task, the choice among queued tasks and the beginning
and end of a task (R44, R72 to R75).
-/
namespace Sys2Proof.Machine

/-- The picker window in force, in units of 0.25 s. -/
def State.window (s : State) : Nat := s.cfg.timing.window.quarters

/-- The load starts lying within the window at the present time (R74). -/
def State.startsWithin (s : State) : List Nat :=
  s.picker.starts.filter fun t => s.now - t < s.window

/-- The reopening timer runs, while four starts lie within the window, to the time the oldest of them leaves it (R74). -/
def setReopening (s : State) : State :=
  let reopening := match s.startsWithin with
    | t :: rest => if Config.windowLoads ≤ (t :: rest).length then some (t + s.window) else none
    | [] => none
  s.modPicker fun p => { p with reopening := reopening }

/-- A LOAD's beginning joins the load starts; the oldest leaves if five would stand (R74). -/
def recordStart (s : State) : State :=
  setReopening (s.modPicker fun p =>
    let starts := p.starts ++ [s.now]
    { p with starts := if starts.length ≤ Config.windowLoads then starts else starts.drop 1 })

/-- The slot a cartridge returned from a drive or the picker goes to: its home slot, or the lowest open slot when the
home slot is blocked or there is no record (R44, R71). -/
def State.returnSlot (s : State) (cart : Option Nat) : Option Nat :=
  match (cart.bind s.cart?).bind fun r => r.home with
  | some h => if s.lib.blocked.contains h then s.lib.lowestOpen else some h
  | none => s.lib.lowestOpen

/-- The cartridge lies in its home slot. -/
def Cartridge.atHome (r : Cartridge) : Option Nat :=
  match r.home with
  | some h => if r.place = .slot h then some h else none
  | none => none

/-- The home slot a cartridge lies in, if it lies there. -/
def State.homeOf (s : State) (cart : Option Nat) : Option Nat :=
  (cart.bind s.cart?).bind Cartridge.atHome

/-- A sweep return of a cartridge that lies in the picker's grip: it makes no pick (R60). -/
def Task.fromGrip (t : Task) : Bool := decide (t.kind = .unload) && decide (t.drive = none)

/-- With no task in progress, the picker's grip holds a cartridge: one whose record says so, or an unrecorded one whose
return is queued (R42, R60). -/
def State.gripHeld (s : State) : Bool :=
  (s.lib.carts.any fun r => decide (r.place = .picker)) || s.picker.queue.any Task.fromGrip

/-- The destination of a task as Table 4-3 gives it; none when the task waits. An unrecorded cartridge in the picker goes
to the mail slot when no slot is open and the mail slot is EMPTY (R60). -/
def State.destination (s : State) (t : Task) : Option PickPoint :=
  match t.kind with
  | .unload =>
    match s.returnSlot t.cart with
    | some n => some (.slot n)
    | none => if t.cart = none ∧ t.drive = none ∧ s.lib.mail = false then some .mail else none
  | .load =>
    match t.cart, t.drive with
    | some c, some d =>
      if s.drives[d].state = .empty ∧ s.drives[d].reserved = some ⟨c, t.side⟩ ∧ (s.homeOf t.cart).isSome ∧
          s.startsWithin.length < Config.windowLoads then some (.drive d) else none
    | _, _ => none
  | .importTask =>
    match t.cart.bind s.cart? with
    | some r => if r.place = .mail then r.home.map .slot else none
    | none => none
  | .exportTask => if (s.homeOf t.cart).isSome ∧ s.lib.mail = false then some .mail else none

/-- The destination of a task that can be begun now; none when it cannot. The picker holds one cartridge at a time, so a
task that picks is not begun while the grip holds one (R42; DEDUCED, notes/assumptions/42.md). -/
def State.taskTarget (s : State) (t : Task) : Option PickPoint :=
  if s.gripHeld && !t.fromGrip then none else s.destination t

/-- Where a task picks from: nowhere, for a sweep return from the picker. -/
def State.taskSource (s : State) (t : Task) : Option PickPoint :=
  match t.kind with
  | .unload => t.drive.map .drive
  | .load => (s.homeOf t.cart).map .slot
  | .importTask => some .mail
  | .exportTask => (s.homeOf t.cart).map .slot

/-- The task leaves the queue and is in progress, the picker BUSY (R72, R73). -/
def setActive (t : Task) (target : PickPoint) (s : State) : State :=
  let source := s.taskSource t
  s.modPicker fun p => { p with
    state := .busy
    queue := p.queue.erase t
    active := some { task := t, picked := source.isNone, source := source, target := target, waiting := false,
                     wasMounted := t.drive.bind fun d => s.drives[d].mounted } }

/-- A cartridge's home slot becomes `n` (R44). -/
def setHome (cart : Option Nat) (n : Nat) (s : State) : State :=
  match cart with
  | some c => s.modCart c fun r => { r with home := some n }
  | none => s

/-- Beginning a task: an UNLOAD fixes its destination as the home slot; a LOAD puts its drive in LOADING and counts in
the load window (R44, R75). -/
def beginTask (t : Task) (target : PickPoint) (s : State) : State :=
  let s1 := setActive t target s
  match t.kind, target, t.drive with
  | .unload, .slot n, _ => setHome t.cart n s1
  | .load, _, some d => recordStart (s1.modDrive d fun dr => { dr with state := .loading })
  | _, _, _ => s1

/-- The oldest task of the given kinds that can be begun. -/
def State.oldest (s : State) (kinds : TaskKind → Bool) : Option Task :=
  s.picker.queue.find? fun t => kinds t.kind && (s.taskTarget t).isSome

/-- The task the picker would take: UNLOADs first, then LOADs, then IMPORTs and EXPORTs (R73). -/
def State.nextTask (s : State) : Option Task :=
  match s.oldest (· = .unload) with
  | some t => some t
  | none =>
    match s.oldest (· = .load) with
    | some t => some t
    | none => s.oldest fun k => k = .importTask || k = .exportTask

/-- The picker in IDLE makes its choice (R73). The mechanism reset is the first mechanism work: no task is begun
before it completes (R60). -/
def pickerChoose (s : State) : State :=
  if s.picker.state = .idle ∧ s.mechReset = false then
    match s.nextTask with
    | some t =>
      match s.taskTarget t with
      | some target => beginTask t target s
      | none => s
    | none => s
  else s

/-- A task joins the tail of the queue (R72). -/
def enqueue (t : Task) (s : State) : State :=
  s.modPicker fun p => { p with queue := p.queue ++ [t] }

/-- The task in progress ends: the picker is IDLE (R73). A picker in FAULT stays so. -/
def endTask (s : State) : State :=
  s.modPicker fun p => { p with
    state := if p.state = .fault then .fault else .idle
    active := none }

/-- The LOAD queued for a drive leaves the queue and the drive's reservation is cleared (R68, R71, R75, R81). -/
def dropReservation (d : DriveNo) (s : State) : State :=
  (s.modDrive d fun dr => { dr with reserved := none }).modPicker fun p =>
    { p with queue := p.queue.filter fun t => !(decide (t.kind = .load) && decide (t.drive = some d)) }

end Sys2Proof.Machine
end

