-- ==== Sys2Proof/Machine/Drives.lean ====
section
/-!
DEFINITION. What the drive channels and the drive allocator share: linger and release (R67, R69), the allocator (R77 to
R80), work joining a drive (R68), the withdrawal of LOADs (R75) and the pins (R70).
-/
namespace Sys2Proof.Machine

-- Linger and release ------------------------------------------------------------------------------------------

/-- A drive's mounted cartridge has a record in the cartridge table (R69, R78). -/
def State.recorded (s : State) (dr : Drive) : Bool :=
  match dr.mounted with
  | some sd => !dr.unrecorded && (s.cart? sd.cart).isSome
  | none => false

/-- The conditions under which the linger timer runs (R69). -/
def State.lingers (s : State) (dr : Drive) : Bool :=
  decide (dr.state = .idle) && decide (dr.work = []) && !dr.pin && !dr.releasePending && s.recorded dr &&
    decide (s.picker.state ≠ .fault)

/-- Linger is judged: the timer starts when its conditions first hold together, and stops when one fails (R69). -/
def lingerJudge (d : DriveNo) (s : State) : State :=
  s.modDrive d fun dr => { dr with
    linger := if s.lingers dr then some (dr.linger.getD (s.now + s.cfg.timing.linger.quarters)) else none }

/-- A release is asked of a drive (R67): with the hold timer running it is pending, otherwise the spin-down is issued.
No release is asked while the picker is in FAULT (R76). -/
def askRelease (d : DriveNo) (s : State) : State :=
  let dr := s.drives[d]
  if s.picker.state = .fault ∨ dr.state ≠ .idle ∨ dr.releasePending = true then s
  else if dr.hold.isSome then
    s.modDrive d fun r => { r with releasePending := true, linger := none }
  else
    s.modDrive d fun r => { r with state := .spindown, linger := none }

/-- The cartridge a drive holds carries the leaving mark; an unrecorded one carries none (R55, R71). -/
def State.holdsLeaving (s : State) (dr : Drive) : Bool :=
  !dr.unrecorded && dr.mounted.any fun sd => s.isLeaving sd.cart

/-- The release of an IDLE drive holding an unrecorded cartridge is asked when a slot is open (R71). -/
def releaseUnrecorded (d : DriveNo) (s : State) : State :=
  if s.drives[d].unrecorded && s.lib.lowestOpen.isSome then askRelease d s else s

/-- A cartridge the picker was left holding for want of an open slot is placed in one (R44). -/
def retarget (s : State) : State :=
  match s.picker.active with
  | some a =>
    match a.waiting, a.target, s.lib.lowestOpen with
    | true, .slot _, some n =>
      setHome a.task.cart n (s.modPicker fun p =>
        { p with active := some { a with waiting := false, target := .slot n } })
    | _, _, _ => s
  | none => s

/-- A slot may have become open (R44, R71): a held cartridge, the drives with unrecorded cartridges and the picker are
met again. -/
def slotOpened (s : State) : State :=
  pickerChoose ((retarget s).forDrives releaseUnrecorded)

-- The drive allocator -----------------------------------------------------------------------------------------

/-- The write engine has a lodgement ready for the active filing side: steps DRIVE and READY (R134). -/
def Filing.readyForSide (g : Filing) : Bool :=
  match g.hand with
  | some (_, .drive) => true
  | some (_, .ready) => true
  | _ => false

/-- A side has waiting work (R77). -/
def State.hasWork (s : State) (sd : SideId) : Bool :=
  s.fetch.queue.any (fun o => decide (o.state = .waiting) && decide (o.loc.sideId = sd)) ||
    (s.filing.readyForSide && decide (s.lib.active = some sd))

/-- An order is COUNTER, or older than the promotion age in force (R77). -/
def State.urgent (s : State) (o : FetchOrder) : Bool :=
  decide (o.priority = .counter) || decide (s.now - o.takeIn > s.cfg.timing.promotion.quarters)

/-- The sides of the WAITING orders, each by its oldest order, in take-in order. -/
def oldestPerSide : List FetchOrder → List SideId → List FetchOrder
  | [], _ => []
  | o :: rest, seen =>
    if o.state = .waiting ∧ ¬ o.loc.sideId ∈ seen then o :: oldestPerSide rest (o.loc.sideId :: seen)
    else oldestPerSide rest seen

/-- The sides with waiting work in the allocator's order: the active filing side, then the urgent ones, then the rest
(R77). -/
def State.sidesInOrder (s : State) : List SideId :=
  let heads := oldestPerSide s.fetch.queue []
  (if s.filing.readyForSide then s.lib.active.toList else []) ++
    (heads.filter s.urgent).map (fun o => o.loc.sideId) ++
    (heads.filter fun o => !s.urgent o).map fun o => o.loc.sideId

/-- A side being mounted: its cartridge is in a drive in SPINUP with that side facing the head (section 4.1). -/
def Drive.mounting (dr : Drive) (sd : SideId) : Bool :=
  decide (dr.state = .spinup) && !dr.unrecorded && decide (dr.mounted = some sd)

/-- A side with waiting work is a candidate when it is neither mounted, being mounted, nor reserved (R77). -/
def State.candidate (s : State) (sd : SideId) : Bool :=
  allDrives.all fun d =>
    !s.drives[d].mountsSide sd && !s.drives[d].mounting sd && decide (s.drives[d].reserved ≠ some sd)

/-- An IDLE drive free for another side: empty work list, clear pin, no reserved side (R78, R79). -/
def Drive.idleFree (dr : Drive) : Bool :=
  decide (dr.state = .idle) && decide (dr.work = []) && !dr.pin && decide (dr.reserved = none)

/-- A candidate's cartridge bars it for this run: by the drive it is in (R77, R79). -/
def State.barredByDrive (s : State) (sd : SideId) : Place → Bool
  | .drive d =>
    decide (s.drives[d].state = .spindown) || decide (s.drives[d].state = .unloading) ||
      (decide (s.drives[d].mounted = some sd.other) && !s.drives[d].idleFree)
  | .picker => true
  | .mail => true
  | .offline => true
  | .slot _ => false

/-- A candidate passed over in this run (R77). -/
def State.passedOver (s : State) (sd : SideId) : Bool :=
  match s.cart? sd.cart with
  | none => true
  | some r =>
    s.trapped sd.cart || s.isLeaving sd.cart || s.barredByDrive sd r.place ||
      allDrives.any fun d => decide (s.drives[d].reserved = some sd.other)

/-- Drive `e` is offered before drive `d` among IDLE drives: earlier idle since, or lower where equal (R78). -/
def State.earlier (s : State) (d : DriveNo) : Option DriveNo → DriveNo
  | none => d
  | some e => if s.drives[d].idleSince < s.drives[e].idleSince then d else e

/-- The first available drive: EMPTY drives by number, then IDLE drives by idle since (R78). -/
def State.firstAvailable (s : State) : Option DriveNo :=
  match allDrives.find? fun d => decide (s.drives[d].state = .empty) && decide (s.drives[d].reserved = none) with
  | some d => some d
  | none =>
    (allDrives.filter fun d => s.drives[d].idleFree && s.recorded s.drives[d]).foldl
      (fun best d => some (s.earlier d best)) none

/-- The drive a candidate may take: the drive that mounts its cartridge's other side, and no other, or else the first
available (R79). -/
def State.driveFor (s : State) (sd : SideId) : Option DriveNo :=
  match s.mountedOn sd.other with
  | some d => if s.drives[d].idleFree then some d else none
  | none => s.firstAvailable

/-- Allocation of drive `d` to a side (R80): the reservation, the LOAD, and the release of an IDLE drive. -/
def allocate (d : DriveNo) (sd : SideId) (s : State) : State :=
  askRelease d (enqueue { kind := .load, cart := some sd.cart, side := sd.side, drive := some d }
    (s.modDrive d fun dr => { dr with reserved := some sd }))

/-- The allocator meets one side (R77, R78). -/
def allocateSide (s : State) (sd : SideId) : State :=
  if s.candidate sd && !s.passedOver sd then
    match s.driveFor sd with
    | some d => allocate d sd s
    | none => s
  else s

/-- The drive allocator (R77), which does not run while the picker is in FAULT. The picker chooses again when a LOAD
joined its queue. -/
def runAllocator (s : State) : State :=
  if s.picker.state = .fault then s
  else
    let t := s.sidesInOrder.foldl allocateSide s
    if t.picker.queue = s.picker.queue then t else pickerChoose t

-- Work --------------------------------------------------------------------------------------------------------

/-- Work joins the tail of a drive's work list (R66). Joining an empty list stops linger and withdraws a pending
release, with the drive's reservation and its LOAD (R68). -/
def workJoin (d : DriveNo) (w : Work) (s : State) : State :=
  let dr := s.drives[d]
  let s1 := s.modDrive d fun r => { r with work := r.work ++ [w], linger := none }
  if dr.work = [] ∧ dr.releasePending = true then
    let s2 := s1.modDrive d fun r => { r with releasePending := false }
    if dr.reserved.isSome then runAllocator (dropReservation d s2) else s2
  else s1

/-- A LOAD not yet begun is queued for drive `d`. -/
def State.loadQueued (s : State) (d : DriveNo) : Bool :=
  s.picker.queue.any fun t => decide (t.kind = .load) && decide (t.drive = some d)

/-- Withdraws the LOAD queued for a side left with no waiting work (R75); the allocator runs for the drive freed. -/
def withdrawLoad (sd : SideId) (s : State) : State :=
  if s.hasWork sd then s
  else
    let held := allDrives.filter fun d => decide (s.drives[d].reserved = some sd) && s.loadQueued d
    if held = [] then s else runAllocator (held.foldl (fun t d => dropReservation d t) s)

-- Pins --------------------------------------------------------------------------------------------------------

/-- A drive's pin: it mounts the active filing side and a lodgement is STAGED, WRITING or VERIFYING (R70). -/
def State.pinned (s : State) (dr : Drive) : Bool :=
  (match s.lib.active with
   | some sd => dr.mountsSide sd
   | none => false) &&
  s.filing.table.any fun l => decide (l.state ≠ .receiving)

/-- The pin of a drive is judged: set, it stops linger; newly clear, linger is judged (R69, R70). -/
def judgePin (d : DriveNo) (s : State) : State :=
  let dr := s.drives[d]
  if s.pinned dr then s.modDrive d fun r => { r with pin := true, linger := none }
  else if dr.pin then lingerJudge d (s.modDrive d fun r => { r with pin := false })
  else s

/-- Every pin is judged (R70). -/
def judgePins (s : State) : State := s.forDrives judgePin

end Sys2Proof.Machine
end

