-- ==== Sys2Proof/Machine/Choice.lean ====
section
/-!
DEFINITION. The page-boundary choice of a drive and the runs it begins (R64, R111 to R113), and the removal of an order
with its failure (R118).
-/
namespace Sys2Proof.Machine

/-- The extent of the lodgement of a number, if it has one (R137). -/
def State.extentOf (s : State) (n : Nat) : Option Location := (s.lodgement? n).bind fun l => l.extent

/-- The write work ready on drive `d`, with its extent: the lodgement in hand is in step READY, its work stands in the
drive's list and the drive mounts the active filing side (R111). -/
def State.readyWrite (s : State) (d : DriveNo) : Option (Nat × Location) :=
  match s.filing.hand, s.lib.active with
  | some (n, .ready), some sd =>
    if s.drives[d].work.contains (.write n) && s.drives[d].mountsSide sd then (s.extentOf n).map fun e => (n, e) else none
  | _, _ => none

/-- The write run of the lodgement in hand begins, over its extent (R140). -/
def beginWrite (d : DriveNo) (n : Nat) (e : Location) (s : State) : State :=
  ((s.modLodgement n fun l => { l with state := .writing, attempts := l.attempts + 1 }).modFiling fun g =>
      { g with hand := some (n, .run) }).modDrive d fun r =>
    { r with state := .writing, run := some { kind := .write, owner := n, page := 0, region := e.region, mark := .live } }

/-- A choice that yields no run leaves the drive IDLE (R112): linger is judged, a release asked for by an EXPORT or an
unrecorded cartridge is met (R55, R71), and an idle drive with no work makes the allocator run (R77). -/
def settleIdle (d : DriveNo) (s : State) : State :=
  let dr := s.drives[d]
  let s1 := s.modDrive d fun r => { r with
    state := .idle
    idleSince := if dr.state = .idle then r.idleSince else s.now
    run := none }
  let s2 := lingerJudge d s1
  let s3 := if s.holdsLeaving dr then askRelease d s2 else s2
  let s4 := releaseUnrecorded d s3
  if dr.work = [] ∧ dr.pin = false then runAllocator s4 else s4

/-- The read of an order is held: the write run begins if it is ready, else the drive is STALLED (R112). -/
def holdRead (d : DriveNo) (s : State) : State :=
  match s.readyWrite d with
  | some (n, e) => beginWrite d n e s
  | none => s.modDrive d fun r => { r with state := .stalled, run := none }

/-- The index read of an order begins: the one block at the location's start (R110). -/
def beginIndexRead (d : DriveNo) (o : FetchOrder) (s : State) : State :=
  (s.modOrder o.number fun o => { o with state := .reading }).modDrive d fun r =>
    { r with state := .reading
             run := some { kind := .index, owner := o.number, page := 0, region := o.loc.indexRegion, mark := .live } }

/-- The read of an order's next page, where R110 says that it lies. -/
def FetchOrder.pageRun (o : FetchOrder) (lengths : List Nat) : Run where
  kind := .page
  owner := o.number
  page := o.read + 1
  region := o.loc.pageRegion lengths o.read
  mark := .live

/-- A page read is judged for page halt and ring room, and begins with its entry admitted, or is held (R112). -/
def beginPageRead (d : DriveNo) (o : FetchOrder) (lengths : List Nat) (s : State) : State :=
  let g := s.rings[driveRing d]
  let u := o.pageRun lengths
  if s.link.halt && g.hasLive then holdRead d s
  else
    match g.admitPage (s.modulus (driveRing d)) u.owner u.page u.region.blocks with
    | some g' =>
      (s.modRing (driveRing d) fun _ => g').modDrive d fun r => { r with state := .reading, run := some u }
    | none => holdRead d s

/-- The next read of the order chosen: its index read, or the read of its next page (R112). -/
def chooseRead (d : DriveNo) (o : FetchOrder) (s : State) : State :=
  match o.lengths with
  | none => beginIndexRead d o s
  | some ls => beginPageRead d o ls s

/-- The oldest order of a priority in a drive's work list (R111). -/
def State.oldestIn (s : State) (d : DriveNo) (p : Priority) : Option FetchOrder :=
  s.fetch.queue.find? fun o => decide (o.priority = p) && s.drives[d].work.contains (.order o.number)

/-- The page-boundary choice: a COUNTER read, then the write run, then a POSTAL read, else none (R111). -/
def choose (d : DriveNo) (s : State) : State :=
  match s.oldestIn d .counter with
  | some o => chooseRead d o s
  | none =>
    match s.readyWrite d with
    | some (n, e) => beginWrite d n e s
    | none =>
      match s.oldestIn d .postal with
      | some o => chooseRead d o s
      | none => settleIdle d s

/-- A drive in IDLE or STALLED with no run in flight makes its choice (R113). -/
def chooseIfFree (d : DriveNo) (s : State) : State :=
  if (s.drives[d].state = .idle ∨ s.drives[d].state = .stalled) ∧ s.drives[d].run = none then choose d s else s

/-- A STALLED drive makes its choice again (R113). -/
def chooseIfStalled (d : DriveNo) (s : State) : State :=
  if s.drives[d].state = .stalled ∧ s.drives[d].run = none then choose d s else s

/-- The run of a drive has ended. -/
def endRun (d : DriveNo) (s : State) : State :=
  s.modDrive d fun r => { r with run := none }

/-- The ending of a run is discarded and the drive makes its choice (R65). -/
def discardEnding (d : DriveNo) (s : State) : State :=
  choose d (endRun d s)

/-- The STALLED drives whose rings' occupied figure fell since `before` make their choice again (R95). -/
def wakeLowered (before s : State) : State :=
  s.forDrives fun d t =>
    if t.rings[driveRing d].occupied < before.rings[driveRing d].occupied then chooseIfStalled d t else t

/-- An order leaves the fetch queue and every work list; a read run of it in flight is marked for discard (R65). -/
def removeOrder (n : Nat) (s : State) : State :=
  (s.modFetch fun q => { q with queue := q.queue.filter fun o => o.number ≠ n }).forDrives fun d t =>
    t.modDrive d fun r => { r with
      work := r.work.filter fun w => w ≠ .order n
      run := r.run.map fun u =>
        if (u.kind = .index ∨ u.kind = .page) ∧ u.owner = n then { u with mark := .discard } else u }

/-- A PAGE_OUT of an order is streaming (R118, R122). -/
def State.isStreaming (s : State) (n : Nat) : Bool :=
  allDrives.any fun d => s.rings[driveRing d].entries.any fun e => decide (e.owner = n) && e.streaming

/-- The PAGE_OUTs of an order that have ended or are streaming (R118). -/
def State.pagesSent (s : State) (o : FetchOrder) : Nat :=
  o.delivered + if s.isStreaming o.number then 1 else 0

/-- An order fails (R118): it leaves the queue, its entries are released, ORDER_FAILED is queued, and the LOAD of a side
left with no work is withdrawn. -/
def failOrder (n : Nat) (reason : FailReason) (s : State) : State :=
  match s.order? n with
  | none => s
  | some o =>
    let s1 := removeOrder n s
    let s2 := wakeLowered s1 (releaseOrder n s1)
    withdrawLoad o.loc.sideId (queueNotice (.orderFailed n reason (s.pagesSent o)) s2)

/-- Orders fail one after another. -/
def failOrders (ns : List Nat) (reason : FailReason) (s : State) : State :=
  ns.foldl (fun t n => failOrder n reason t) s

end Sys2Proof.Machine
end

