-- ==== Sys2Proof/Machine/Flags.lean ====
section
/-!
DEFINITION. The judged outputs of the request link: HOLD (R184), page halt (R191) and ATTENTION (R195).
-/
namespace Sys2Proof.Machine

/-- The inbound level (R183). -/
def Link.inLevel (k : Link) : Nat := k.inbound.length

/-- The outbound level (R183). -/
def Link.outLevel (k : Link) : Nat := k.outbound.length

/-- The room of the outbound FIFO. -/
def Link.room (k : Link) : Nat := Config.outboundBytes - k.outLevel

/-- A write asserts HOLD when it brings the level to the hold level or above (R184). -/
def Link.holdOnWrite (v : Levels) (k : Link) : Link :=
  { k with hold := k.hold || decide (v.hold ≤ k.inLevel) }

/-- A decoder read releases HOLD when it brings the level to the resume level or below, except during an overflow
recovery (R184, R185). -/
def Link.holdOnRead (v : Levels) (k : Link) : Link :=
  { k with hold := k.overflow || (k.hold && decide (v.resume < k.inLevel)) }

/-- HOLD judged against new levels (R184, R196). -/
def Link.judgeHold (v : Levels) (k : Link) : Link :=
  { k with hold := k.overflow || (if k.hold then decide (v.resume < k.inLevel) else decide (v.hold ≤ k.inLevel)) }

/-- Page halt as judged at a change of the outbound level (R191). -/
def Link.haltJudged (v : Levels) (k : Link) : Bool :=
  if k.halt then decide (v.haltResume < k.outLevel) else decide (v.halt ≤ k.outLevel)

/-- ATTENTION: the last byte of a message is unread, or the level is at the data trigger or above (R195). -/
def Link.attentionJudged (v : Levels) (k : Link) : Bool :=
  k.outbound.any (fun b => b.last) || decide (v.trigger ≤ k.outLevel)

/-- Page halt and ATTENTION judged (R191, R195). -/
def Link.judgeOut (v : Levels) (k : Link) : Link :=
  { k with halt := k.haltJudged v, attention := k.attentionJudged v }

end Sys2Proof.Machine
end

