-- ==== Sys2Proof/Machine/Operands.lean ====
section
/-!
DEFINITION. The operand forms: how each coded or clamped field of a request is read (Table 11-1, R83, R89, R155, R196),
and the codes the part sends for its own enumerated fields.
-/
namespace Sys2Proof.Machine

-- Codes read from requests ------------------------------------------------------------------------------------

/-- A role code (Table 11-1). -/
def roleOf (b : Byte) : Option Role :=
  match b.toNat with
  | 0 => some .archive
  | 1 => some .filing
  | 2 => some .full
  | _ => none

/-- A side code (Table 11-1). -/
def sideOf (b : Byte) : Option Side :=
  match b.toNat with
  | 0 => some .A
  | 1 => some .B
  | _ => none

/-- An order kind code (Table 11-1). -/
def orderKindOf (b : Byte) : Option OrderKind :=
  match b.toNat with
  | 0 => some .plain
  | 1 => some .certified
  | _ => none

/-- An account kind code (Table 11-1). -/
def accountKindOf (b : Byte) : Option AccountKind :=
  match b.toNat with
  | 0 => some .cash
  | 1 => some .credit
  | _ => none

/-- A lodgement kind code (Table 11-1). -/
def lodgeKindOf (b : Byte) : Option LodgeKind :=
  match b.toNat with
  | 0 => some .first
  | 1 => some .transfer
  | 2 => some .charge
  | 3 => some .easement
  | 4 => some .covenant
  | 5 => some .caution
  | 6 => some .discharge
  | 7 => some .withdrawal
  | _ => none

/-- A fee class, 0 to 7 (R23, R25, R155). -/
def feeClassOf (b : Byte) : Option (Fin 8) :=
  if h : b.toNat < 8 then some ⟨b.toNat, h⟩ else none

/-- An account number, 0 to 12 (R101, R169). -/
def accountOf (b : Byte) : Option (Fin 13) :=
  if h : b.toNat < 13 then some ⟨b.toNat, h⟩ else none

/-- A ring number, 1 to 7, as the ring's index (R89). -/
def ringOf (b : Byte) : Option (Fin 7) :=
  if h : 1 ≤ b.toNat ∧ b.toNat ≤ 7 then some ⟨b.toNat - 1, by omega⟩ else none

-- Clamped figures ---------------------------------------------------------------------------------------------

/-- A timer setting: a base code above 3 is malformed; a count of 0 becomes 1 and one above 63 becomes 63 (R83). -/
def settingOf (t : SentSetting) : Option Setting :=
  if t.base.toNat ≤ 3 then some ⟨min 63 (max 1 t.count.toNat), t.base.toNat⟩ else none

/-- The six settings of TIMING, when every base code is good (R83). -/
def timingOf (hold linger window promotion idle poll : SentSetting) : Option Timing := do
  let h ← settingOf hold
  let l ← settingOf linger
  let w ← settingOf window
  let p ← settingOf promotion
  let i ← settingOf idle
  let q ← settingOf poll
  some { hold := h, linger := l, window := w, promotion := p, idle := i, poll := q }

/-- A ring modulus held within 64 to 4,096 (R89). -/
def clampModulus (m : Nat) : Nat := min 4096 (max 64 m)

/-- The alignment of a modulus: the least of 64, 128, ..., 4,096 not below it (Table 5-1). -/
def alignment (m : Nat) : Nat :=
  if m ≤ 64 then 64
  else if m ≤ 128 then 128
  else if m ≤ 256 then 256
  else if m ≤ 512 then 512
  else if m ≤ 1024 then 1024
  else if m ≤ 2048 then 2048
  else 4096

/-- A base rounded down to a multiple of the alignment of a modulus (R89). -/
def alignedBase (base m : Nat) : Nat := base / alignment m * alignment m

/-- Two spans share a block (R89). -/
def RingShape.overlaps (a b : RingShape) : Bool :=
  decide (a.base < b.base + b.modulus) && decide (b.base < a.base + a.modulus)

/-- A level rounded down to a multiple of 64 (R196). -/
def roundLevel (w : Word16) : Nat := w.toNat / 64 * 64

/-- The five levels as LINK_LEVELS clamps them, in the order R196 states. -/
def clampLevels (hold resume halt haltResume trigger : Word16) : Levels :=
  let h := min 1024 (max 64 (roundLevel hold))
  let p := min 3840 (max 64 (roundLevel halt))
  { hold := h
    resume := min (h - 64) (roundLevel resume)
    halt := p
    haltResume := min (p - 64) (roundLevel haltResume)
    trigger := min 4032 (max 64 (roundLevel trigger)) }

-- Codes sent --------------------------------------------------------------------------------------------------

def Status.code : Status → Nat
  | .active => 0
  | .closed => 1

/-- The code of a side. -/
def sideCode : Side → Nat
  | .A => 0
  | .B => 1

def Role.code : Role → Nat
  | .archive => 0
  | .filing => 1
  | .full => 2

def Priority.code : Priority → Nat
  | .counter => 0
  | .postal => 1

def AccountKind.code : AccountKind → Nat
  | .cash => 0
  | .credit => 1

def LodgeKind.code : LodgeKind → Nat
  | .first => 0
  | .transfer => 1
  | .charge => 2
  | .easement => 3
  | .covenant => 4
  | .caution => 5
  | .discharge => 6
  | .withdrawal => 7

def EntryKind.code : EntryKind → Nat
  | .charge => 2
  | .easement => 3
  | .covenant => 4
  | .caution => 5

/-- The place code and the number byte after it (Table 11-1). -/
def Place.codes : Place → Nat × Nat
  | .slot n => (1, n)
  | .picker => (2, 0)
  | .drive d => (3, d.val + 1)
  | .mail => (4, 0)
  | .offline => (5, 0)

def DriveState.code : DriveState → Nat
  | .empty => 0
  | .loading => 1
  | .spinup => 2
  | .idle => 3
  | .reading => 4
  | .stalled => 5
  | .writing => 6
  | .verifying => 7
  | .spindown => 8
  | .unloading => 9
  | .fault => 10

def PickerState.code : PickerState → Nat
  | .idle => 0
  | .busy => 1
  | .fault => 2

def TaskKind.code : TaskKind → Nat
  | .load => 1
  | .unload => 2
  | .importTask => 3
  | .exportTask => 4

def OrderState.code : OrderState → Nat
  | .waiting => 0
  | .attached => 1
  | .reading => 2
  | .delivering => 3

def LodgeState.code : LodgeState → Nat
  | .receiving => 0
  | .staged => 1
  | .writing => 2
  | .verifying => 3

def EngineStep.code : EngineStep → Nat
  | .side => 1
  | .drive => 2
  | .ready => 3
  | .run => 4

def FailReason.code : FailReason → Nat
  | .indexMismatch => 1
  | .media => 2
  | .drive => 3
  | .picker => 4

def LodgeFailReason.code : LodgeFailReason → Nat
  | .timeout => 1
  | .media => 2
  | .drive => 3

def PlacedReason.code : PlacedReason → Nat
  | .done => 0
  | .noFreeSlot => 1
  | .removed => 2

def SuccessorFault.code : SuccessorFault → Nat
  | .self => 1
  | .unknown => 2
  | .closed => 3
  | .duplicate => 4

def FrameCause.code : FrameCause → Nat
  | .length => 1
  | .overflow => 2

/-- The position of an outcome code in the table of section 10.8, DONE being 0 (Table 11-1). -/
def Code.number : Code → Nat
  | .done => 0
  | .badFrame => 1
  | .unknownKind => 2
  | .badField => 3
  | .notFormatted => 4
  | .libraryBusy => 5
  | .unknownTitle => 6
  | .titleExists => 7
  | .titleClosed => 8
  | .titleBusy => 9
  | .directoryFull => 10
  | .badSuccessor => 11
  | .cautioned => 12
  | .alreadyRegistered => 13
  | .notRegistered => 14
  | .editionLimit => 15
  | .editionUnavailable => 16
  | .entryLimit => 17
  | .noSuchEntry => 18
  | .poolFull => 19
  | .lodgementTableFull => 20
  | .noSuchLodgement => 21
  | .pageCount => 22
  | .stagingFull => 23
  | .queueFull => 24
  | .noSuchOrder => 25
  | .mediaOffline => 26
  | .mediaTrapped => 27
  | .unknownCartridge => 28
  | .cartridgeExists => 29
  | .cartridgeBusy => 30
  | .tableFull => 31
  | .noFreeSlot => 32
  | .mailSlotEmpty => 33
  | .mailSlotFull => 34
  | .ringOverlap => 35

end Sys2Proof.Machine
end

