-- ==== Sys2Proof/Machine/Messages.lean ====
section
/-!
DEFINITION. The byte layouts of chapter 11: request bodies read and written (Table 11-3), ANSWER bodies (R200), NOTICE
and PAGE_OUT messages, and the counter line transactions.
-/
namespace Sys2Proof.Machine

-- Fields ------------------------------------------------------------------------------------------------------

/-- The `k` bytes of a plain number, most significant first (R199). -/
def be : Nat → Nat → List Byte
  | 0, _ => []
  | k + 1, v => BitVec.ofNat 8 (v / 256 ^ k) :: be k v

/-- The number that bytes spell, most significant first (R199). -/
def fromBe (bs : List Byte) : Nat := bs.foldl (fun a b => a * 256 + b.toNat) 0

/-- A signed field: four bytes in two's complement (R199). -/
def beSigned (v : Int) : List Byte := be 4 (v % 4294967296).toNat

/-- A byte of one flag. The tables of chapter 11 name no bit of it, and R199 gives each flag of a byte a named one: the flag is sent in
bit 0, set as 1 and clear as 0 (DESIGN CHOICE, notes/assumptions/59.md). -/
def flagByte (b : Bool) : List Byte := [if b then 1 else 0]

/-- A presence byte: 1 when the value is present, 0 when it is absent (R199). -/
def presenceByte (b : Bool) : List Byte := [if b then 1 else 0]

/-- The presence code of a counter: 0 PRESENT, 1 ABSENT (Table 11-1). -/
def presenceCode (absent : Bool) : Nat := if absent then 1 else 0

/-- Two flags in bits 0 and 1. -/
def twoFlags (b0 b1 : Bool) : List Byte := be 1 ((if b0 then 1 else 0) + (if b1 then 2 else 0))

/-- A location is nine bytes (R199). -/
def Location.bytes (l : Location) : List Byte :=
  be 2 l.cart ++ be 1 (sideCode l.side) ++ be 3 l.start ++ be 2 l.blocks ++ be 1 l.pages

/-- A location that may be absent: a presence byte, then the location or nine bytes of 0 (R199). -/
def locationBytes : Option Location → List Byte
  | some l => presenceByte true ++ l.bytes
  | none => presenceByte false ++ List.replicate 9 0

/-- A side that may be absent, sent as cartridge 0 and side 0 (R199). -/
def sideIdBytes : Option SideId → List Byte
  | some sd => be 2 sd.cart ++ be 1 (sideCode sd.side)
  | none => be 3 0

/-- A setting's count and base code. -/
def Setting.bytes (t : Setting) : List Byte := be 1 t.count ++ be 1 t.base

-- Records -----------------------------------------------------------------------------------------------------

/-- The title record of a LOOKUP answer (Table 11-5). -/
def TitleRecord.bytes (r : TitleRecord) (lodgement : Nat) : List Byte :=
  be 3 r.number ++ be 1 r.status.code ++ be 1 r.feeClass.val ++ be 2 r.edition ++ locationBytes r.current ++
  be 1 r.priors.length ++ r.priors.flatMap (fun p => be 2 p.edition ++ p.loc.bytes) ++
  be 1 r.entries.length ++ r.entries.flatMap (fun e => be 1 e.number ++ be 1 e.kind.code ++ be 2 e.edition) ++
  be 2 r.nextEntry ++ be 1 r.successors.length ++ r.successors.flatMap (be 3) ++ be 2 r.copies ++ be 2 lodgement

/-- A side record of a SHELF_QUERY answer (Table 11-6). -/
def SideRecord.bytes (r : SideRecord) (active : Bool) : List Byte :=
  be 1 r.role.code ++ be 3 r.nextFree ++ be 3 r.defects ++ be 1 r.errors ++ flagByte active

/-- The cartridge record of a SHELF_QUERY answer (Table 11-6). -/
def Cartridge.bytes (r : Cartridge) (leaving trapped activeA activeB : Bool) : List Byte :=
  be 2 r.number ++ be 1 r.place.codes.1 ++ be 1 r.place.codes.2 ++ be 1 (r.home.getD 0) ++ be 1 (r.former.getD 0) ++
  twoFlags leaving trapped ++ r.sideA.bytes activeA ++ r.sideB.bytes activeB

/-- A drive item of a DRIVE_QUERY answer (Table 11-7). -/
def DriveItem.bytes (i : DriveItem) : List Byte :=
  be 1 i.state.code ++ sideIdBytes i.mounted ++ sideIdBytes i.reserved ++ twoFlags i.releasePending i.pin ++
  be 2 i.occupied ++ be 1 i.orders

/-- The number of queued tasks in its one byte (R84, Table 11-7). A number above 255 has no byte of its own, and the one sent for it
is a free value (DESIGN CHOICE, notes/assumptions/55.md). -/
def queuedByte (n : Nat) : Byte := if n ≤ 255 then BitVec.ofNat 8 n else Config.queuedTasksByte n

/-- The picker part of a DRIVE_QUERY answer (Table 11-7). -/
def PickerItem.bytes (i : PickerItem) : List Byte :=
  be 1 i.state.code ++ be 1 ((i.task.map fun t => t.1.code).getD 0) ++
  be 2 ((i.task.bind fun t => t.2).getD 0) ++ [queuedByte i.queued] ++ be 1 i.starts

/-- The lodgement record of a LODGE_QUERY answer (Table 11-8); a span too long is held at the field's greatest value. -/
def Lodgement.bytes (l : Lodgement) (since : Nat) (step : Option EngineStep) : List Byte :=
  be 2 l.number ++ be 3 l.title ++ be 1 l.kind.code ++ be 1 (l.named.getD 0) ++ be 1 l.declared ++ be 1 l.received ++
  be 2 l.held ++ be 1 l.state.code ++ be 3 (min 16777215 since) ++ be 1 l.attempts ++
  be 1 ((step.map EngineStep.code).getD 0) ++ locationBytes l.extent

/-- The account record of an ACCOUNT_QUERY answer (Table 11-9). -/
def Account.bytes (n : Nat) (a : Account) (absent : Bool) (failures posts : Nat) : List Byte :=
  be 1 n ++ be 1 a.kind.code ++ be 2 a.discount ++ be 1 a.phase ++ beSigned a.pending ++ beSigned a.dayOpen ++
  be 4 a.posted ++ be 4 a.settled ++ be 2 a.charged ++ flagByte a.clamp ++ be 1 (presenceCode absent) ++
  be 1 failures ++ be 1 posts

/-- A fee schedule entry's four figures. -/
def FeeEntry.bytes (e : FeeEntry) : List Byte :=
  be 2 e.document ++ be 2 e.rate ++ be 2 e.certified ++ be 2 e.historical

-- Answers -----------------------------------------------------------------------------------------------------

/-- The outcome code of an answer. -/
def Answer.code : Answer → Code
  | .refused c => c
  | .badFrame _ => .badFrame
  | .badSuccessor _ _ => .badSuccessor
  | .referral _ => .titleClosed
  | _ => .done

/-- The fields of an ANSWER after its outcome byte (R200, Table 11-4). -/
def Answer.fields : Answer → List Byte
  | .refused _ => []
  | .badFrame c => be 1 c.code
  | .badSuccessor p f => be 1 p ++ be 1 f.code
  | .referral ts => be 1 ts.length ++ ts.flatMap (be 3)
  | .done => []
  | .lookup r n => r.bytes n
  | .list items more next =>
    be 1 items.length ++
    items.flatMap (fun i => be 3 i.title ++ be 1 i.status.code ++ be 2 i.edition ++ flagByte i.pending) ++
    flagByte more ++ be 3 next
  | .newTitle t n => be 3 t ++ be 3 n
  | .setClass a b => be 1 a ++ be 1 b
  | .retire n free => be 1 n ++ be 3 free
  | .importCart c n => be 2 c ++ be 1 n
  | .sideRole a b => be 1 a.code ++ be 1 b.code
  | .shelf r leaving trapped a b => r.bytes leaving trapped a b
  | .timing t =>
    t.hold.bytes ++ t.linger.bytes ++ t.window.bytes ++ t.promotion.bytes ++ t.idle.bytes ++ t.poll.bytes
  | .drives items p => items.flatMap DriveItem.bytes ++ p.bytes
  | .ring n b m a => be 1 n ++ be 2 b ++ be 2 m ++ be 2 a
  | .order n e p h q => be 2 n ++ be 2 e ++ be 1 p ++ twoFlags h q
  | .orderQuery n st pr d p r dl streaming =>
    be 2 n ++ be 1 st.code ++ be 1 pr.code ++ be 1 d ++ be 1 p ++ be 1 r ++ be 1 dl ++ flagByte streaming
  | .lodge n e r free => be 2 n ++ be 2 e ++ flagByte r ++ be 3 free
  | .pageIn n r st => be 2 n ++ be 1 r ++ be 1 st.code
  | .lodgeQuery l since step => l.bytes since step
  | .feeClass c e => be 1 c ++ e.bytes
  | .duty r => be 2 r
  | .account n k d => be 1 n ++ be 1 k.code ++ be 2 d
  | .accountQuery n a absent failures posts => Account.bytes n a absent failures posts
  | .settle p => beSigned p
  | .dayClose items =>
    items.flatMap fun i =>
      be 4 i.posted ++ be 4 i.settled ++ be 2 i.charged ++ beSigned i.dayOpen ++ beSigned i.pending ++ flagByte i.clamp
  | .counterLine p r => be 1 p ++ be 1 r
  | .linkLevels l => be 2 l.hold ++ be 2 l.resume ++ be 2 l.halt ++ be 2 l.haltResume ++ be 2 l.trigger

/-- The body of an ANSWER: the outcome byte, then its fields (R200). -/
def Answer.body (a : Answer) : List Byte := be 1 a.code.number ++ a.fields

/-- A message: its six-byte header, then its body (section 10.3, Table 11-2). -/
def message (kind tag : Byte) (bodyLength : Nat) (flags : Byte) (body : List Byte) : List Byte :=
  kind :: tag :: (be 3 bodyLength ++ flags :: body)

/-- The ANSWER message: kind 80H, the request's tag, and the two flags of R192. -/
def Placing.bytes (p : Placing) (lost : Bool) : List Byte :=
  message 0x80 p.tag p.answer.body.length
    (BitVec.ofNat 8 ((if p.unformatted then 1 else 0) + (if lost then 2 else 0))) p.answer.body

-- Notices -----------------------------------------------------------------------------------------------------

/-- The NOTICE body: the kind's position in Table 10-4, then its fields (Table 11-10). -/
def Notice.body : Notice → List Byte
  | .orderDone o a p f => be 1 1 ++ be 2 o ++ be 1 a ++ be 1 p ++ be 3 f
  | .orderFailed o r n => be 1 2 ++ be 2 o ++ be 1 r.code ++ be 1 n
  | .lodgementFiled l t e => be 1 3 ++ be 2 l ++ be 3 t ++ be 2 e
  | .lodgementFailed l t r => be 1 4 ++ be 2 l ++ be 3 t ++ be 1 r.code
  | .noFilingSpace n => be 1 5 ++ be 1 n
  | .filingSpaceLow c sd n => be 1 6 ++ be 2 c ++ be 1 (sideCode sd) ++ be 3 n
  | .sideRetired c sd n => be 1 7 ++ be 2 c ++ be 1 (sideCode sd) ++ be 1 n
  | .driveFault d c sd st => be 1 8 ++ be 1 d ++ be 2 c ++ be 1 (sideCode sd) ++ be 1 st.code
  | .pickerFault t c => be 1 9 ++ be 1 ((t.map TaskKind.code).getD 0) ++ be 2 c
  | .cartridgePlaced c p n r => be 1 10 ++ be 2 c ++ be 1 p.codes.1 ++ be 1 n ++ be 1 r.code
  | .cartridgeAtMailSlot c f => be 1 11 ++ be 2 c ++ be 1 (f.getD 0)
  | .counterAbsent n => be 1 12 ++ be 1 n
  | .counterSettled n a p => be 1 13 ++ be 1 n ++ be 4 a ++ beSigned p

/-- The NOTICE message: kind 81H, tag 0, flags 0 (Table 11-2). -/
def Notice.bytes (n : Notice) : List Byte := message 0x81 0 n.body.length 0 n.body

/-- The part of a PAGE_OUT the arbiter places at once: its header and fixed fields (R190, section 11.5). -/
def pageOutHead (order page pages length : Nat) : List Byte :=
  message 0x82 0 (Config.pageOutFields + length * Config.blockBytes) 0
    (be 2 order ++ be 1 page ++ be 1 pages ++ be 1 length)

/-- Marks the last byte of a message. -/
def outBytes (recovery : Bool) : List Byte → List OutByte
  | [] => []
  | [b] => [⟨b, true, recovery⟩]
  | b :: c :: rest => ⟨b, false, false⟩ :: outBytes recovery (c :: rest)

-- Requests ----------------------------------------------------------------------------------------------------

/-- A body length is the kind's fixed length or within its range (Table 11-3, R186); none for a kind that names no
request. -/
def lengthAllowed (kind : Byte) (n : Nat) : Option Bool :=
  match kind.toNat with
  | 0x01 => some (n = 0)
  | 0x02 => some (n = 3)
  | 0x03 => some (n = 6)
  | 0x04 => some (n = 4)
  | 0x05 => some (n = 4)
  | 0x06 => some (4 ≤ n && n ≤ 28)
  | 0x07 => some (n = 4)
  | 0x08 => some (n = 2)
  | 0x09 => some (n = 4)
  | 0x0A => some (n = 2)
  | 0x0B => some (n = 12)
  | 0x0C => some (n = 0)
  | 0x0D => some (n = 5)
  | 0x0E => some (n = 7)
  | 0x0F => some (n = 2)
  | 0x10 => some (n = 2)
  | 0x11 => some (n = 6)
  | 0x12 => some (3 ≤ n && n ≤ 65539)
  | 0x13 => some (n = 2)
  | 0x14 => some (n = 2)
  | 0x15 => some (n = 9)
  | 0x16 => some (n = 2)
  | 0x17 => some (n = 4)
  | 0x18 => some (n = 1)
  | 0x19 => some (n = 5)
  | 0x1A => some (n = 0)
  | 0x1B => some (n = 2)
  | 0x1C => some (n = 10)
  | 0x1D => some (n = 0)
  | _ => none

/-- The kind code of PAGE_IN, whose blocks follow its fixed fields (R188). -/
def pageInKind : Byte := 0x12

/-- The fixed fields of PAGE_IN in bytes (Table 11-3). -/
def pageInFields : Nat := 3

/-- A two-byte field. -/
def w16 (a b : Byte) : Word16 := BitVec.ofNat 16 (a.toNat * 256 + b.toNat)

/-- A three-byte field. -/
def w24 (a b c : Byte) : Word24 := BitVec.ofNat 24 ((a.toNat * 256 + b.toNat) * 256 + c.toNat)

/-- A four-byte field. -/
def w32 (a b c d : Byte) : Word32 :=
  BitVec.ofNat 32 (((a.toNat * 256 + b.toNat) * 256 + c.toNat) * 256 + d.toNat)

/-- The whole three-byte title numbers of a RETIRE body's list, and the bytes left over. -/
def successorFields : List Byte → List Word24 × List Byte
  | a :: b :: c :: rest => (w24 a b c :: (successorFields rest).1, (successorFields rest).2)
  | rest => ([], rest)

/-- The request that a kind, a tag and the body fields spell (Table 11-3). For a PAGE_IN the fields are its three
fixed bytes and `bodyLength` counts the blocks after them as well. -/
def decodeRequest (kind tag : Byte) (bodyLength : Nat) (body : List Byte) : Option Instr :=
  match kind.toNat, body with
  | 0x01, [] => some (.format tag)
  | 0x02, [a, b, c] => some (.lookup tag (w24 a b c))
  | 0x03, [a, b, c, d, e, f] => some (.list tag (w24 a b c) (w24 d e f))
  | 0x04, [a, b, c, d] => some (.newTitle tag (w24 a b c) d)
  | 0x05, [a, b, c, d] => some (.setClass tag (w24 a b c) d)
  | 0x06, a :: b :: c :: n :: rest => some (.retire tag (w24 a b c) n (successorFields rest).1 (successorFields rest).2)
  | 0x07, [a, b, r, q] => some (.importCart tag (w16 a b) r q)
  | 0x08, [a, b] => some (.exportCart tag (w16 a b))
  | 0x09, [a, b, sd, r] => some (.sideRole tag (w16 a b) sd r)
  | 0x0A, [a, b] => some (.shelfQuery tag (w16 a b))
  | 0x0B, [a, b, c, d, e, f, g, h, i, j, k, l] =>
    some (.timing tag ⟨a, b⟩ ⟨c, d⟩ ⟨e, f⟩ ⟨g, h⟩ ⟨i, j⟩ ⟨k, l⟩)
  | 0x0C, [] => some (.driveQuery tag)
  | 0x0D, [n, a, b, c, d] => some (.ring tag n (w16 a b) (w16 c d))
  | 0x0E, [a, b, c, d, e, acc, k] => some (.order tag (w24 a b c) (w16 d e) acc k)
  | 0x0F, [a, b] => some (.cancel tag (w16 a b))
  | 0x10, [a, b] => some (.orderQuery tag (w16 a b))
  | 0x11, [a, b, c, k, p, e] => some (.lodge tag (w24 a b c) k p e)
  | 0x12, [a, b, l] => some (.pageIn tag (w16 a b) l (bodyLength - pageInFields))
  | 0x13, [a, b] => some (.abandon tag (w16 a b))
  | 0x14, [a, b] => some (.lodgeQuery tag (w16 a b))
  | 0x15, [c, d, e, f, g, h, i, j, k] => some (.feeClass tag c (w16 d e) (w16 f g) (w16 h i) (w16 j k))
  | 0x16, [a, b] => some (.duty tag (w16 a b))
  | 0x17, [n, k, a, b] => some (.account tag n k (w16 a b))
  | 0x18, [n] => some (.accountQuery tag n)
  | 0x19, [n, a, b, c, d] => some (.settle tag n (w32 a b c d))
  | 0x1A, [] => some (.dayClose tag)
  | 0x1B, [p, r] => some (.counterLine tag p r)
  | 0x1C, [a, b, c, d, e, f, g, h, i, j] => some (.linkLevels tag (w16 a b) (w16 c d) (w16 e f) (w16 g h) (w16 i j))
  | 0x1D, [] => some (.queueReset tag)
  | _, _ => none

/-- A two-byte field's bytes. -/
def f16 (w : Word16) : List Byte := be 2 w.toNat

/-- A three-byte field's bytes. -/
def f24 (w : Word24) : List Byte := be 3 w.toNat

/-- A four-byte field's bytes. -/
def f32 (w : Word32) : List Byte := be 4 w.toNat

/-- The kind, tag, body length and body fields of a request (Table 11-3): the whole body, but for a PAGE_IN, whose
blocks follow; none for a command that is no request. -/
def requestFields : Instr → Option (Byte × Byte × Nat × List Byte)
  | .format tag => some (0x01, tag, 0, [])
  | .lookup tag t => some (0x02, tag, 3, f24 t)
  | .list tag a b => some (0x03, tag, 6, f24 a ++ f24 b)
  | .newTitle tag t c => some (0x04, tag, 4, f24 t ++ [c])
  | .setClass tag t c => some (0x05, tag, 4, f24 t ++ [c])
  | .retire tag t n ts stray =>
    some (0x06, tag, 4 + 3 * ts.length + stray.length, f24 t ++ n :: (ts.flatMap f24 ++ stray))
  | .importCart tag c a b => some (0x07, tag, 4, f16 c ++ [a, b])
  | .exportCart tag c => some (0x08, tag, 2, f16 c)
  | .sideRole tag c sd r => some (0x09, tag, 4, f16 c ++ [sd, r])
  | .shelfQuery tag c => some (0x0A, tag, 2, f16 c)
  | .timing tag h l w p i q =>
    some (0x0B, tag, 12, [h.count, h.base, l.count, l.base, w.count, w.base, p.count, p.base, i.count, i.base,
      q.count, q.base])
  | .driveQuery tag => some (0x0C, tag, 0, [])
  | .ring tag n b m => some (0x0D, tag, 5, n :: (f16 b ++ f16 m))
  | .order tag t e a k => some (0x0E, tag, 7, f24 t ++ f16 e ++ [a, k])
  | .cancel tag n => some (0x0F, tag, 2, f16 n)
  | .orderQuery tag n => some (0x10, tag, 2, f16 n)
  | .lodge tag t k p e => some (0x11, tag, 6, f24 t ++ [k, p, e])
  | .pageIn tag n l bodyBytes => some (0x12, tag, pageInFields + bodyBytes, f16 n ++ [l])
  | .abandon tag n => some (0x13, tag, 2, f16 n)
  | .lodgeQuery tag n => some (0x14, tag, 2, f16 n)
  | .feeClass tag c d r ce h => some (0x15, tag, 9, c :: (f16 d ++ f16 r ++ f16 ce ++ f16 h))
  | .duty tag r => some (0x16, tag, 2, f16 r)
  | .account tag n k d => some (0x17, tag, 4, n :: k :: f16 d)
  | .accountQuery tag n => some (0x18, tag, 1, [n])
  | .settle tag n a => some (0x19, tag, 5, n :: f32 a)
  | .dayClose tag => some (0x1A, tag, 0, [])
  | .counterLine tag p r => some (0x1B, tag, 2, [p, r])
  | .linkLevels tag a b c d e => some (0x1C, tag, 10, f16 a ++ f16 b ++ f16 c ++ f16 d ++ f16 e)
  | .queueReset tag => some (0x1D, tag, 0, [])
  | .unknownKind tag kind body => some (kind, tag, body.length, body)
  | .badFrame tag kind body => some (kind, tag, body.length, body)
  | _ => none

/-- The bytes of a request as the host writes them, the flags byte 0 (Table 11-2). -/
def requestBytes (i : Instr) : List Byte :=
  match requestFields i with
  | some (kind, tag, n, body) => message kind tag n 0 body
  | none => []

-- Counter line transactions -----------------------------------------------------------------------------------

/-- The 7-bit address of a cash unit: the prefix as its upper three bits and the counter as its lower four (R174). -/
def unitAddress (addrPrefix : Nat) (n : CounterNo) : Nat := addrPrefix * 16 + (n.val + 1)

/-- The bytes the part sends in a transaction, in order: of a POST the address and the nine data bytes (Table 11-11);
of a POLL the write address, the command byte and the read address (Table 11-12). -/
def Transaction.bytesSent : Transaction → List Byte
  | .post n item _ p _ => be 1 (unitAddress p n * 2) ++ be 2 item.order ++ be 3 item.fee ++ beSigned item.pending
  | .poll n _ p _ => be 1 (unitAddress p n * 2) ++ be 1 1 ++ be 1 (unitAddress p n * 2 + 1)

end Sys2Proof.Machine
end

