-- ==== Sys2Proof/Machine/LinkOps.lean ====
section
/-!
DEFINITION. The request link's shared operations: the outbound level and page halt (R191), the streaming of a PAGE_OUT
(R190), and what the decoder does with an overflow mark (R185).
-/
namespace Sys2Proof.Machine

-- The outbound side -------------------------------------------------------------------------------------------

/-- The outbound level has changed, or the levels have: page halt and ATTENTION are judged, and at the end of page halt
every STALLED drive makes its choice (R191, R195). -/
def judgeOut (s : State) : State :=
  let t := s.modLink (Link.judgeOut s.cfg.levels)
  if s.link.halt && !t.link.halt then t.forDrives chooseIfStalled else t

/-- Bytes enter the outbound FIFO. -/
def putOut (bs : List OutByte) (s : State) : State :=
  judgeOut (s.modLink fun k => { k with outbound := k.outbound ++ bs })

/-- The entry streaming from a drive ring: its head. -/
def State.streamEntry (s : State) (st : Stream) : Option PageEntry :=
  s.rings[driveRing st.ring].entries.head?

/-- The block bytes of a PAGE_OUT. -/
def PageEntry.bytes (e : PageEntry) : Nat := e.length * Config.blockBytes

/-- Bytes of the streaming page from byte `j` on, read from its blocks in order and wrapping at the end of the span
(R97). -/
def State.streamBytes (s : State) (st : Stream) (e : PageEntry) (n : Nat) : List Byte :=
  s.staging.loadPage s.cfg.layout[driveRing st.ring] e.start st.sent n

/-- The blocks of a streaming PAGE_OUT follow as far as there is room, all but the last byte, whose entry is the event
PAGE_OUT_END (R190). -/
def pump (s : State) : State :=
  match s.link.streaming with
  | none => s
  | some st =>
    match s.streamEntry st with
    | none => s
    | some e =>
      let n := min s.link.room (e.bytes - 1 - st.sent)
      if n = 0 then s
      else
        putOut ((s.streamBytes st e n).map fun b => ⟨b, false, false⟩)
          (s.modLink fun k => { k with streaming := some { st with sent := st.sent + n } })

/-- The drives in the cyclic order 1 to 6 that begins after ring `last`, 0 standing for none (R190). -/
def ringsAfter (last : Nat) : List DriveNo :=
  (allDrives.filter fun d => last < d.val + 1) ++ allDrives.filter fun d => d.val + 1 ≤ last

/-- The first offering drive ring after the last ring served, with the entry it offers (R97, R190). -/
def State.nextOffer (s : State) : Option (DriveNo × PageEntry) :=
  (ringsAfter s.link.lastRing).findSome? fun d => s.rings[driveRing d].offered.map fun e => (d, e)

/-- The head of a ring begins streaming (R97). -/
def markStreaming (d : DriveNo) (s : State) : State :=
  s.modRing (driveRing d) fun g =>
    match g.entries with
    | [] => g
    | e :: rest => { g with entries := { e with streaming := true } :: rest }

-- Overflow ----------------------------------------------------------------------------------------------------

/-- The idle timer of a RECEIVING lodgement starts for the timeout in force (R133). -/
def startIdle (n : Nat) (s : State) : State :=
  s.modLodgement n fun l => { l with idle := some (s.now + s.cfg.timing.idle.quarters) }

/-- The admitted page whose body an overflow ends: its AWAITING entry is released and leaves the lodgement's list, and
the idle timer starts again (R185). -/
def dropArrival (n : Nat) (s : State) : State :=
  startIdle n ((releaseIn filingRing (fun e => decide (e.owner = n) && !e.filled) s).modLodgement n fun l =>
    { l with lengths := l.lengths.take l.received })

/-- The tag an overflow ANSWER carries: that of the request ended, or 0 when no header was taken (R185). -/
def Decoder.tag : Decoder → Byte
  | .header _ => 0
  | .fields _ tag _ _ => tag
  | .body tag _ _ => tag
  | .discarding tag _ _ => tag
  | .placing p => p.tag

/-- The decoder waits for outbound space (R187). -/
def Decoder.isPlacing : Decoder → Bool
  | .placing _ => true
  | .header _ => false
  | .fields _ _ _ _ => false
  | .body _ _ _ => false
  | .discarding _ _ _ => false

/-- What an overflow undoes of the request in progress (R185). -/
def endRequest (s : State) : State :=
  match s.link.decoder with
  | .body _ (.admitted n _) _ => dropArrival n s
  | _ => s

/-- The decoder takes the overflow mark: the request in progress is ended, the OVERFLOW answer is composed, and bytes are
discarded until the host has read its last byte (R185). -/
def detectOverflow (s : State) : State :=
  let tag := s.link.decoder.tag
  (endRequest s).modLink fun k => { k with
    inbound := []
    recovering := true
    hold := true
    decoder := .placing { tag := tag, answer := .badFrame .overflow,
                          unformatted := decide (s.condition = .unformatted), recovery := true } }

end Sys2Proof.Machine
end

