-- ==== Sys2Proof/Machine/Arbiter.lean ====
section
/-!
DEFINITION. The outbound arbiter: the placing of ANSWERs, notices and PAGE_OUTs, rank by rank (R189 to R191), the end of a
PAGE_OUT with the completion of an order (R116, R117), and the events at which the arbiter chooses.
-/
namespace Sys2Proof.Machine

-- ANSWERs and notices -----------------------------------------------------------------------------------------

/-- The ANSWER in PLACING enters the outbound FIFO whole: the decoder returns to HEADER, the notices-lost flag the ANSWER
carries clears, and a QUEUE_RESET's discarding ends (R187, R189, R194, R198). -/
def putAnswer (p : Placing) (s : State) : State :=
  putOut (outBytes p.recovery (p.bytes s.link.lost))
    (s.modLink fun k => { k with decoder := .header [], lost := false, discarding := false })

/-- A decoder that waits for a header again takes an overflow mark set while it waited for outbound space (R185). -/
def noticeOverflow (s : State) : State :=
  if s.link.overflow && !s.link.recovering then detectOverflow s else s

/-- The arbiter's first rank (R189). -/
def placeAnswer (s : State) : State :=
  match s.link.streaming, s.link.decoder with
  | none, .placing p =>
    if (p.bytes s.link.lost).length ≤ s.link.room then noticeOverflow (putAnswer p s) else s
  | _, _ => s

/-- The oldest notice leaves the queue and enters the outbound FIFO whole (R189). -/
def putNotice (n : Notice) (rest : List Notice) (s : State) : State :=
  putOut (outBytes false n.bytes) (s.modLink fun k => { k with notices := rest })

/-- The arbiter's second rank, which an ANSWER in PLACING holds back (R189). -/
def placeNotice (s : State) : State :=
  match s.link.streaming, s.link.notices with
  | none, n :: rest =>
    if !s.link.decoder.isPlacing && decide (n.bytes.length ≤ s.link.room) then putNotice n rest s else s
  | _, _ => s

-- PAGE_OUTs ---------------------------------------------------------------------------------------------------

/-- The bytes a PAGE_OUT places at its beginning: header and fixed fields (R190, section 11.5). -/
def headBytes : Nat := Config.headerBytes + Config.pageOutFields

/-- The page count a PAGE_OUT carries, that of the order which owns its page (R116). -/
def State.pagesOfOrder (s : State) (n : Nat) : Nat := ((s.order? n).map fun o => o.loc.pages).getD 0

/-- A PAGE_OUT of the head of drive ring `d` begins: its first bytes are placed, the entry streams, and its blocks follow
as far as there is room (R190). -/
def startPageOut (d : DriveNo) (e : PageEntry) (s : State) : State :=
  pump (putOut ((pageOutHead e.owner e.page (s.pagesOfOrder e.owner) e.length).map fun b => ⟨b, false, false⟩)
    ((markStreaming d s).modLink fun k => { k with lastRing := d.val + 1, streaming := some ⟨d, 0⟩ }))

/-- The arbiter's third rank, which a message waiting at a rank before it and page halt hold back (R189 to R191). -/
def beginPageOut (s : State) : State :=
  if s.link.streaming.isSome || s.link.decoder.isPlacing || decide (s.link.notices ≠ []) || s.link.halt then s
  else
    match s.nextOffer with
    | some (d, e) => if headBytes ≤ s.link.room then startPageOut d e s else s
    | none => s

-- The arbiter's choice ----------------------------------------------------------------------------------------

/-- With no message being placed the arbiter chooses: the first rank that has a message, which begins if it has room
(R189). -/
def arbiterChoose (s : State) : State :=
  match s.link.streaming with
  | some _ => s
  | none =>
    if s.link.decoder.isPlacing then placeAnswer s
    else if s.link.notices = [] then beginPageOut s
    else placeNotice s

/-- The arbiter chooses `n` times in a row: an ANSWER or notice is placed whole within the event, so that the next message
is looked at in the same event. -/
def arbiterRun : Nat → State → State
  | 0, s => s
  | n + 1, s => arbiterRun n (arbiterChoose s)

/-- The end of an event at which an ANSWER, a notice or a ring head became ready, the outbound level fell or page halt ended: with no
message being placed the arbiter places, until it is left without a message that has room (R189). Each choice places an ANSWER, of
which an overflow mark may bring a second, or a notice, or begins the PAGE_OUT that ends the run, which bounds their number. DEDUCED
(notes/assumptions/6.md): R189 speaks of one choice; step 3 of the worked sequence shows the arbiter looking again where a message
ends. -/
def arbitrate (s : State) : State := arbiterRun (s.link.notices.length + 3) s

-- The end of a PAGE_OUT ---------------------------------------------------------------------------------------

/-- The streamed head is released, whatever release was held against it, and reclaimed (R94, R97). -/
def PageRing.endStream (modulus : Nat) (g : PageRing) : PageRing :=
  match g.entries with
  | [] => g
  | e :: rest => ({ g with entries := { e with streaming := false, held := false, live := false } :: rest } : PageRing).reclaim
      modulus

/-- The end of a stream at ring `d`, with the STALLED drive's choice when occupied fell (R95, R97). -/
def endStream (d : DriveNo) (s : State) : State :=
  wakeLowered s (s.modRing (driveRing d) (PageRing.endStream (s.modulus (driveRing d))))

/-- An order completes (R117): the fee is posted, the copy counted, the order leaves the queue as DONE and ORDER_DONE is
queued. -/
def completeOrder (o : FetchOrder) (s : State) : State :=
  queueNotice (.orderDone o.number o.account.val o.loc.pages (s.feeFor o))
    ((countCopy o.title (postFee o s)).modFetch fun q => { q with queue := q.queue.filter fun p => p.number ≠ o.number })

/-- Pages delivered of an order rises, and the order completes with its last page (R116, R117). -/
def countDelivered (n : Nat) (s : State) : State :=
  let t := s.modOrder n fun o => { o with delivered := o.delivered + 1 }
  match t.order? n with
  | some o => if o.state = .delivering ∧ o.delivered = o.loc.pages then completeOrder o t else t
  | none => t

/-- The rest of a streaming message, its last byte marked. -/
def putLast (st : Stream) (e : PageEntry) (s : State) : State :=
  putOut (outBytes false (s.streamBytes st e (e.bytes - st.sent))) (s.modLink fun k => { k with streaming := none })

/-- The last byte of the streaming PAGE_OUT enters the FIFO: the entry is released and reclaimed, and the order counts the page
(R97, R116, R190). -/
def finishPageOut (st : Stream) (e : PageEntry) (s : State) : State :=
  countDelivered e.owner (endStream st.ring (putLast st e s))

/-- The last byte of the streaming PAGE_OUT enters the FIFO when it has room (R190). The message has ended, and the arbiter
chooses (R189). -/
def endPageOut (s : State) : State :=
  match s.link.streaming with
  | none => s
  | some st =>
    match s.streamEntry st with
    | none => s
    | some e =>
      if e.bytes - st.sent ≤ s.link.room then arbitrate (finishPageOut st e s) else s

/-- The outbound level has fallen: a streaming PAGE_OUT goes on, to its end where its last byte has room, or else the arbiter
chooses (R189, R190). -/
def levelFell (s : State) : State :=
  match s.link.streaming with
  | some _ => endPageOut (pump s)
  | none => arbitrate s

end Sys2Proof.Machine
end

