-- ==== Sys2Proof/Machine/Inbound.lean ====
section
/-!
DEFINITION. The inbound side of the request link: bytes written by the host with the overflow of the FIFO (R183 to R185), and
a request that finds the decoder free (R187).
-/
namespace Sys2Proof.Machine

/-- A byte written while the FIFO is full is lost: the mark is set and HOLD asserted, and a decoder that is reading takes
the mark at once (R185), its ANSWER being ready at this event (R189). -/
def overflow (s : State) : State :=
  let t := s.modLink fun k => { k with overflow := true, hold := true }
  if t.link.decoder.isPlacing then t else arbitrate (detectOverflow t)

/-- One write event of the inbound FIFO (R183): the byte is discarded under RESET, in a recovery or after a QUEUE_RESET, is
lost to a full FIFO, or joins the tail. -/
def writeByte (b : Byte) (s : State) : State :=
  if s.resetHeld || s.link.recovering || s.link.discarding then s
  else if Config.inboundBytes ≤ s.link.inLevel then overflow s
  else s.modLink fun k => Link.holdOnWrite s.cfg.levels { k with inbound := k.inbound ++ [b] }

/-- The host writes bytes one after another. -/
def writeBytes (bs : List Byte) (s : State) : State := bs.foldl (fun t b => writeByte b t) s

/-- The decoder is free to take a request that the host writes now: it waits for a header, nothing is read of one, no byte
waits before it, and no byte is being discarded (R187). -/
def State.decoderFree (s : State) : Bool :=
  !s.resetHeld && !s.link.overflow && !s.link.recovering && !s.link.discarding && decide (s.link.inbound = []) &&
    decide (s.link.decoder = .header [])

/-- A request of the host: a free decoder reads it and its owning block takes it at this event (R187), at which the arbiter
chooses, its ANSWER being ready (R189); otherwise its bytes wait in the inbound FIFO like any others (R183). -/
def offer (i : Instr) (take : State → State) (s : State) : State :=
  if s.decoderFree then arbitrate (take s) else writeBytes (requestBytes i) s

end Sys2Proof.Machine
end

