-- ==== Sys2Proof/Machine/FeeRequests.lean ====
section
/-!
DEFINITION. The requests of the fee unit: FEE_CLASS, DUTY, ACCOUNT, ACCOUNT_QUERY, SETTLE and DAY_CLOSE (chapters 8
and 9).
-/
namespace Sys2Proof.Machine

-- FEE_CLASS and DUTY ------------------------------------------------------------------------------------------

/-- The schedule entry FEE_CLASS stores, its page rate held at 8,191 eighths (R155). -/
def feeEntryOf (document rate certified historical : Word16) : FeeEntry where
  document := document.toNat
  rate := min 8191 rate.toNat
  certified := certified.toNat
  historical := historical.toNat

/-- The four figures replace those of a class (R155). -/
def setFeeClass (c : Fin 8) (e : FeeEntry) (s : State) : State :=
  s.modFees fun u => { u with schedule := u.schedule.set c.val e c.isLt }

/-- FEE_CLASS at the fee unit (R155). -/
def takeFeeClass (tag : Byte) (cls : Byte) (document rate certified historical : Word16) : State → State :=
  screened tag fun s =>
    match feeClassOf cls with
    | none => refuse tag .badField s
    | some c =>
      let e := feeEntryOf document rate certified historical
      answer tag (.feeClass c.val e) (setFeeClass c e s)

/-- FEE_CLASS (R155). -/
def execFeeClass (tag : Byte) (cls : Byte) (document rate certified historical : Word16) (s : State) :
    Host.Outcome State Fault Refusal :=
  .next (offer (.feeClass tag cls document rate certified historical)
    (takeFeeClass tag cls document rate certified historical) s)

/-- A duty rate held at 3,000 basis points (R156). -/
def dutyOf (rate : Word16) : Nat := min 3000 rate.toNat

/-- DUTY at the fee unit (R156). -/
def takeDuty (tag : Byte) (rate : Word16) : State → State :=
  screened tag fun s => answer tag (.duty (dutyOf rate)) (s.modFees fun u => { u with duty := dutyOf rate })

/-- DUTY (R156). -/
def execDuty (tag : Byte) (rate : Word16) (s : State) : Host.Outcome State Fault Refusal :=
  .next (offer (.duty tag rate) (takeDuty tag rate) s)

-- ACCOUNT and ACCOUNT_QUERY -----------------------------------------------------------------------------------

/-- The discount ACCOUNT stores: held at 2,500 for CREDIT, 0 for CASH (R169). -/
def discountOf (k : AccountKind) (discount : Word16) : Nat :=
  match k with
  | .credit => min 2500 discount.toNat
  | .cash => 0

/-- ACCOUNT at the fee unit (R169). -/
def takeAccount (tag : Byte) (number kind : Byte) (discount : Word16) : State → State :=
  screened tag fun s =>
    match accountOf number, accountKindOf kind with
    | some a, some k =>
      answer tag (.account a.val k (discountOf k discount))
        (s.modAccount a fun r => { r with kind := k, discount := discountOf k discount })
    | _, _ => refuse tag .badField s

/-- ACCOUNT (R169). -/
def execAccount (tag : Byte) (number kind : Byte) (discount : Word16) (s : State) : Host.Outcome State Fault Refusal :=
  .next (offer (.account tag number kind discount) (takeAccount tag number kind discount) s)

/-- The answer of ACCOUNT_QUERY: the record, with the counter's presence, failures and posts, or zeros for account 0
(R170). -/
def State.accountAnswer (s : State) (a : Fin 13) : Answer :=
  match counterOf a with
  | some n =>
    .accountQuery a.val s.fees.accounts[a] (!s.line.counters[n].present) s.line.counters[n].failures
      s.line.counters[n].posts.length
  | none => .accountQuery a.val s.fees.accounts[a] false 0 0

/-- ACCOUNT_QUERY at the fee unit (R170). -/
def takeAccountQuery (tag : Byte) (number : Byte) : State → State :=
  screened tag fun s =>
    match accountOf number with
    | none => refuse tag .badField s
    | some a => answer tag (s.accountAnswer a) s

/-- ACCOUNT_QUERY (R170). -/
def execAccountQuery (tag : Byte) (number : Byte) (s : State) : Host.Outcome State Fault Refusal :=
  .next (offer (.accountQuery tag number) (takeAccountQuery tag number) s)

-- SETTLE and DAY_CLOSE ----------------------------------------------------------------------------------------

/-- A SETTLE applied: the account's figures, then the refresh item of a counter (R172). -/
def settleAccount (a : Fin 13) (amount : Nat) (s : State) : State :=
  let t := applySettlement a amount s
  offerForAccount a (refreshItem t.fees.accounts[a].pending) t

/-- SETTLE at the fee unit (R172). -/
def takeSettle (tag : Byte) (number : Byte) (amount : Word32) : State → State :=
  screened tag fun s =>
    match accountOf number with
    | none => refuse tag .badField s
    | some a =>
      let t := settleAccount a amount.toNat s
      answer tag (.settle t.fees.accounts[a].pending) t

/-- SETTLE (R172). -/
def execSettle (tag : Byte) (number : Byte) (amount : Word32) (s : State) : Host.Outcome State Fault Refusal :=
  .next (offer (.settle tag number amount) (takeSettle tag number amount) s)

/-- The thirteen accounts, ascending. -/
def allAccounts : List (Fin 13) := [0, 1, 2, 3, 4, 5, 6, 7, 8, 9, 10, 11, 12]

/-- The DAY_CLOSE item of an account (R173). -/
def Account.dayItem (a : Account) : DayItem where
  posted := a.posted
  settled := a.settled
  charged := a.charged
  dayOpen := a.dayOpen
  pending := a.pending
  clamp := a.clamp

/-- Every account's day is closed (R173). -/
def closeDays (s : State) : State := allAccounts.foldl (fun t a => t.modAccount a Account.closeDay) s

/-- DAY_CLOSE at the fee unit: the ANSWER is composed from the figures before the close (R173). -/
def takeDayClose (tag : Byte) : State → State :=
  screened tag fun s =>
    answer tag (.dayClose (allAccounts.map fun a => (s.fees.accounts[a]).dayItem)) (closeDays s)

/-- DAY_CLOSE (R173). -/
def execDayClose (tag : Byte) (s : State) : Host.Outcome State Fault Refusal :=
  .next (offer (.dayClose tag) (takeDayClose tag) s)

end Sys2Proof.Machine
end

