-- ==== Sys2Proof/Machine/Engine.lean ====
section
/-!
DEFINITION. The write engine (R134 to R139), the commit (R32 to R36, R142, R143), failed attempts (R46, R144 to R147)
and the ways a lodgement leaves the table (R130, R148).
-/
namespace Sys2Proof.Machine

-- The lodgement in hand ---------------------------------------------------------------------------------------

/-- The step of the lodgement in hand becomes `step`. -/
def setStep (n : Nat) (step : EngineStep) (s : State) : State :=
  s.modFiling fun g => { g with hand := some (n, step) }

/-- The number of the lodgement in hand. -/
def State.inHand (s : State) : Option Nat := s.filing.hand.map fun h => h.1

/-- The write work of a lodgement leaves every work list (R66). -/
def removeWrite (n : Nat) (s : State) : State :=
  s.forDrives fun d t => t.modDrive d fun r => { r with work := r.work.filter fun w => w ≠ .write n }

/-- The lodgement in hand enters READY on drive `d`: its write work joins the list and the pins are judged (R138). -/
def joinReady (n : Nat) (d : DriveNo) (s : State) : State :=
  judgePins (workJoin d (.write n) (setStep n .ready s))

/-- The side of the lodgement in hand is sought among the drives: READY with a choice where it is mounted, else DRIVE
with a run of the allocator (R137, R138). -/
def seekDrive (n : Nat) (sd : SideId) (s : State) : State :=
  match s.mountedOn sd with
  | some d => runAllocator (chooseIfFree d (joinReady n d s))
  | none => runAllocator (setStep n .drive s)

/-- No FILING side is usable: the mark is set and NO_FILING_SPACE queued, unless the mark is set already (R136). -/
def wantSpace (s : State) : State :=
  if s.filing.wanting then s
  else
    queueNotice (.noFilingSpace (s.filing.table.filter fun l => decide (l.state = .staged)).length)
      (s.modFiling fun g => { g with wanting := true })

/-- The extent that allocation gives a lodgement on a side with next-free block `start` (R137). -/
def Lodgement.extentOn (l : Lodgement) (sd : SideId) (start : Nat) : Location where
  cart := sd.cart
  side := sd.side
  start := start
  blocks := 1 + l.held
  pages := l.declared

/-- The extent is recorded in the lodgement (R137). -/
def recordExtent (n : Nat) (e : Location) (s : State) : State :=
  s.modLodgement n fun l => { l with extent := some e }

/-- A side that cannot take the deed becomes FULL and the active filing side absent (R137). -/
def overflowSide (sd : SideId) (s : State) : State :=
  (s.modSide sd fun r => { r with role := .full }).modLib fun l => { l with active := none }

/-- In step SIDE the engine asks for the active filing side and allocates on it, passing to another side on overflow
(R136, R137). `passes` bounds the sides tried. -/
def askSide : Nat → State → State
  | 0, s => s
  | passes + 1, s =>
    match s.filing.hand with
    | some (n, .side) =>
      match s.filingSide with
      | none => runAllocator (judgePins (wantSpace s))
      | some sd =>
        let s1 := (s.modLib fun l => { l with active := some sd }).modFiling fun g => { g with wanting := false }
        match s1.lodgement? n, s1.side? sd with
        | some l, some r =>
          let e := l.extentOn sd r.nextFree
          if e.start + e.blocks ≤ Config.sideBlocks then seekDrive n sd (judgePins (recordExtent n e s1))
          else askSide passes (overflowSide sd s1)
        | _, _ => s1
    | _ => s

/-- The engine asks for the active filing side: each pass makes one side FULL, so the sides of the table bound the
passes (R137). -/
def engineAsk (s : State) : State := askSide (2 * s.lib.carts.length + 2) s

/-- The earlier STAGED of two lodgements (R135). -/
def earlierStaged (l : Lodgement) : Option Lodgement → Lodgement
  | none => l
  | some m => if l.stagedNo < m.stagedNo then l else m

/-- The STAGED lodgement with the earliest staging time (R135). -/
def State.nextStaged (s : State) : Option Lodgement :=
  (s.filing.table.filter fun l => decide (l.state = .staged)).foldl (fun best l => some (earlierStaged l best)) none

/-- When the engine holds no lodgement it takes the next STAGED one and asks for a side; with none its mark clears
(R135, R136). DESIGN CHOICE (notes/assumptions/45.md): where the lodgement in hand leaves and the next one is taken in the
same event, the space-wanting mark stands and no new notice is queued. -/
def engineTake (s : State) : State :=
  match s.filing.hand with
  | some _ => s
  | none =>
    match s.nextStaged with
    | some l => engineAsk (setStep l.number .side s)
    | none => s.modFiling fun g => { g with wanting := false }

/-- At the spin-up of drive `d` the lodgement in hand passes from DRIVE to READY if `d` mounts its side (R138). -/
def engineMounted (d : DriveNo) (s : State) : State :=
  match s.filing.hand, s.lib.active with
  | some (n, .drive), some sd => if s.drives[d].mountsSide sd then joinReady n d s else s
  | _, _ => s

/-- The lodgement in hand is back in step SIDE with no extent and no write work (R139, R144). STAGED anew it keeps its staging
time: R130 dates it from the event at which the lodgement becomes STAGED, and does not say whether a retry counts as one
(DESIGN CHOICE, notes/assumptions/46.md). -/
def dropExtent (n : Nat) (s : State) : State :=
  removeWrite n (setStep n .side (s.modLodgement n fun l => { l with extent := none, state := .staged }))

/-- The active filing side has become absent or moved while the lodgement in hand holds an extent on it and no run of it
is in flight: the extent is discarded and the engine asks again (R139). -/
def activeLost (s : State) : State :=
  if s.filing.readyForSide then
    match s.inHand with
    | some n =>
      match s.extentOf n with
      | some e =>
        if s.lib.active = some e.sideId then s
        else engineAsk (withdrawLoad e.sideId (judgePins (dropExtent n s)))
      | none => s
    | none => s
  else s

-- Leaving the table -------------------------------------------------------------------------------------------

/-- A lodgement leaves the table: its filing-ring entries are released and the title is no longer pending (R130). -/
def leaveTable (n : Nat) (s : State) : State :=
  (releaseLodgement n s).modFiling fun g => { g with table := g.table.filter fun l => l.number ≠ n }

/-- The reservation of a lodgement of an adding kind leaves reserved (R9). -/
def dropReserved (k : LodgeKind) (s : State) : State :=
  match k.adds with
  | some _ => s.modDir fun d => { d with reserved := d.reserved - 1 }
  | none => s

/-- The lodgement in hand is let go, with its write work (R135, R148). -/
def letGo (n : Nat) (s : State) : State :=
  if s.inHand = some n then removeWrite n (s.modFiling fun g => { g with hand := none }) else s

/-- A lodgement ends without a commit: reservation returned, entries released, out of the table and out of hand. -/
def endLodgement (l : Lodgement) (s : State) : State :=
  letGo l.number (leaveTable l.number (dropReserved l.kind s))

-- Errors of a side --------------------------------------------------------------------------------------------

/-- The side becomes FULL, and the active filing side absent if it was the side (R46). -/
def retireSide (sd : SideId) (s : State) : State :=
  (s.modSide sd fun r => { r with role := .full }).modLib fun l =>
    { l with active := l.active.filter fun a => a ≠ sd }

/-- A media error counts on a side, held at 255, and retires a FILING side that it leaves at 8 or more (R46). -/
def sideError (sd : SideId) (s : State) : State :=
  let s1 := s.modSide sd fun r => { r with errors := min Config.maxErrors (r.errors + 1) }
  match s1.side? sd with
  | some r =>
    if r.role = .filing ∧ Config.retireErrors ≤ r.errors then
      queueNotice (.sideRetired sd.cart sd.side r.errors) (retireSide sd s1)
    else s1
  | none => s1

-- The commit --------------------------------------------------------------------------------------------------

/-- The prior editions after a push of the current deed: at most four, newest first (R34). -/
def TitleRecord.pushed (r : TitleRecord) : List Prior :=
  match r.current with
  | some loc => { edition := r.edition, loc := loc } :: r.priors.take (Config.maxPriors - 1)
  | none => r.priors

/-- The first step of the commit installs the new deed (R34). -/
def TitleRecord.install (loc : Location) (r : TitleRecord) : TitleRecord :=
  { r with priors := r.pushed, current := some loc, edition := r.edition + 1 }

/-- The second step of the commit changes the entries list by the kind (R35). -/
def TitleRecord.amend (k : LodgeKind) (named : Option Nat) (r : TitleRecord) : TitleRecord :=
  match k.adds with
  | some e =>
    { r with entries := r.entries ++ [{ number := r.nextEntry, kind := e, edition := r.edition }],
             nextEntry := r.nextEntry + 1 }
  | none =>
    if k.removes then { r with entries := r.entries.filter fun e => some e.number ≠ named } else r

/-- The pool's change at a commit (Table 1-2). -/
def Directory.commitPool (k : LodgeKind) (d : Directory) : Directory :=
  match k.adds with
  | some _ => { d with inUse := d.inUse + 1, reserved := d.reserved - 1 }
  | none => if k.removes then { d with inUse := d.inUse - 1 } else d

/-- The directory's part of the commit: the title record and the pool (R32, R34, R35). -/
def commitTitle (l : Lodgement) (loc : Location) (s : State) : State :=
  (s.modTitle l.title fun r => (r.install loc).amend l.kind l.named).modDir (Directory.commitPool l.kind)

/-- FILING_SPACE_LOW is queued when fewer than 16,001 blocks are left on the side (R143). -/
def warnSpace (sd : SideId) (s : State) : State :=
  match s.side? sd with
  | some r =>
    let left := Config.sideBlocks - r.nextFree
    if left < Config.largestExtent then queueNotice (.filingSpaceLow sd.cart sd.side left) s else s
  | none => s

/-- The commit of the lodgement in hand with extent `e`, on drive `d` (R142). -/
def commit (d : DriveNo) (l : Lodgement) (e : Location) (s : State) : State :=
  let s1 := warnSpace e.sideId (s.modSide e.sideId fun r => { r with nextFree := e.start + e.blocks })
  let s2 := commitTitle l e s1
  let s3 := leaveTable l.number s2
  let edition := ((s2.title? l.title).map fun r => r.edition).getD 0
  let s4 := queueNotice (.lodgementFiled l.number l.title edition) s3
  let s5 := judgePins (letGo l.number (endRun d s4))
  choose d (engineTake s5)

-- Failed attempts ---------------------------------------------------------------------------------------------

/-- What follows a failed attempt, by its count of write attempts: a retry from step SIDE (R146), or the failure of the
lodgement, after which the engine takes the next (R147). -/
def afterAttempt (n : Nat) (reason : LodgeFailReason) (s : State) : State :=
  match s.lodgement? n with
  | none => s
  | some l =>
    if l.attempts < 2 then engineAsk s
    else
      engineTake (judgePins (queueNotice (.lodgementFailed n l.title reason) (endLodgement l s)))

/-- The region of a failed attempt is given up: next-free passes the extent and defect blocks rise (R144). -/
def giveUp (e : Location) (s : State) : State :=
  s.modSide e.sideId fun r => { r with nextFree := e.start + e.blocks, defects := r.defects + e.blocks }

/-- An attempt fails by a media error or a verify mismatch on drive `d` (R144). -/
def failAttempt (d : DriveNo) (l : Lodgement) (e : Location) (s : State) : State :=
  let s1 := sideError e.sideId (giveUp e s)
  let s2 := judgePins (dropExtent l.number (endRun d s1))
  choose d (afterAttempt l.number .media s2)

/-- The lodgement that owns the write or verify run in flight on drive `d`, with its extent. -/
def State.runLodgement (s : State) (d : DriveNo) : Option (Lodgement × Location) :=
  match s.drives[d].run with
  | some u =>
    match s.lodgement? u.owner with
    | some l => l.extent.map fun e => (l, e)
    | none => none
  | none => none

/-- The pages that a lodgement's verify run must read back: its LIVE entries as the filing ring holds them, in page order
(R98, R141). -/
def State.pagesOf (s : State) (n : Nat) : List Byte :=
  (s.rings[filingRing].entries.filter fun e => decide (e.owner = n) && e.live).flatMap fun e =>
    s.staging.loadPage s.cfg.layout[filingRing] e.start 0 (e.length * Config.blockBytes)

-- Abandonment -------------------------------------------------------------------------------------------------

/-- The write or verify run of a lodgement is stopped (R65, R149). -/
def stopRuns (n : Nat) (s : State) : State :=
  s.forDrives fun d t => t.modDrive d fun r => { r with
    run := r.run.map fun u =>
      if (u.kind = .write ∨ u.kind = .verify) ∧ u.owner = n then { u with mark := .stopped } else u }

/-- The STALLED or IDLE drive that held only a lodgement's write work is met again once the work has gone (R113). -/
def meetDrives (s : State) : State :=
  s.forDrives fun d t =>
    if t.drives[d].state = .idle ∧ t.drives[d].work = [] ∧ t.drives[d].run = none then lingerJudge d t else t

/-- A lodgement is removed by ABANDON (R148, R149). -/
def abandonLodgement (l : Lodgement) (s : State) : State :=
  let s1 := judgePins (endLodgement l (stopRuns l.number s))
  let s2 := match l.extent with
    | some e => withdrawLoad e.sideId s1
    | none => s1
  runAllocator (engineTake (meetDrives s2))

end Sys2Proof.Machine
end

