-- ==== Sys2Proof/Machine/FetchRequests.lean ====
section
/-!
DEFINITION. The requests of the fetch scheduler: ORDER, CANCEL and ORDER_QUERY (chapter 6).
-/
namespace Sys2Proof.Machine

-- ORDER -------------------------------------------------------------------------------------------------------

/-- The edition and location an edition selector resolves to, with the historical flag (R103). -/
def TitleRecord.resolve (r : TitleRecord) (selector : Nat) : Option (Nat × Location × Bool) :=
  if selector = 0 ∨ selector = r.edition then r.current.map fun loc => (r.edition, loc, false)
  else (r.priors.find? fun p => p.edition = selector).map fun p => (p.edition, p.loc, true)

/-- The media check of R104 for a cartridge out of the library. -/
def State.mediaOffline (s : State) (c : Nat) : Bool :=
  match s.cart? c with
  | none => true
  | some r => decide (r.place = .offline) || decide (r.place = .mail) || s.isLeaving c

/-- A run is a read (Table 4-1). -/
def RunKind.isRead : RunKind → Bool
  | .index => true
  | .page => true
  | .write => false
  | .verify => false

/-- The order numbers in use (R106). -/
def State.orderNumbers (s : State) : List Nat :=
  s.fetch.queue.map (fun o => o.number) ++
    (allDrives.flatMap fun d => s.rings[driveRing d].entries.map fun e => e.owner) ++
    allDrives.flatMap fun d => ((s.drives[d].run.filter fun u => u.kind.isRead).map fun u => u.owner).toList

/-- The number the next accepted order receives (R106). -/
def State.nextOrder (s : State) : Nat :=
  nextNumber s.orderNumbers (s.orderNumbers.length + 1) s.fetch.last

/-- The priority of an account (R100). -/
def priorityOf (a : Fin 13) : Priority := if a.val = 0 then .postal else .counter

/-- The order an accepted ORDER creates (R105), WAITING until it is placed. -/
def State.snapshot (s : State) (r : TitleRecord) (edition : Nat) (loc : Location) (historical : Bool) (a : Fin 13)
    (kind : OrderKind) : FetchOrder where
  number := s.nextOrder
  title := r.number
  edition := edition
  loc := loc
  feeClass := r.feeClass
  historical := historical
  pending := s.isPending r.number
  priority := priorityOf a
  account := a
  kind := kind
  takeIn := s.now
  state := .waiting
  drive := none
  lengths := none
  read := 0
  delivered := 0
  erred := false

/-- An order joins the tail of the fetch queue and its number is the last issued (R106, R107). -/
def enterOrder (o : FetchOrder) (s : State) : State :=
  s.modFetch fun q => { q with queue := q.queue ++ [o], last := o.number }

/-- An order is attached to the drive mounting its side and joins its work list (R108, R109). -/
def attach (d : DriveNo) (n : Nat) (s : State) : State :=
  workJoin d (.order n) (s.modOrder n fun o => { o with state := .attached, drive := some d })

/-- An accepted order is placed by the state of its side (R108). -/
def placeOrder (o : FetchOrder) (s : State) : State :=
  match s.mountedOn o.loc.sideId with
  | some d => chooseIfFree d (attach d o.number (enterOrder o s))
  | none =>
    if s.picker.state = .fault then
      queueNotice (.orderFailed o.number .picker 0) (s.modFetch fun q => { q with last := o.number })
    else runAllocator (enterOrder o s)

/-- The take-in of an order whose checks passed (R105, R108). -/
def takeIn (tag : Byte) (o : FetchOrder) (s : State) : State :=
  answer tag (.order o.number o.edition o.loc.pages o.historical o.pending) (placeOrder o s)

/-- The ORDER checks from the media checks on (R101, checks 5 to 8), then the take-in. -/
def checkMedia (tag : Byte) (r : TitleRecord) (edition : Nat) (loc : Location) (historical : Bool) (account kind : Byte)
    (s : State) : State :=
  if s.mediaOffline loc.cart then refuse tag .mediaOffline s
  else if s.trapped loc.cart then refuse tag .mediaTrapped s
  else
    match accountOf account, orderKindOf kind with
    | some a, some k =>
      if Config.maxOrders ≤ s.fetch.queue.length then refuse tag .queueFull s
      else takeIn tag (s.snapshot r edition loc historical a k) s
    | _, _ => refuse tag .badField s

/-- ORDER at the fetch scheduler: the checks of Table 6-1 in order (R101 to R105). -/
def takeOrder (tag : Byte) (title : Word24) (selector : Word16) (account kind : Byte) : State → State :=
  screened tag fun s =>
    match s.title? title.toNat with
    | none => refuse tag .unknownTitle s
    | some r =>
      if title.toNat = 0 then refuse tag .unknownTitle s
      else if r.status = .closed then answer tag (.referral r.successors) s
      else if r.edition = 0 then refuse tag .notRegistered s
      else
        match r.resolve selector.toNat with
        | none => refuse tag .editionUnavailable s
        | some (e, loc, historical) => checkMedia tag r e loc historical account kind s

/-- ORDER (R100 to R108). -/
def execOrder (tag : Byte) (title : Word24) (selector : Word16) (account kind : Byte) (s : State) :
    Host.Outcome State Fault Refusal :=
  .next (offer (.order tag title selector account kind) (takeOrder tag title selector account kind) s)

-- CANCEL ------------------------------------------------------------------------------------------------------

/-- The removal of an order by CANCEL (R120, R121): its entries are released, its run is discarded, its drive chooses
again if STALLED, and the LOAD of a side left with no work is withdrawn. -/
def cancelOrder (o : FetchOrder) (s : State) : State :=
  let s1 := removeOrder o.number s
  let s2 := wakeLowered s1 (releaseOrder o.number s1)
  match o.drive with
  | some d => chooseIfStalled d s2
  | none => if o.state = .waiting then withdrawLoad o.loc.sideId s2 else s2

/-- CANCEL at the fetch scheduler (R120). -/
def takeCancel (tag : Byte) (n : Word16) : State → State :=
  screened tag fun s =>
    match s.order? n.toNat with
    | none => refuse tag .noSuchOrder s
    | some o => if n.toNat = 0 then refuse tag .noSuchOrder s else answer tag .done (cancelOrder o s)

/-- CANCEL (R120, R121). -/
def execCancel (tag : Byte) (n : Word16) (s : State) : Host.Outcome State Fault Refusal :=
  .next (offer (.cancel tag n) (takeCancel tag n) s)

-- ORDER_QUERY -------------------------------------------------------------------------------------------------

/-- The drive an order is attached to as ORDER_QUERY reports it, 0 when WAITING or DELIVERING (R122). -/
def FetchOrder.driveNumber (o : FetchOrder) : Nat := (o.drive.map fun d => d.val + 1).getD 0

/-- ORDER_QUERY at the fetch scheduler (R122). -/
def takeOrderQuery (tag : Byte) (n : Word16) : State → State :=
  screened tag fun s =>
    match s.order? n.toNat with
    | none => refuse tag .noSuchOrder s
    | some o =>
      answer tag (.orderQuery o.number o.state o.priority o.driveNumber o.loc.pages o.read o.delivered
        (s.isStreaming o.number)) s

/-- ORDER_QUERY (R122). -/
def execOrderQuery (tag : Byte) (n : Word16) (s : State) : Host.Outcome State Fault Refusal :=
  .next (offer (.orderQuery tag n) (takeOrderQuery tag n) s)

end Sys2Proof.Machine
end

