-- ==== Sys2Proof/Machine/TitleRequests.lean ====
section
/-!
DEFINITION. The requests of the title directory but FORMAT: LOOKUP, LIST, NEW_TITLE, SET_CLASS and RETIRE (chapters 1 and
2). A `take` is what the owning block does at the event it receives the request; an `exec` is the command.
-/
namespace Sys2Proof.Machine

-- LOOKUP ------------------------------------------------------------------------------------------------------

/-- LOOKUP at the directory (R19). -/
def takeLookup (tag : Byte) (title : Word24) : State → State :=
  screened tag fun s =>
    if title.toNat = 0 then refuse tag .badField s
    else
      match s.title? title.toNat with
      | none => refuse tag .unknownTitle s
      | some r => answer tag (.lookup r (s.pendingNumber title.toNat)) s

/-- LOOKUP (R19). -/
def execLookup (tag : Byte) (title : Word24) (s : State) : Host.Outcome State Fault Refusal :=
  .next (offer (.lookup tag title) (takeLookup tag title) s)

-- LIST --------------------------------------------------------------------------------------------------------

/-- The item of a LIST answer for a record (R20). -/
def State.listItem (s : State) (r : TitleRecord) : ListItem where
  title := r.number
  status := r.status
  edition := r.edition
  pending := s.isPending r.number

/-- The records of a range of title numbers, ascending (R20). -/
def State.inRange (s : State) (first last : Nat) : List TitleRecord :=
  s.dir.titles.filter fun r => decide (first ≤ r.number) && decide (r.number ≤ last)

/-- The number of the 33rd title of a range, 0 when there is none (R21). -/
def nextListed (rs : List TitleRecord) : Nat :=
  (((rs.drop Config.listLimit).head?).map fun r => r.number).getD 0

/-- LIST at the directory (R20, R21). -/
def takeList (tag : Byte) (first last : Word24) : State → State :=
  screened tag fun s =>
    if last.toNat < first.toNat then refuse tag .badField s
    else
      let rs := s.inRange first.toNat last.toNat
      answer tag (.list ((rs.take Config.listLimit).map s.listItem) (decide (Config.listLimit < rs.length))
        (nextListed rs)) s

/-- LIST (R20, R21). -/
def execList (tag : Byte) (first last : Word24) (s : State) : Host.Outcome State Fault Refusal :=
  .next (offer (.list tag first last) (takeList tag first last) s)

-- NEW_TITLE ---------------------------------------------------------------------------------------------------

/-- The directory with a record added and its count raised (R24). -/
def addTitle (r : TitleRecord) (s : State) : State :=
  s.modDir fun d => { d with titles := insertTitle r d.titles, count := d.count + 1 }

/-- NEW_TITLE at the directory: the checks of Table 2-1, then the creation (R23, R24). -/
def takeNewTitle (tag : Byte) (title : Word24) (cls : Byte) : State → State :=
  screened tag fun s =>
    match feeClassOf cls with
    | none => refuse tag .badField s
    | some c =>
      if title.toNat = 0 then refuse tag .badField s
      else if (s.title? title.toNat).isSome then refuse tag .titleExists s
      else if Config.maxTitles ≤ s.dir.count then refuse tag .directoryFull s
      else
        answer tag (.newTitle title.toNat (s.dir.count + 1)) (addTitle (TitleRecord.fresh title.toNat c) s)

/-- NEW_TITLE (R23, R24). -/
def execNewTitle (tag : Byte) (title : Word24) (cls : Byte) (s : State) : Host.Outcome State Fault Refusal :=
  .next (offer (.newTitle tag title cls) (takeNewTitle tag title cls) s)

-- SET_CLASS ---------------------------------------------------------------------------------------------------

/-- SET_CLASS at the directory (R25). -/
def takeSetClass (tag : Byte) (title : Word24) (cls : Byte) : State → State :=
  screened tag fun s =>
    match feeClassOf cls with
    | none => refuse tag .badField s
    | some c =>
      if title.toNat = 0 then refuse tag .badField s
      else
        match s.title? title.toNat with
        | none => refuse tag .unknownTitle s
        | some r =>
          if r.status = .closed then refuse tag .titleClosed s
          else
            answer tag (.setClass r.feeClass.val c.val) (s.modTitle title.toNat fun q => { q with feeClass := c })

/-- SET_CLASS (R25). -/
def execSetClass (tag : Byte) (title : Word24) (cls : Byte) (s : State) : Host.Outcome State Fault Refusal :=
  .next (offer (.setClass tag title cls) (takeSetClass tag title cls) s)

-- RETIRE ------------------------------------------------------------------------------------------------------

/-- The fault of one successor, its earlier items given, in the order of R29's checks. -/
def State.successorFault (s : State) (title : Nat) (earlier : List Nat) (t : Nat) : Option SuccessorFault :=
  if t = title then some .self
  else
    match s.title? t with
    | none => some .unknown
    | some r =>
      if r.status = .closed then some .closed
      else if t ∈ earlier then some .duplicate
      else none

/-- The first faulty successor's position, counted from `p`, with its fault (R29). -/
def State.firstFault (s : State) (title : Nat) : List Nat → Nat → List Nat → Option (Nat × SuccessorFault)
  | _, _, [] => none
  | earlier, p, t :: rest =>
    match s.successorFault title earlier t with
    | some f => some (p, f)
    | none => s.firstFault title (earlier ++ [t]) (p + 1) rest

/-- The record closed (R30). -/
def TitleRecord.close (successors : List Nat) (r : TitleRecord) : TitleRecord :=
  { r with status := .closed, successors := successors, entries := [] }

/-- The directory with a title closed and its entries returned to the pool (R30). -/
def closeTitle (title : Nat) (successors : List Nat) (returned : Nat) (s : State) : State :=
  (s.modTitle title (TitleRecord.close successors)).modDir fun d => { d with inUse := d.inUse - returned }

/-- A RETIRE of correct form checked against its title (R28), then the retirement (R30). -/
def retireTitle (tag : Byte) (title : Nat) (successors : List Nat) (s : State) : State :=
  match s.title? title with
  | none => refuse tag .unknownTitle s
  | some r =>
    if r.status = .closed then refuse tag .titleClosed s
    else if s.isPending title then refuse tag .titleBusy s
    else if r.entries.any fun e => decide (e.kind = .caution) then refuse tag .cautioned s
    else
      match s.firstFault title [] 1 successors with
      | some (p, f) => answer tag (.badSuccessor p f) s
      | none =>
        let t := closeTitle title successors r.entries.length s
        answer tag (.retire r.entries.length t.dir.free) t

/-- The form of a RETIRE: a title number, a count of 1 to 8, and as many whole successor numbers as it states (R27). -/
def retireFormed (title : Word24) (count : Byte) (successors : List Word24) (stray : List Byte) : Bool :=
  decide (title.toNat ≠ 0) && decide (1 ≤ count.toNat) && decide (count.toNat ≤ 8) &&
    decide (successors.length = count.toNat) && decide (stray = [])

/-- RETIRE at the directory (R27 to R30). -/
def takeRetire (tag : Byte) (title : Word24) (count : Byte) (successors : List Word24) (stray : List Byte) :
    State → State :=
  screened tag fun s =>
    if retireFormed title count successors stray then
      retireTitle tag title.toNat (successors.map fun w => w.toNat) s
    else refuse tag .badField s

/-- A failed header's body is discarded, after which the answer is placed (R186). -/
def discardBody (tag : Byte) (a : Answer) (left : Nat) (s : State) : State :=
  if left = 0 then answer tag a s else s.modLink fun k => { k with decoder := .discarding tag a left }

/-- RETIRE (R27 to R30). A body outside the kind's range of lengths is a frame fault (R186). -/
def execRetire (tag : Byte) (title : Word24) (count : Byte) (successors : List Word24) (stray : List Byte) (s : State) :
    Host.Outcome State Fault Refusal :=
  .next (offer (.retire tag title count successors stray)
    (if lengthAllowed 0x06 (4 + 3 * successors.length + stray.length) = some true then
      takeRetire tag title count successors stray
     else answer tag (.badFrame .length)) s)

end Sys2Proof.Machine
end

