-- ==== Sys2Proof/Machine/FilingRequests.lean ====
section
/-!
DEFINITION. The requests of the filing unit: LODGE, PAGE_IN with its body, ABANDON and LODGE_QUERY (chapter 7).
-/
namespace Sys2Proof.Machine

-- LODGE -------------------------------------------------------------------------------------------------------

/-- An entry of the number `n`, which 0 does not name, whose kind is CAUTION or is not (R127, check 9). -/
def TitleRecord.holdsEntry (r : TitleRecord) (n : Nat) (caution : Bool) : Bool :=
  decide (n ≠ 0) && r.entries.any fun e => decide (e.number = n) && decide (decide (e.kind = .caution) = caution)

/-- Check 9 of R127 passes: the entry that a DISCHARGE or a WITHDRAWAL names is held and of a right kind. -/
def TitleRecord.namesEntry (r : TitleRecord) (k : LodgeKind) (n : Nat) : Bool :=
  match k with
  | .discharge => r.holdsEntry n false
  | .withdrawal => r.holdsEntry n true
  | _ => true

/-- The entries list holds a CAUTION. -/
def TitleRecord.cautioned (r : TitleRecord) : Bool := r.entries.any fun e => decide (e.kind = .caution)

/-- Check 7 of R127 bears on TRANSFER and CHARGE (Table 7-1). -/
def LodgeKind.barredByCaution : LodgeKind → Bool
  | .transfer => true
  | .charge => true
  | _ => false

/-- LODGE checks 2 to 12 for the record the title number found, in the order of Table 7-2. -/
def State.lodgeRefusal (s : State) (r : TitleRecord) (k : LodgeKind) (entry pages : Nat) : Option Code :=
  if r.status = .closed then some .titleClosed
  else if s.isPending r.number then some .titleBusy
  else if k = .first ∧ r.edition ≠ 0 then some .alreadyRegistered
  else if k ≠ .first ∧ r.edition = 0 then some .notRegistered
  else if Config.maxEdition ≤ r.edition then some .editionLimit
  else if k.barredByCaution && r.cautioned then some .cautioned
  else if k.adds.isSome && (decide (Config.maxEntries ≤ r.entries.length) ||
      decide (Config.spentEntryNumber ≤ r.nextEntry)) then some .entryLimit
  else if r.namesEntry k entry = false then some .noSuchEntry
  else if k.adds.isSome && decide (s.dir.free = 0) then some .poolFull
  else if Config.maxLodgements ≤ s.filing.table.length then some .lodgementTableFull
  else if pages = 0 ∨ Config.maxPages < pages then some .badField
  else none

/-- The lodgement numbers in use (R129). -/
def State.lodgementNumbers (s : State) : List Nat :=
  s.filing.table.map (fun l => l.number) ++ s.rings[filingRing].entries.map (fun e => e.owner) ++
    allDrives.flatMap fun d =>
      ((s.drives[d].run.filter fun u => !u.kind.isRead && decide (u.mark = .stopped)).map fun u => u.owner).toList

/-- The number the next accepted LODGE receives (R129). -/
def State.nextLodgement (s : State) : Nat :=
  nextNumber s.lodgementNumbers (s.lodgementNumbers.length + 1) s.filing.last

/-- The lodgement an accepted LODGE creates (R128). -/
def State.newLodgement (s : State) (title : Nat) (k : LodgeKind) (entry pages : Nat) : Lodgement where
  number := s.nextLodgement
  title := title
  kind := k
  named := if k.removes then some entry else none
  declared := pages
  received := 0
  lengths := []
  held := 0
  state := .receiving
  staging := none
  stagedNo := 0
  attempts := 0
  extent := none
  lastActivity := s.now
  idle := some (s.now + s.cfg.timing.idle.quarters)

/-- The pool place of an adding kind is reserved (R10). -/
def reserve (k : LodgeKind) (s : State) : State :=
  match k.adds with
  | some _ => s.modDir fun d => { d with reserved := d.reserved + 1 }
  | none => s

/-- A lodgement joins the tail of the table and its number is the last issued (R128, R129). -/
def enterLodgement (l : Lodgement) (s : State) : State :=
  reserve l.kind (s.modFiling fun g => { g with table := g.table ++ [l], last := l.number })

/-- LODGE at the filing unit (R125 to R128). -/
def takeLodge (tag : Byte) (title : Word24) (kind pages entry : Byte) : State → State :=
  screened tag fun s =>
    match lodgeKindOf kind with
    | none => refuse tag .badField s
    | some k =>
      match s.title? title.toNat with
      | none => refuse tag .unknownTitle s
      | some r =>
        if title.toNat = 0 then refuse tag .unknownTitle s
        else
          match s.lodgeRefusal r k entry.toNat pages.toNat with
          | some c => refuse tag c s
          | none =>
            let l := s.newLodgement r.number k entry.toNat pages.toNat
            let t := enterLodgement l s
            answer tag (.lodge l.number (r.edition + 1) k.adds.isSome t.dir.free) t

/-- LODGE (R125 to R129). -/
def execLodge (tag : Byte) (title : Word24) (kind pages entry : Byte) (s : State) : Host.Outcome State Fault Refusal :=
  .next (offer (.lodge tag title kind pages entry) (takeLodge tag title kind pages entry) s)

-- PAGE_IN -----------------------------------------------------------------------------------------------------

/-- The decoder enters BODY, or composes the ANSWER at once where a refused page has no byte to follow (R188). -/
def enterBody (tag : Byte) (fate : BodyFate) (left : Nat) (s : State) : State :=
  s.modLink fun k => { k with decoder := .body tag fate left }

/-- A refused PAGE_IN: its body is read and discarded and the ANSWER follows its end (R131, R188). -/
def refuseBody (tag : Byte) (c : Code) (left : Nat) (s : State) : State :=
  if left = 0 then refuse tag c s else enterBody tag (.refused (.refused c)) left s

/-- The admission of a page of a lodgement: its entry joins the filing ring's tail and the lodgement's entry list, and
the idle timer stops (R131). -/
def admitPage (l : Lodgement) (length : Nat) (g : PageRing) (s : State) : State :=
  (s.modRing filingRing fun _ => g).modLodgement l.number fun m =>
    { m with lengths := m.lengths ++ [length], idle := none }

/-- PAGE_IN's checks at the filing unit in the order of R131, with `bodyBytes` bytes of blocks to follow. -/
def checkPage (tag : Byte) (n length bodyBytes : Nat) (s : State) : State :=
  match s.lodgement? n with
  | none => refuseBody tag .noSuchLodgement bodyBytes s
  | some l =>
    if n = 0 then refuseBody tag .noSuchLodgement bodyBytes s
    else if l.state ≠ .receiving then refuseBody tag .pageCount bodyBytes s
    else if length = 0 ∨ Config.maxPageBlocks < length ∨ bodyBytes ≠ length * Config.blockBytes then
      refuseBody tag .badField bodyBytes s
    else
      match s.rings[filingRing].admitPage (s.modulus filingRing) n (l.received + 1) length with
      | none => refuseBody tag .stagingFull bodyBytes s
      | some g => enterBody tag (.admitted n length) bodyBytes (admitPage l length g s)

/-- PAGE_IN at the filing unit (R131); in UNFORMATTED its body is read and discarded (R14, R125). -/
def takePageIn (tag : Byte) (n : Word16) (length : Byte) (bodyBytes : Nat) (s : State) : State :=
  match s.condition with
  | .unformatted => refuseBody tag .notFormatted bodyBytes s
  | .ready => checkPage tag n.toNat length.toNat bodyBytes s

/-- PAGE_IN (R131). A body outside the kind's range of lengths is a frame fault, its bytes discarded (R186). -/
def execPageIn (tag : Byte) (n : Word16) (length : Byte) (bodyBytes : Nat) (s : State) :
    Host.Outcome State Fault Refusal :=
  .next (offer (.pageIn tag n length bodyBytes)
    (if lengthAllowed pageInKind (pageInFields + bodyBytes) = some true then takePageIn tag n length bodyBytes
     else discardBody tag (.badFrame .length) bodyBytes) s)

-- The body of a PAGE_IN ---------------------------------------------------------------------------------------

/-- The LIVE AWAITING entry of lodgement `n`'s arriving page in the filing ring; an overflow may have left a RELEASED one
behind a LIVE head (R93, R185). -/
def State.arriving (s : State) (n : Nat) : Option PageEntry :=
  s.rings[filingRing].entries.find? fun e => decide (e.owner = n) && e.live && !e.filled

/-- Bytes of an admitted page enter the blocks of its AWAITING entry; `left` are the bytes still to come before them
(R131, R188). -/
def storeArrival (n length left : Nat) (bs : List Byte) (s : State) : State :=
  match s.arriving n with
  | some e =>
    s.modStaging (Memory.storePage s.cfg.layout[filingRing] e.start (length * Config.blockBytes - left) bs)
  | none => s

/-- The entry of the page becomes FILLED and the lodgement's figures rise (R93, R132). -/
def countPage (l : Lodgement) (length : Nat) (s : State) : State :=
  (s.modRing filingRing (PageRing.fillEntry l.number (l.received + 1))).modLodgement l.number fun m =>
    { m with received := m.received + 1, held := m.held + length, lastActivity := s.now }

/-- A lodgement becomes STAGED: its staging time is set, its idle timer stays stopped, the pins are judged and the write
engine is told (R132, R135). -/
def stageLodgement (n : Nat) (s : State) : State :=
  engineTake (judgePins ((s.modLodgement n fun m =>
      { m with state := .staged, staging := some s.now, stagedNo := s.filing.stagedCount, idle := none }).modFiling
    fun g => { g with stagedCount := g.stagedCount + 1 }))

/-- The last byte of an admitted body has entered the ring (R132). -/
def pageArrived (tag : Byte) (n length : Nat) (s : State) : State :=
  match s.lodgement? n with
  | none => refuse tag .noSuchLodgement s
  | some l =>
    let t := countPage l length s
    if l.declared ≤ l.received + 1 then answer tag (.pageIn n (l.received + 1) .staged) (stageLodgement n t)
    else answer tag (.pageIn n (l.received + 1) .receiving) (startIdle n t)

/-- The last byte of a PAGE_IN body has been read: the ANSWER is composed (R188). -/
def endBody (tag : Byte) (fate : BodyFate) (s : State) : State :=
  match fate with
  | .admitted n length => pageArrived tag n length s
  | .refused a => answer tag a s

/-- Bytes of a body, at most `left`, are read: they enter the admitted page's blocks or are discarded (R188). -/
def readBody (tag : Byte) (fate : BodyFate) (left : Nat) (bs : List Byte) (s : State) : State :=
  let t := match fate with
    | .admitted n length => storeArrival n length left bs s
    | .refused _ => s
  if left ≤ bs.length then endBody tag fate t else enterBody tag fate (left - bs.length) t

/-- A decoder in BODY reads what the inbound FIFO holds of the body (R188). -/
def readInbound (tag : Byte) (fate : BodyFate) (left : Nat) (s : State) : State :=
  readBody tag fate left (s.link.inbound.take left)
    (s.modLink fun k => Link.holdOnRead s.cfg.levels { k with inbound := k.inbound.drop left })

/-- The host's last bytes of a PAGE_IN body: in BODY what waits in the FIFO is read, then these bytes up to the body's
end, at which the ANSWER is ready and the arbiter chooses (R189); any byte beyond it, and all of them in another state, are written
like any other. -/
def takeBodyData (data : List Byte) (s : State) : State :=
  match s.link.decoder with
  | .body tag fate left =>
    if left ≤ s.link.inbound.length then writeBytes data (arbitrate (readInbound tag fate left s))
    else
      let t := readInbound tag fate left s
      let rest := left - s.link.inbound.length
      writeBytes (data.drop rest) (arbitrate (readBody tag fate rest (data.take rest) t))
  | _ => writeBytes data s

/-- PAGE_IN_BODY_END (R132, R188). -/
def execPageInBodyEnd (data : List Byte) (s : State) : Host.Outcome State Fault Refusal :=
  .next (takeBodyData data s)

-- ABANDON -----------------------------------------------------------------------------------------------------

/-- ABANDON at the filing unit (R148, R149). -/
def takeAbandon (tag : Byte) (n : Word16) : State → State :=
  screened tag fun s =>
    match s.lodgement? n.toNat with
    | none => refuse tag .noSuchLodgement s
    | some l => if n.toNat = 0 then refuse tag .noSuchLodgement s else answer tag .done (abandonLodgement l s)

/-- ABANDON (R148, R149). -/
def execAbandon (tag : Byte) (n : Word16) (s : State) : Host.Outcome State Fault Refusal :=
  .next (offer (.abandon tag n) (takeAbandon tag n) s)

-- LODGE_QUERY -------------------------------------------------------------------------------------------------

/-- The engine's step for a lodgement, none when it is not in hand (R150). -/
def State.stepOf (s : State) (n : Nat) : Option EngineStep :=
  match s.filing.hand with
  | some (m, step) => if m = n then some step else none
  | none => none

/-- LODGE_QUERY at the filing unit (R150). -/
def takeLodgeQuery (tag : Byte) (n : Word16) : State → State :=
  screened tag fun s =>
    match s.lodgement? n.toNat with
    | none => refuse tag .noSuchLodgement s
    | some l =>
      if n.toNat = 0 then refuse tag .noSuchLodgement s
      else answer tag (.lodgeQuery l (s.now - l.lastActivity) (s.stepOf n.toNat)) s

/-- LODGE_QUERY (R150). -/
def execLodgeQuery (tag : Byte) (n : Word16) (s : State) : Host.Outcome State Fault Refusal :=
  .next (offer (.lodgeQuery tag n) (takeLodgeQuery tag n) s)

end Sys2Proof.Machine
end

