-- ==== Sys2Proof/Machine/LibraryRequests.lean ====
section
/-!
DEFINITION. The requests of the library controller: IMPORT, EXPORT, SIDE_ROLE, SHELF_QUERY (chapter 3), TIMING and
DRIVE_QUERY (chapter 4), and the staging memory controller's RING (chapter 5).
-/
namespace Sys2Proof.Machine

-- IMPORT ------------------------------------------------------------------------------------------------------

/-- The record IMPORT creates for a number not in the table (R52). -/
def Cartridge.fresh (c : Nat) (a b : Role) : Cartridge where
  number := c
  place := .offline
  home := none
  former := none
  sideA := { role := a, nextFree := 0, defects := 0, errors := 0 }
  sideB := { role := b, nextFree := 0, defects := 0, errors := 0 }

/-- The destination of an IMPORT: a known cartridge's former slot if it is open, else the lowest open slot (R52). -/
def State.importSlot (s : State) (known : Option Cartridge) : Option Nat :=
  match known.bind fun r => r.former with
  | some n => if s.lib.slotOpen n then some n else s.lib.lowestOpen
  | none => s.lib.lowestOpen

/-- The IMPORT checks after the first, in the order of Table 3-4. -/
def State.importRefusal (s : State) (c : Nat) : Option Code :=
  if s.lib.mail = false then some .mailSlotEmpty
  else if (s.cart? c).any fun r => decide (r.place ≠ .offline) then some .cartridgeExists
  else if s.lib.carts.any fun r => decide (r.number ≠ c) && decide (r.place = .mail) then some .mailSlotFull
  else if s.cart? c = none ∧ Config.maxCartridges ≤ s.lib.carts.length then some .tableFull
  else if s.picker.state = .fault then some .libraryBusy
  else none

/-- The record is created, or an OFFLINE one kept as it stands (R52). -/
def enterCart (c : Nat) (a b : Role) (s : State) : State :=
  match s.cart? c with
  | some _ => s
  | none => s.modLib fun l => { l with carts := insertCart (Cartridge.fresh c a b) l.carts }

/-- A cartridge in the grip bound for the mail slot is held from the IMPORT of the one that lies there, until the slot is
emptied (R42, R56; DESIGN CHOICE, notes/assumptions/43.md). -/
def holdForMail (s : State) : State :=
  s.modPicker fun p => { p with
    active := p.active.map fun a => if a.picked = true ∧ a.target = .mail then { a with waiting := true } else a }

/-- An accepted IMPORT: the record, its place MAIL and its home slot, and the task (R52). -/
def acceptImport (c : Nat) (a b : Role) (n : Nat) (s : State) : State :=
  pickerChoose (enqueue { kind := .importTask, cart := some c, side := .A, drive := none }
    ((holdForMail (enterCart c a b s)).modCart c fun r => { r with place := .mail, home := some n }))

/-- IMPORT at the library controller (R51, R52). -/
def takeImport (tag : Byte) (cart : Word16) (roleA roleB : Byte) : State → State :=
  screened tag fun s =>
    match roleOf roleA, roleOf roleB with
    | some a, some b =>
      if cart.toNat = 0 ∨ Config.maxCartridgeNumber < cart.toNat then refuse tag .badField s
      else
        match s.importRefusal cart.toNat with
        | some c => refuse tag c s
        | none =>
          match s.importSlot (s.cart? cart.toNat) with
          | none => refuse tag .noFreeSlot s
          | some n => answer tag (.importCart cart.toNat n) (acceptImport cart.toNat a b n s)
    | _, _ => refuse tag .badField s

/-- IMPORT (R51, R52). -/
def execImportCart (tag : Byte) (cart : Word16) (roleA roleB : Byte) (s : State) : Host.Outcome State Fault Refusal :=
  .next (offer (.importCart tag cart roleA roleB) (takeImport tag cart roleA roleB) s)

-- EXPORT ------------------------------------------------------------------------------------------------------

/-- An order or a lodgement refers to a cartridge (R54). -/
def State.refersTo (s : State) (c : Nat) : Bool :=
  s.fetch.queue.any (fun o => decide (o.loc.cart = c)) ||
    s.filing.table.any fun l => (l.extent.map fun e => decide (e.cart = c)).getD false

/-- The cartridge holds the active filing side while a lodgement is STAGED, WRITING or VERIFYING (R54). -/
def State.filingOn (s : State) (c : Nat) : Bool :=
  (s.lib.active.map fun sd => decide (sd.cart = c)).getD false &&
    s.filing.table.any fun l => decide (l.state ≠ .receiving)

/-- The EXPORT checks, in order (R54). -/
def State.exportRefusal (s : State) (c : Nat) (r : Cartridge) : Option Code :=
  if r.place = .offline ∨ r.place = .mail then some .mediaOffline
  else if s.trapped c then some .mediaTrapped
  else if s.refersTo c || s.filingOn c || s.isLeaving c then some .cartridgeBusy
  else if s.lib.mail then some .mailSlotFull
  else if s.picker.state = .fault then some .libraryBusy
  else none

/-- The release an EXPORT asks of the drive its cartridge is in: at once when the drive is IDLE, otherwise at its next
entry into IDLE (R55). -/
def releaseFor (p : Place) (s : State) : State :=
  match p with
  | .drive d => askRelease d s
  | .slot _ => s
  | .picker => s
  | .mail => s
  | .offline => s

/-- An accepted EXPORT: the leaving mark, the active filing side cleared, and the task (R55). -/
def acceptExport (c : Nat) (p : Place) (s : State) : State :=
  let s1 := judgePins (clearActiveOf c (s.modLib fun l => { l with leaving := l.leaving ++ [c] }))
  pickerChoose (releaseFor p (enqueue { kind := .exportTask, cart := some c, side := .A, drive := none } s1))

/-- EXPORT at the library controller (R54, R55). -/
def takeExport (tag : Byte) (cart : Word16) : State → State :=
  screened tag fun s =>
    match s.cart? cart.toNat with
    | none => refuse tag .unknownCartridge s
    | some r =>
      match s.exportRefusal cart.toNat r with
      | some c => refuse tag c s
      | none => answer tag .done (acceptExport cart.toNat r.place s)

/-- EXPORT (R54, R55). -/
def execExportCart (tag : Byte) (cart : Word16) (s : State) : Host.Outcome State Fault Refusal :=
  .next (offer (.exportCart tag cart) (takeExport tag cart) s)

-- SIDE_ROLE ---------------------------------------------------------------------------------------------------

/-- The permitted changes of role (R57). -/
def roleChange : Role → Role → Bool
  | .archive, .filing => true
  | .filing, .archive => true
  | .full, .archive => true
  | _, _ => false

/-- A lodgement holds an extent on a side (R57). -/
def State.extentOn (s : State) (sd : SideId) : Bool :=
  s.filing.table.any fun l => (l.extent.map fun e => decide (e.sideId = sd)).getD false

/-- A changed role with its effects on the pointer and the write engine (R57). -/
def changeRole (sd : SideId) (role : Role) (s : State) : State :=
  let t := s.modSide sd fun r => { r with role := role }
  match role with
  | .filing => engineAsk t
  | _ => runAllocator (judgePins (t.modLib fun l => { l with active := l.active.filter fun a => a ≠ sd }))

/-- SIDE_ROLE at the library controller (R57). -/
def takeSideRole (tag : Byte) (cart : Word16) (side role : Byte) : State → State :=
  screened tag fun s =>
    match sideOf side, roleOf role with
    | some sd, some new =>
      if cart.toNat = 0 ∨ Config.maxCartridgeNumber < cart.toNat then refuse tag .badField s
      else
        match s.side? ⟨cart.toNat, sd⟩ with
        | none => refuse tag .unknownCartridge s
        | some r =>
          if r.role = new then answer tag (.sideRole new new) s
          else if roleChange r.role new = false then refuse tag .badField s
          else if r.role = .filing ∧ s.extentOn ⟨cart.toNat, sd⟩ = true then refuse tag .cartridgeBusy s
          else answer tag (.sideRole r.role new) (changeRole ⟨cart.toNat, sd⟩ new s)
    | _, _ => refuse tag .badField s

/-- SIDE_ROLE (R57). -/
def execSideRole (tag : Byte) (cart : Word16) (side role : Byte) (s : State) : Host.Outcome State Fault Refusal :=
  .next (offer (.sideRole tag cart side role) (takeSideRole tag cart side role) s)

-- SHELF_QUERY -------------------------------------------------------------------------------------------------

/-- SHELF_QUERY at the library controller (R58). -/
def takeShelfQuery (tag : Byte) (cart : Word16) : State → State :=
  screened tag fun s =>
    if cart.toNat = 0 ∨ Config.maxCartridgeNumber < cart.toNat then refuse tag .badField s
    else
      match s.cart? cart.toNat with
      | none => refuse tag .unknownCartridge s
      | some r =>
        answer tag (.shelf r (s.isLeaving cart.toNat) (s.trapped cart.toNat)
          (decide (s.lib.active = some ⟨cart.toNat, .A⟩)) (decide (s.lib.active = some ⟨cart.toNat, .B⟩))) s

/-- SHELF_QUERY (R58). -/
def execShelfQuery (tag : Byte) (cart : Word16) (s : State) : Host.Outcome State Fault Refusal :=
  .next (offer (.shelfQuery tag cart) (takeShelfQuery tag cart) s)

-- TIMING ------------------------------------------------------------------------------------------------------

/-- A drive that bars TIMING (R83). -/
def DriveState.busyForTiming : DriveState → Bool
  | .reading => true
  | .stalled => true
  | .writing => true
  | .verifying => true
  | _ => false

/-- The library is too busy for TIMING (R83). -/
def State.timingBusy (s : State) : Bool :=
  (allDrives.any fun d => s.drives[d].state.busyForTiming) || decide (s.picker.state ≠ .idle)

/-- TIMING at the library controller (R83); the reopening timer is set afresh (R74), and the picker chooses,
since a shorter window may let a queued LOAD begin (R73). -/
def takeTiming (tag : Byte) (hold linger window promotion idle poll : SentSetting) : State → State :=
  screened tag fun s =>
    match timingOf hold linger window promotion idle poll with
    | none => refuse tag .badField s
    | some t =>
      if s.timingBusy then refuse tag .libraryBusy s
      else answer tag (.timing t) (pickerChoose (setReopening (s.modCfg fun c => { c with timing := t })))

/-- TIMING (R83). -/
def execTiming (tag : Byte) (hold linger window promotion idle poll : SentSetting) (s : State) :
    Host.Outcome State Fault Refusal :=
  .next (offer (.timing tag hold linger window promotion idle poll)
    (takeTiming tag hold linger window promotion idle poll) s)

-- DRIVE_QUERY -------------------------------------------------------------------------------------------------

/-- The orders in a work list (R84). -/
def Drive.orders (dr : Drive) : Nat :=
  (dr.work.filter fun w => match w with
    | .order _ => true
    | .write _ => false).length

/-- The item of a drive (R84). -/
def State.driveItem (s : State) (d : DriveNo) : DriveItem where
  state := s.drives[d].state
  mounted := s.drives[d].mounted
  reserved := s.drives[d].reserved
  releasePending := s.drives[d].releasePending
  pin := s.drives[d].pin
  occupied := s.rings[driveRing d].occupied
  orders := s.drives[d].orders

/-- The picker part (R84). -/
def State.pickerItem (s : State) : PickerItem where
  state := s.picker.state
  task := s.picker.active.map fun a => (a.task.kind, a.task.cart)
  queued := s.picker.queue.length
  starts := s.startsWithin.length

/-- DRIVE_QUERY at the library controller (R84). -/
def takeDriveQuery (tag : Byte) : State → State :=
  screened tag fun s => answer tag (.drives (allDrives.map s.driveItem) s.pickerItem) s

/-- DRIVE_QUERY (R84). -/
def execDriveQuery (tag : Byte) (s : State) : Host.Outcome State Fault Refusal :=
  .next (offer (.driveQuery tag) (takeDriveQuery tag) s)

-- RING --------------------------------------------------------------------------------------------------------

/-- Every ring's entry list is empty (R15, R89). -/
def State.ringsEmpty (s : State) : Bool :=
  ([0, 1, 2, 3, 4, 5, 6] : List (Fin 7)).all fun r => decide (s.rings[r].entries = [])

/-- A shape for ring `r` passes block 8,192 or shares a block with another ring's span (R89). -/
def State.shapeClashes (s : State) (r : Fin 7) (shape : RingShape) : Bool :=
  decide (Config.stagingBlocks < shape.base + shape.modulus) ||
    ([0, 1, 2, 3, 4, 5, 6] : List (Fin 7)).any fun q => decide (q ≠ r) && shape.overlaps s.cfg.layout[q]

/-- The ring's base and modulus are set and its pointers become 0 (R90). -/
def reshape (r : Fin 7) (shape : RingShape) (s : State) : State :=
  (s.modCfg fun c => { c with layout := c.layout.set r.val shape r.isLt }).modRing r fun g =>
    { g with drain := 0, fill := 0 }

/-- RING at the staging memory controller (R89, R90). -/
def takeRing (tag : Byte) (number : Byte) (base modulus : Word16) : State → State :=
  screened tag fun s =>
    match ringOf number with
    | none => refuse tag .badField s
    | some r =>
      let m := clampModulus modulus.toNat
      let b := alignedBase base.toNat m
      if s.ringsEmpty = false then refuse tag .libraryBusy s
      else if s.shapeClashes r ⟨b, m⟩ then refuse tag .ringOverlap s
      else answer tag (.ring number.toNat b m (alignment m)) (reshape r ⟨b, m⟩ s)

/-- RING (R89, R90). -/
def execRing (tag : Byte) (number : Byte) (base modulus : Word16) (s : State) : Host.Outcome State Fault Refusal :=
  .next (offer (.ring tag number base modulus) (takeRing tag number base modulus) s)

end Sys2Proof.Machine
end

