-- ==== Sys2Proof/Machine/LinkRequests.lean ====
section
/-!
DEFINITION. COUNTER_LINE (R174), LINK_LEVELS (R196) and the two failing headers, UNKNOWN_KIND and BAD_FRAME (R186).
QUEUE_RESET is in `Resets.lean`.
-/
namespace Sys2Proof.Machine

/-- COUNTER_LINE at the counter line controller (R174). DESIGN CHOICE (notes/assumptions/47.md): the new address prefix and
rate hold for transactions begun from the ANSWER's composition on; R174's "after the answer" may also mean its placing. -/
def takeCounterLine (tag : Byte) (addrPrefix rate : Byte) : State → State :=
  screened tag fun s =>
    if 7 < addrPrefix.toNat ∨ 3 < rate.toNat then refuse tag .badField s
    else
      answer tag (.counterLine addrPrefix.toNat rate.toNat)
        (s.modCfg fun c => { c with addrPrefix := addrPrefix.toNat, rate := rate.toNat })

/-- COUNTER_LINE (R174). -/
def execCounterLine (tag : Byte) (addrPrefix rate : Byte) (s : State) : Host.Outcome State Fault Refusal :=
  .next (offer (.counterLine tag addrPrefix rate) (takeCounterLine tag addrPrefix rate) s)

/-- New link levels are in force: HOLD, page halt and ATTENTION are judged against them at once (R196). -/
def setLevels (v : Levels) (s : State) : State :=
  judgeOut ((s.modCfg fun c => { c with levels := v }).modLink (Link.judgeHold v))

/-- LINK_LEVELS at the link, taken in either condition (R196). In UNFORMATTED the configuration held is the one outside
directory memory, which a full reset replaces (R14). -/
def takeLinkLevels (tag : Byte) (hold resume halt haltResume trigger : Word16) (s : State) : State :=
  let v := clampLevels hold resume halt haltResume trigger
  answer tag (.linkLevels v) (setLevels v s)

/-- LINK_LEVELS (R196). -/
def execLinkLevels (tag : Byte) (hold resume halt haltResume trigger : Word16) (s : State) :
    Host.Outcome State Fault Refusal :=
  .next (offer (.linkLevels tag hold resume halt haltResume trigger)
    (takeLinkLevels tag hold resume halt haltResume trigger) s)

/-- A header whose kind names no request: its body is discarded and the ANSWER is UNKNOWN_KIND (R186). -/
def execUnknownKind (tag kind : Byte) (body : List Byte) (s : State) : Host.Outcome State Fault Refusal :=
  .next (offer (.unknownKind tag kind body) (answer tag (.refused .unknownKind)) s)

/-- A header whose body length its kind does not allow: its body is discarded and the ANSWER is BAD_FRAME with cause
LENGTH (R186). -/
def execBadFrame (tag kind : Byte) (body : List Byte) (s : State) : Host.Outcome State Fault Refusal :=
  .next (offer (.badFrame tag kind body) (answer tag (.badFrame .length)) s)

end Sys2Proof.Machine
end

