-- ==== Sys2Proof/Machine/Resets.lean ====
section
/-!
DEFINITION. FORMAT (R15 to R18), QUEUE_RESET (R198, R85, R99, R123, R151), the full reset (R13, R14, R197 and the reset
rules of each chapter) and the release of RESET.
-/
namespace Sys2Proof.Machine

-- FORMAT ------------------------------------------------------------------------------------------------------

/-- A drive that does not bar FORMAT: EMPTY, IDLE, or a position reported absent (R15). -/
def Drive.quiet (dr : Drive) : Bool :=
  decide (dr.state = .empty) || decide (dr.state = .idle) || !dr.fitted

/-- The library is quiet enough for FORMAT (R15). -/
def State.quiet (s : State) : Bool :=
  decide (s.fetch.queue = []) && decide (s.filing.table = []) && (allDrives.all fun d => s.drives[d].quiet) &&
    decide (s.picker.state = .idle) && s.picker.active.isNone && decide (s.picker.queue = []) && s.ringsEmpty

/-- The three stages of R16: the initial lasting state of Table 1-3 is written with the format mark, and the part is
READY. The stages are one step here. -/
def writeInitial (s : State) : State :=
  { s with
    formatMark := true
    condition := .ready
    dir := Directory.initial
    lib := { s.lib with carts := [], active := none }
    rings := Vector.replicate 7 PageRing.initial
    fees := Fees.initial
    cfg := Settings.default }

/-- The default link levels and picker window are in force (R17, R74). -/
def judgeDefaults (s : State) : State :=
  setReopening (judgeOut (s.modLink (Link.judgeHold s.cfg.levels)))

/-- A POST in progress is of an item whose queue FORMAT empties (R18). A POLL in progress goes on, and a settlement that it
collects is applied to the account as FORMAT left it; R182 says nothing of a POLL at FORMAT (DESIGN CHOICE,
notes/assumptions/48.md). -/
def Transaction.orphaned : Transaction → Transaction
  | .post n item _ p r => .post n item true p r
  | .poll n acked p r => .poll n acked p r

/-- The counter line's part of FORMAT (R18, R182). The controller chooses at this event, so the first refresh POST has the new prefix
and rate: R17's "after the answer" is read as after its composition, which may also mean its placing (DESIGN CHOICE,
notes/assumptions/47.md). -/
def formatLine (s : State) : State :=
  lineChoose (refreshLine (s.modLine fun l => { l with trans := l.trans.map Transaction.orphaned }))

/-- A FORMAT taken in READY leaves the cartridges of the IDLE drives without a record (R18, R71). -/
def unrecordDrive (d : DriveNo) (s : State) : State :=
  lingerJudge d (s.modDrive d fun r => { r with unrecorded := r.unrecorded || decide (r.state = .idle) })

/-- The release of each IDLE drive, as at linger expiry (R18). -/
def releaseDrives (s : State) : State := (s.forDrives unrecordDrive).forDrives releaseUnrecorded

/-- FORMAT taken in UNFORMATTED: it issues the mechanism reset (R18). -/
def formatNew (s : State) : State := formatLine (judgeDefaults { writeInitial s with mechReset := true })

/-- FORMAT taken in READY (R18). -/
def formatQuiet (s : State) : State := formatLine (releaseDrives (judgeDefaults (writeInitial s)))

/-- FORMAT at the directory (R15). -/
def takeFormat (tag : Byte) (s : State) : State :=
  match s.condition with
  | .unformatted => answer tag .done (formatNew s)
  | .ready => if s.quiet then answer tag .done (formatQuiet s) else refuse tag .libraryBusy s

/-- FORMAT (R15 to R18). -/
def execFormat (tag : Byte) (s : State) : Host.Outcome State Fault Refusal :=
  .next (offer (.format tag) (takeFormat tag) s)

-- QUEUE_RESET -------------------------------------------------------------------------------------------------

/-- How a queue reset marks a run in flight: a write or verify run is stopped, a read run left to end, and either ending
is discarded (R65, R85). -/
def Run.resetMark (u : Run) : Run :=
  match u.kind with
  | .index => { u with mark := .discard }
  | .page => { u with mark := .discard }
  | .write => { u with mark := .stopped }
  | .verify => { u with mark := .stopped }

/-- A drive record at a queue reset: its run marked, its work list empty, its pin clear, STALLED become IDLE, and the
reservation of a LOAD not yet begun cleared (R85). -/
def Drive.queueReset (t : Nat) (loading : Bool) (r : Drive) : Drive :=
  { r with
    state := if r.state = .stalled then .idle else r.state
    idleSince := if r.state = .stalled then t else r.idleSince
    run := r.run.map Run.resetMark
    work := []
    pin := false
    reserved := if loading then none else r.reserved }

/-- What a queue reset does to drive `d`: its record, then a release an EXPORT asked for and linger (R55, R69, R85). -/
def resetQueues (d : DriveNo) (s : State) : State :=
  let stalled := decide (s.drives[d].state = .stalled)
  let t := s.modDrive d (Drive.queueReset s.now (s.loadQueued d))
  let u := if stalled && s.holdsLeaving s.drives[d] then askRelease d t else t
  lingerJudge d u

/-- Every LOAD not yet begun leaves the picker queue (R85). -/
def withdrawLoads (s : State) : State :=
  s.modPicker fun p => { p with queue := p.queue.filter fun t => decide (t.kind ≠ .load) }

/-- Every ring entry is released, a streaming one at its message's end (R99). -/
def releaseRings (s : State) : State :=
  ([0, 1, 2, 3, 4, 5, 6] : List (Fin 7)).foldl (fun t r => releaseIn r (fun _ => true) t) s

/-- The lodgements of adding kinds in the table. -/
def Filing.adding (g : Filing) : Nat := (g.table.filter fun l => l.kind.adds.isSome).length

/-- The fetch queue and the lodgement table are emptied, with the reservations and the write engine (R123, R151). -/
def emptyQueues (s : State) : State :=
  ((s.modDir fun d => { d with reserved := d.reserved - s.filing.adding }).modFetch fun q =>
    { q with queue := [] }).modFiling fun g => { g with table := [], hand := none, wanting := false }

/-- The blocks' part of a queue reset. -/
def resetBlocks (s : State) : State :=
  withdrawLoads ((emptyQueues (releaseRings s)).forDrives resetQueues)

/-- QUEUE_RESET at the link, taken in either condition (R198). -/
def takeQueueReset (tag : Byte) (s : State) : State :=
  answer tag .done ((resetBlocks s).modLink fun k =>
    Link.holdOnRead s.cfg.levels { k with inbound := [], discarding := true })

/-- QUEUE_RESET (R198). -/
def execQueueReset (tag : Byte) (s : State) : Host.Outcome State Fault Refusal :=
  .next (offer (.queueReset tag) (takeQueueReset tag) s)

-- The full reset ----------------------------------------------------------------------------------------------

/-- The library found by a full reset: the cartridge table and the active filing side as stored, every mark clear and the
mail slot EMPTY (Table 3-6). -/
def Library.afterReset (l : Library) : Library :=
  { l with leaving := [], blocked := [], mail := false }

/-- The volatile state of every block after a full reset (R86, R99, R124, R152, R182, R197), at `window` units of picker
window. Whether a cash unit holds the clock low is the unit's doing, not the part's (R178). -/
def clearVolatile (window : Nat) (s : State) : State :=
  { s with
    drives := Vector.replicate 6 Drive.initial
    picker := Picker.afterReset s.now window
    rings := Vector.replicate 7 PageRing.initial
    staging := []
    fetch := Fetch.initial
    filing := Filing.initial
    line := { Line.initial with clockHeld := s.line.clockHeld }
    link := Link.initial }

/-- A full reset that finds the format mark: READY, with the lasting state as found, the mechanism reset issued and the
counter line refreshed (R13, R60, R182). -/
def resetReady (s : State) : State :=
  lineChoose (refreshLine (clearVolatile s.window
    { s with
      condition := .ready
      mechReset := true
      dir := { s.dir with reserved := 0 }
      lib := s.lib.afterReset }))

/-- A full reset that finds no format mark: UNFORMATTED, on the default configuration, with no record, account or
cartridge read (R14). -/
def resetUnformatted (s : State) : State :=
  clearVolatile Settings.default.timing.window.quarters
    { s with
      condition := .unformatted
      formatMark := false
      mechReset := false
      dir := Directory.initial
      lib := Library.initial
      fees := Fees.initial
      cfg := Settings.default }

/-- The full reset at its cause: `memoryKept` is false where directory memory has lost its mark (R12, R13, R197). After a
power-on full reset RESET counts as released, also where it was asserted before; R197 does not say (DESIGN CHOICE,
notes/assumptions/49.md). -/
def fullReset (cause : ResetCause) (memoryKept : Bool) (s : State) : State :=
  let t := { s with resetHeld := decide (cause = .resetInput) }
  if s.formatMark && memoryKept then resetReady t else resetUnformatted t

/-- FULL_RESET (R197). -/
def execFullReset (cause : ResetCause) (memoryKept : Bool) (s : State) : Host.Outcome State Fault Refusal :=
  .next (fullReset cause memoryKept s)

/-- RESET_RELEASE: RESET is no longer asserted, and strobes act again (R183, R197). -/
def execResetRelease (s : State) : Host.Outcome State Fault Refusal :=
  .next { s with resetHeld := false }

end Sys2Proof.Machine
end

