-- ==== Sys2Proof/Machine/Decoder.lean ====
section
/-!
DEFINITION. The request decoder's own reading of the inbound FIFO: headers, fixed fields, bodies and discarded bytes
(R185 to R188), with the hand-over of each request to its owner (Table 10-3).
-/
namespace Sys2Proof.Machine

/-- The owning block takes a request (Table 10-3). A command that is no request is not taken. -/
def takeRequest (i : Instr) : State → State :=
  match i with
  | .format tag => takeFormat tag
  | .lookup tag t => takeLookup tag t
  | .list tag a b => takeList tag a b
  | .newTitle tag t c => takeNewTitle tag t c
  | .setClass tag t c => takeSetClass tag t c
  | .retire tag t n ts stray => takeRetire tag t n ts stray
  | .importCart tag c a b => takeImport tag c a b
  | .exportCart tag c => takeExport tag c
  | .sideRole tag c sd r => takeSideRole tag c sd r
  | .shelfQuery tag c => takeShelfQuery tag c
  | .timing tag h l w p i q => takeTiming tag h l w p i q
  | .driveQuery tag => takeDriveQuery tag
  | .ring tag n b m => takeRing tag n b m
  | .order tag t e a k => takeOrder tag t e a k
  | .cancel tag n => takeCancel tag n
  | .orderQuery tag n => takeOrderQuery tag n
  | .lodge tag t k p e => takeLodge tag t k p e
  | .pageIn tag n l bytes => takePageIn tag n l bytes
  | .abandon tag n => takeAbandon tag n
  | .lodgeQuery tag n => takeLodgeQuery tag n
  | .feeClass tag c d r ce h => takeFeeClass tag c d r ce h
  | .duty tag r => takeDuty tag r
  | .account tag n k d => takeAccount tag n k d
  | .accountQuery tag n => takeAccountQuery tag n
  | .settle tag n a => takeSettle tag n a
  | .dayClose tag => takeDayClose tag
  | .counterLine tag p r => takeCounterLine tag p r
  | .linkLevels tag a b c d e => takeLinkLevels tag a b c d e
  | .queueReset tag => takeQueueReset tag
  | _ => id

/-- How many body bytes FIELDS reads: the whole body, except the blocks of a PAGE_IN (R187). -/
def fieldBytes (kind : Byte) (bodyLength : Nat) : Nat :=
  if kind = pageInKind then pageInFields else bodyLength

/-- The request whose last field byte has been read passes to its owner (R187). -/
def passRequest (kind tag : Byte) (bodyLength : Nat) (got : List Byte) (s : State) : State :=
  match decodeRequest kind tag bodyLength got with
  | some i => takeRequest i s
  | none => refuse tag .badField s

/-- FIELDS with the bytes read so far: at the last one the request passes to its owner, at which event its ANSWER is ready (R187,
R189). -/
def takeFields (kind tag : Byte) (bodyLength : Nat) (got : List Byte) (s : State) : State :=
  if fieldBytes kind bodyLength ≤ got.length then arbitrate (passRequest kind tag bodyLength got s)
  else s.modLink fun k => { k with decoder := .fields kind tag bodyLength got }

/-- The sixth header byte has been read: the header's two checks (R186). -/
def takeHeader (kind tag : Byte) (bodyLength : Nat) (s : State) : State :=
  match lengthAllowed kind bodyLength with
  | none => arbitrate (discardBody tag (.refused .unknownKind) bodyLength s)
  | some false => arbitrate (discardBody tag (.badFrame .length) bodyLength s)
  | some true => takeFields kind tag bodyLength [] s

/-- HEADER with the bytes read so far; the flags byte is not examined (R186, R187). -/
def readHeader (got : List Byte) (s : State) : State :=
  match got with
  | [kind, tag, a, b, c, _] => takeHeader kind tag (fromBe [a, b, c]) s
  | _ => s.modLink fun k => { k with decoder := .header got }

/-- One byte leaves the inbound FIFO (R184). -/
def readInboundByte (rest : List Byte) (s : State) : State :=
  s.modLink fun k => Link.holdOnRead s.cfg.levels { k with inbound := rest }

/-- The bytes in the FIFO that belong to a body being discarded leave it; the ANSWER follows the last (R186). -/
def discardInbound (tag : Byte) (a : Answer) (left : Nat) (s : State) : State :=
  let n := s.link.inbound.length
  let t := s.modLink fun k => Link.holdOnRead s.cfg.levels { k with inbound := k.inbound.drop left }
  if left ≤ n then answer tag a t else t.modLink fun k => { k with decoder := .discarding tag a (left - n) }

/-- The decoder can read: a byte waits, RESET is not asserted, and it does not wait for outbound space (R187, R197). -/
def State.canRead (s : State) : Bool :=
  !s.resetHeld && !s.link.decoder.isPlacing && decide (s.link.inbound ≠ [])

/-- The decoder's next move: it takes an overflow mark at its read, or reads on in its state (R185, R187). The arbiter chooses
where an ANSWER may have become ready (R189). -/
def decoderMove (s : State) : State :=
  if s.link.overflow && !s.link.recovering then arbitrate (detectOverflow s)
  else
    match s.link.decoder, s.link.inbound with
    | .header got, b :: rest => readHeader (got ++ [b]) (readInboundByte rest s)
    | .fields kind tag n got, b :: rest => takeFields kind tag n (got ++ [b]) (readInboundByte rest s)
    | .body tag fate left, _ => arbitrate (readInbound tag fate left s)
    | .discarding tag a left, _ => arbitrate (discardInbound tag a left s)
    | _, _ => s

end Sys2Proof.Machine
end

