-- ==== Sys2Proof/Machine/MechEvents.lean ====
section
/-!
DEFINITION. The events of the mechanism port that concern the library and the picker: the mechanism reset's completion
(R60, R86), pick and placement completions (R44, R63, R71), an occupied target slot, the mail slot sensor (R50) and the
picker fault (R76).
-/
namespace Sys2Proof.Machine

-- What the events share ---------------------------------------------------------------------------------------

/-- The cartridge recorded at a place, or none (R42). -/
def State.cartAt (s : State) (p : Place) : Option Cartridge := s.lib.carts.find? fun r => r.place = p

/-- Changes the record of a cartridge that has one. -/
def modCartOf (cart : Option Nat) (f : Cartridge → Cartridge) (s : State) : State :=
  match cart with
  | some c => s.modCart c f
  | none => s

/-- A cartridge found missing becomes OFFLINE: no home slot, its former slot kept (R60). -/
def Cartridge.lost (r : Cartridge) : Cartridge := { r with place := .offline, home := none }

/-- An IMPORT task of a cartridge is queued. -/
def State.importQueued (s : State) (c : Nat) : Bool :=
  s.picker.queue.any fun t => decide (t.kind = .importTask) && decide (t.cart = some c)

/-- The leaving mark of a cartridge is cleared (R56). -/
def clearLeaving (c : Nat) (s : State) : State :=
  s.modLib fun l => { l with leaving := l.leaving.filter fun n => n ≠ c }

/-- The orders WAITING, in take-in order. -/
def State.waitingOrders (s : State) : List Nat :=
  (s.fetch.queue.filter fun o => decide (o.state = .waiting)).map fun o => o.number

/-- The orders WAITING for either side of a cartridge (R81). -/
def State.waitingFor (s : State) (c : Nat) : List Nat :=
  (s.fetch.queue.filter fun o => decide (o.state = .waiting) && decide (o.loc.cart = c)).map fun o => o.number

-- The picker in FAULT -----------------------------------------------------------------------------------------

/-- A task dropped by a picker fault: an IMPORT whose cartridge lies in the mail slot leaves it no home slot, an EXPORT
loses its leaving mark and the engine asks again at that mark's clearing (R53, R56, R136). -/
def dropTask (t : Task) (s : State) : State :=
  match t.kind, t.cart with
  | .importTask, some c => s.modCart c fun r => if r.place = .mail then { r with home := none } else r
  | .exportTask, some c => engineAsk (clearLeaving c s)
  | _, _ => s

/-- The drive of the task a picker fault ends: LOADING becomes EMPTY, and UNLOADING too when the pick was made (R76). -/
def endDriveTask (a : Active) (s : State) : State :=
  match a.task.drive with
  | some d => s.modDrive d fun r =>
      if r.state = .loading ∨ (r.state = .unloading ∧ a.picked = true) then { r with state := .empty } else r
  | none => s

/-- A drive record when the picker faults: no reservation, no release pending, linger stopped (R76). -/
def Drive.pickerFault (r : Drive) : Drive := { r with reserved := none, releasePending := false, linger := none }

/-- The tasks in progress and queued, oldest first. -/
def Picker.tasks (p : Picker) : List Task := (p.active.map fun a => a.task).toList ++ p.queue

/-- The picker enters FAULT: its task ends, every queued task is dropped, reservations and releases are cleared, and every
WAITING order fails with reason PICKER (R76, R119), in take-in order (DESIGN CHOICE, notes/assumptions/52.md). The tasks are dropped
one by one, that in progress first and then in queue order, so the engine, which asks after each EXPORT dropped, may take a cartridge
whose mark clears before that of a lower-numbered one; R56, R76 and R136 give no order (DESIGN CHOICE, notes/assumptions/58.md). -/
def pickerFaults (s : State) : State :=
  let s1 := match s.picker.active with
    | some a => endDriveTask a s
    | none => s
  let s2 := s1.modPicker fun p => { p with state := .fault, queue := [], active := none }
  let s3 := s2.forDrives fun d t => t.modDrive d Drive.pickerFault
  failOrders s3.waitingOrders .picker (s.picker.tasks.foldl (fun t k => dropTask k t) s3)

/-- The task kind and cartridge of a PICKER_FAULT notice (R76). -/
def Picker.faultNotice (p : Picker) : Notice :=
  .pickerFault (p.active.map fun a => a.task.kind) ((p.active.bind fun a => a.task.cart).getD 0)

/-- A picker fault in READY (R76). DESIGN CHOICE (notes/assumptions/16.md): a picker already in FAULT is left as it is. -/
def faultPicker (s : State) : State :=
  if s.condition = .unformatted ∨ s.picker.state = .fault then s
  else arbitrate (queueNotice s.picker.faultNotice (pickerFaults s))

/-- PICKER_FAULT (R76). -/
def execPickerFault (s : State) : Host.Outcome State Fault Refusal := .next (faultPicker s)

-- The mechanism reset -----------------------------------------------------------------------------------------

/-- The facing side of the cartridge recorded in a drive. -/
def facingOf (cart : Option Cartridge) (facing : Side) : Option SideId := cart.map fun r => ⟨r.number, facing⟩

/-- The drive record a report gives (R86); `cart` is the cartridge recorded in the drive. -/
def DriveReport.set (rep : DriveReport) (cart : Option Cartridge) (r : Drive) : Drive :=
  match rep with
  | .absent => { r with state := .fault, fitted := false, reserved := none, mounted := none, unrecorded := false }
  | .fault f => { r with state := .fault, reserved := none, mounted := facingOf cart f, unrecorded := false }
  | .holding f => { r with state := .unloading, mounted := facingOf cart f, unrecorded := cart.isNone }
  | .vacant => { r with state := .empty, mounted := none, unrecorded := false }

/-- The report finds no cartridge that the drive could hold (R60). -/
def DriveReport.bare : DriveReport → Bool
  | .absent => true
  | .vacant => true
  | .fault _ => false
  | .holding _ => false

/-- A drive's LOAD, queued by the allocator before the mechanism reset completed, is withdrawn where the drive is found in
FAULT. -/
def dropLoadOf (d : DriveNo) (s : State) : State :=
  if s.drives[d].state = .fault then dropReservation d s else s

/-- A cartridge that the report leaves no place becomes OFFLINE; one it leaves in a drive in fault is trapped; either way
the active filing side is cleared if it names it (R59, R60). DESIGN CHOICE (notes/assumptions/44.md): an order taken in since
the full reset for a cartridge so found missing or trapped stays WAITING with its LOAD and reservation, and an EXPORT task
of it stays queued with its leaving mark; R60, R81 and R86 do not say what becomes of them. -/
def settleCart (rep : DriveReport) (c : Nat) (s : State) : State :=
  match rep with
  | .absent => clearActiveOf c (s.modCart c Cartridge.lost)
  | .vacant => clearActiveOf c (s.modCart c Cartridge.lost)
  | .fault _ => clearActiveOf c s
  | .holding _ => s

/-- One drive position of the report (R60 steps 2 and 4, R86). -/
def resetDrive (report : MechReport) (d : DriveNo) (s : State) : State :=
  let rep := report.drives[d]
  let cart := s.cartAt (.drive d)
  let t := s.modDrive d (DriveReport.set rep cart)
  let u := match cart with
    | some r => settleCart rep r.number t
    | none => t
  dropLoadOf d u

/-- A cartridge recorded in the picker's grip is lost when the picker holds none (R60 step 4). -/
def resetGrip (rep : PickerReport) (s : State) : State :=
  match rep, s.cartAt .picker with
  | .vacant, some r => clearActiveOf r.number (s.modCart r.number Cartridge.lost)
  | _, _ => s

/-- A cartridge recorded in the mail slot keeps its place while the slot is OCCUPIED and is OFFLINE otherwise; it has no
home slot, unless an IMPORT taken since the reset gave it one (R52, R60 step 3). -/
def Cartridge.resetMail (occupied importing : Bool) (r : Cartridge) : Cartridge :=
  if r.place = .mail ∧ importing = false then
    { r with place := if occupied then .mail else .offline, home := none }
  else r

/-- The cartridges recorded in a mail slot that the sweep finds EMPTY (R60 step 3). -/
def State.mailLost (s : State) : List Nat :=
  (s.lib.carts.filter fun r => decide (r.place = .mail) && !s.lib.mail && !s.importQueued r.number).map fun r => r.number

/-- The mail cartridges of the sweep (R60 step 3); the active filing side is cleared where its cartridge becomes OFFLINE
(R49). -/
def resetMailCarts (s : State) : State :=
  s.modLib fun l => { l with
    carts := l.carts.map fun r => r.resetMail s.lib.mail (s.importQueued r.number)
    active := l.active.filter fun sd => decide (sd.cart ∉ s.mailLost) }

/-- The return task of a recorded cartridge, if it lies in a drive now UNLOADING or in the picker (R60 step 4). -/
def State.returnTask (s : State) (r : Cartridge) : Option Task :=
  match r.place with
  | .drive d =>
    if s.drives[d].state = .unloading then some { kind := .unload, cart := some r.number, side := .A, drive := some d }
    else none
  | .picker => some { kind := .unload, cart := some r.number, side := .A, drive := none }
  | _ => none

/-- The unloads of unrecorded cartridges in drives, lowest drive first (R60, R86). -/
def State.unrecordedTasks (s : State) : List Task :=
  (allDrives.filter fun d => decide (s.drives[d].state = .unloading) && s.drives[d].unrecorded).map fun d =>
    { kind := .unload, cart := none, side := .A, drive := some d }

/-- The unload of an unrecorded cartridge that the picker holds (R60). -/
def State.gripTask (s : State) (rep : PickerReport) : List Task :=
  match rep, s.cartAt .picker with
  | .holding, none => [{ kind := .unload, cart := none, side := .A, drive := none }]
  | _, _ => []

/-- The sweep's tasks: the recorded cartridges in ascending order of number (R60), then the unrecorded ones, those in drives with
the lowest drive first and the one in the grip last. R60 gives the unrecorded ones no order (DESIGN CHOICE,
notes/assumptions/50.md). -/
def State.sweepTasks (s : State) (rep : PickerReport) : List Task :=
  s.lib.carts.filterMap s.returnTask ++ s.unrecordedTasks ++ s.gripTask rep

/-- The picker's state after a report that finds it clear: a FAULT is left (R76). -/
def PickerState.cleared : PickerState → PickerState
  | .fault => .idle
  | p => p

/-- The sweep's tasks are queued, or the picker is in FAULT and none is (R60 step 5, R86). A picker that has faulted between the full
reset and this completion, and that the report finds clear, leaves FAULT (R76), as a drive does; R60 and R76 do not speak of a fault in
that interval (DEDUCED, notes/assumptions/15.md). -/
def queueSweep (rep : PickerReport) (s : State) : State :=
  if rep = .fault then pickerFaults s
  else s.modPicker fun p => { p with state := p.state.cleared, queue := p.queue ++ s.sweepTasks rep }

/-- The completion of the mechanism reset (R60, R86). The lodgement in hand may hold an extent on the active filing side that this
report clears; as at a media error or a drive fault (R139) the extent is discarded and the engine asks again (DESIGN CHOICE,
notes/assumptions/53.md). -/
def mechanismReset (report : MechReport) (s : State) : State :=
  if s.mechReset then
    let s1 := resetMailCarts (resetGrip report.picker (s.forDrives (resetDrive report)))
    let s2 := queueSweep report.picker { s1 with mechReset := false }
    arbitrate (pickerChoose (runAllocator (activeLost (judgePins s2))))
  else s

/-- MECHANISM_RESET_COMPLETION (R60, R86). -/
def execMechanismResetCompletion (report : MechReport) (s : State) : Host.Outcome State Fault Refusal :=
  .next (mechanismReset report s)

-- Pick completions --------------------------------------------------------------------------------------------

/-- What leaves the place picked from: a drive's mounted cartridge and side, or the mail slot's OCCUPIED state (R44, R50,
R71). -/
def leavePoint (p : PickPoint) (s : State) : State :=
  match p with
  | .slot _ => s
  | .drive d => judgePin d (s.modDrive d fun r => { r with mounted := none, unrecorded := false })
  | .mail => s.modLib fun l => { l with mail := false }

/-- The task's pick is made; a cartridge bound for an OCCUPIED mail slot is held (R56). -/
def Active.pick (occupied : Bool) (a : Active) : Active :=
  { a with picked := true, waiting := decide (a.target = .mail) && occupied }

/-- A pick completion of the task in progress (R44). -/
def pickDone (p : PickPoint) (a : Active) (s : State) : State :=
  let t := leavePoint p (modCartOf a.task.cart (fun r => { r with place := .picker }) s)
  t.modPicker fun q => { q with active := some (a.pick t.lib.mail) }

/-- A pick completion is taken when the task in progress awaits it. -/
def picked (p : PickPoint) (s : State) : State :=
  match s.picker.active with
  | some a => if a.picked = false ∧ a.source = some p then pickDone p a s else s
  | none => s

/-- PICK_COMPLETION (R44). -/
def execPickCompletion (point : PickPoint) (s : State) : Host.Outcome State Fault Refusal := .next (picked point s)

-- Placement completions ---------------------------------------------------------------------------------------

/-- The task has ended: the allocator runs and the picker chooses (R73, R77). -/
def afterTask (s : State) : State := pickerChoose (runAllocator s)

/-- The drive an UNLOAD emptied becomes EMPTY (R71). -/
def emptyDrive (a : Active) (s : State) : State :=
  match a.task.kind, a.task.drive with
  | .unload, some d => s.modDrive d fun r => if r.state = .unloading then { r with state := .empty } else r
  | _, _ => s

/-- An IMPORT has placed its cartridge: the notice, and the write engine's question (R53, R136). -/
def importPlaced (a : Active) (n : Nat) (s : State) : State :=
  match a.task.kind, a.task.cart with
  | .importTask, some c => engineAsk (queueNotice (.cartridgePlaced c (.slot n) n .done) s)
  | _, _ => s

/-- A placement in slot `n`: the place and the home slot (R44). -/
def placeInSlot (n : Nat) (a : Active) (s : State) : State :=
  afterTask (importPlaced a n (endTask (emptyDrive a
    (modCartOf a.task.cart (fun r => { r with place := .slot n, home := some n }) s))))

/-- The drive takes a LOAD's placement: mounted side set, reservation cleared, spin-up issued (R63). -/
def takeLoad (a : Active) (r : Drive) : Drive :=
  { r with
    mounted := a.task.cart.map fun c => ⟨c, a.task.side⟩
    unrecorded := a.task.cart.isNone
    reserved := none
    state := .spinup }

/-- The drive takes back the cartridge that was returned to it, and spins up unless it is in FAULT (R44, R63, R71). -/
def takeBack (a : Active) (r : Drive) : Drive :=
  { r with
    mounted := a.wasMounted
    unrecorded := a.task.cart.isNone
    state := if r.state = .fault then .fault else .spinup }

/-- A cartridge placed in a drive in FAULT is trapped (R59): the active filing side is cleared if it names it, and the
orders waiting for it fail (R81, R118). -/
def trapPlaced (d : DriveNo) (cart : Option Nat) (s : State) : State :=
  match cart with
  | some c =>
    if s.drives[d].state = .fault then
      activeLost (failOrders (s.waitingFor c) .drive (clearActiveOf c s))
    else s
  | none => s

/-- A placement in drive `d`: a LOAD's, or the return of a cartridge that found no slot (R63, R71). -/
def placeInDrive (d : DriveNo) (a : Active) (s : State) : State :=
  let s1 := modCartOf a.task.cart (fun r => { r with place := .drive d }) s
  match a.task.kind with
  | .load => afterTask (endTask (s1.modDrive d (takeLoad a)))
  | _ => afterTask (endTask (trapPlaced d a.task.cart (dropReservation d (s1.modDrive d (takeBack a)))))

/-- A cartridge in the mail slot has no home slot; its former slot is the home slot it had, if it had one (R42). -/
def Cartridge.toMail (r : Cartridge) : Cartridge :=
  { r with place := .mail, home := none, former := if r.home.isSome then r.home else r.former }

/-- The notice that ends an EXPORT, or an IMPORT that found no slot (R53, R56). -/
def mailNotice (a : Active) (s : State) : State :=
  match a.task.kind, a.task.cart with
  | .exportTask, some c =>
    queueNotice (.cartridgeAtMailSlot c ((s.cart? c).bind fun r => r.former)) (clearLeaving c s)
  | .importTask, some c => queueNotice (.cartridgePlaced c .mail 0 .noFreeSlot) s
  | _, _ => s

/-- A placement in the mail slot (R44, R50). -/
def placeInMail (a : Active) (s : State) : State :=
  slotOpened (runAllocator (endTask (mailNotice a
    ((modCartOf a.task.cart Cartridge.toMail s).modLib fun l => { l with mail := true }))))

/-- A placement completion of the task in progress (R44). -/
def placeDone (p : PickPoint) (a : Active) (s : State) : State :=
  match p with
  | .slot n => placeInSlot n a s
  | .drive d => placeInDrive d a s
  | .mail => placeInMail a s

/-- A placement completion is taken when the task in progress awaits it. -/
def placed (p : PickPoint) (s : State) : State :=
  match s.picker.active with
  | some a => if a.picked = true ∧ a.waiting = false ∧ a.target = p then arbitrate (placeDone p a s) else s
  | none => s

/-- PLACEMENT_COMPLETION (R44). -/
def execPlacementCompletion (point : PickPoint) (s : State) : Host.Outcome State Fault Refusal :=
  .next (placed point s)

-- An occupied target slot -------------------------------------------------------------------------------------

/-- Slot `n` becomes blocked (R43). -/
def blockSlot (n : Nat) (s : State) : State :=
  s.modLib fun l => { l with blocked := if l.blocked.contains n then l.blocked else l.blocked ++ [n] }

/-- Where the task goes when no slot is open: back to the drive or to the mail slot it picked from, an unrecorded cartridge
of the picker to the mail slot, and otherwise it is held for a slot (R44, R60). R44 names no place for a recorded cartridge that the
sweep returns from the picker, nor for one whose LOAD a drive fault has turned back (R75): either stays in the picker until a slot
opens (DESIGN CHOICE, notes/assumptions/51.md). -/
def Active.noSlot (occupied : Bool) (a : Active) : Active :=
  match a.source, a.task.cart with
  | some (.drive d), _ => { a with target := .drive d }
  | some .mail, _ => { a with target := .mail, waiting := occupied }
  | none, none => { a with target := .mail, waiting := occupied }
  | _, _ => { a with waiting := true }

/-- The task is retargeted to the lowest open slot, which becomes its cartridge's home slot (R44). -/
def retargetTask (a : Active) (s : State) : State :=
  match s.lib.lowestOpen with
  | some m => setHome a.task.cart m (s.modPicker fun p => { p with active := some { a with target := .slot m } })
  | none => s.modPicker fun p => { p with active := some (a.noSlot s.lib.mail) }

/-- The target slot of the task in progress is reported occupied (R44). -/
def slotOccupied (n : Nat) (s : State) : State :=
  match s.picker.active with
  | some a =>
    if a.picked = true ∧ a.waiting = false ∧ a.target = .slot n then retargetTask a (blockSlot n s) else s
  | none => s

/-- TARGET_SLOT_OCCUPIED (R44). -/
def execTargetSlotOccupied (slot : Nat) (s : State) : Host.Outcome State Fault Refusal := .next (slotOccupied slot s)

-- The mail slot sensor ----------------------------------------------------------------------------------------

/-- MAIL_SLOT_PLACED (R50). DESIGN CHOICE (notes/assumptions/43.md): between the pick and the placement of a task bound for
the mail slot the event is taken as the picker's own placement (R50), which R56's hold would also fit; it holds nothing. -/
def execMailSlotPlaced (s : State) : Host.Outcome State Fault Refusal :=
  .next (s.modLib fun l => { l with mail := true })

/-- The picker's current task is picking this cartridge from the mail slot (R50). -/
def State.inGrip (s : State) (c : Nat) : Bool :=
  match s.picker.active with
  | some a => !a.picked && decide (a.source = some .mail) && decide (a.task.cart = some c)
  | none => false

/-- A queued IMPORT whose cartridge was taken out is removed, with its notice (R53). -/
def removeImport (c : Nat) (s : State) : State :=
  if s.importQueued c then
    queueNotice (.cartridgePlaced c .offline 0 .removed) (s.modPicker fun p => { p with
      queue := p.queue.filter fun t => !(decide (t.kind = .importTask) && decide (t.cart = some c)) })
  else s

/-- The cartridge in the mail slot becomes OFFLINE at an emptied event, unless it is in the picker's grip (R50). -/
def takeOut (s : State) : State :=
  match s.cartAt .mail with
  | some r => if s.inGrip r.number then s else removeImport r.number (s.modCart r.number Cartridge.lost)
  | none => s

/-- A placement held for the mail slot goes on (R44, R56, R60). -/
def freeMail (s : State) : State :=
  s.modPicker fun p => { p with
    active := p.active.map fun a => if a.target = .mail then { a with waiting := false } else a }

/-- The sensor reports the mail slot emptied (R50). -/
def mailEmptied (s : State) : State :=
  if s.lib.mail then arbitrate (slotOpened (freeMail (takeOut (s.modLib fun l => { l with mail := false })))) else s

/-- MAIL_SLOT_EMPTIED (R50). -/
def execMailSlotEmptied (s : State) : Host.Outcome State Fault Refusal := .next (mailEmptied s)

end Sys2Proof.Machine
end

