-- ==== Sys2Proof/Machine/DriveEvents.lean ====
section
/-!
DEFINITION. The events of the mechanism port that name a drive: spin-up and spin-down completions (R63, R71), the endings
of runs (R65, R110, R114, R115, R140, R141) and the drive fault (R81). A completion is taken only in the state that awaits
it (R82).
-/
namespace Sys2Proof.Machine

-- Spin-up and spin-down ---------------------------------------------------------------------------------------

/-- The orders WAITING for a side, in take-in order (R109). -/
def State.waitingOn (s : State) (sd : SideId) : List Nat :=
  (s.fetch.queue.filter fun o => decide (o.state = .waiting) && decide (o.loc.sideId = sd)).map fun o => o.number

/-- Every WAITING order for the side drive `d` mounts is attached, in take-in order (R109). -/
def attachWaiting (d : DriveNo) (s : State) : State :=
  match s.drives[d].mounted with
  | some sd => if s.drives[d].unrecorded then s else (s.waitingOn sd).foldl (fun t n => attach d n t) s
  | none => s

/-- A drive enters IDLE at its spin-up completion: idle since, and the hold timer for the hold in force (R63). -/
def Drive.spunUp (t hold : Nat) (r : Drive) : Drive :=
  { r with state := .idle, idleSince := t, hold := some (t + hold) }

/-- The spin-up completion of a drive in SPINUP (R63, R109, R138). -/
def spinUp (d : DriveNo) (s : State) : State :=
  if s.drives[d].state = .spinup then
    choose d (judgePins (engineMounted d (attachWaiting d
      (s.modDrive d (Drive.spunUp s.now s.cfg.timing.hold.quarters)))))
  else s

/-- SPIN_UP_COMPLETION (R63, R82). -/
def execSpinUpCompletion (d : DriveNo) (s : State) : Host.Outcome State Fault Refusal := .next (spinUp d s)

/-- The UNLOAD task of drive `d` (R71). -/
def Drive.unloadTask (d : DriveNo) (r : Drive) : Task where
  kind := .unload
  cart := if r.unrecorded then none else r.mounted.map fun sd => sd.cart
  side := .A
  drive := some d

/-- The spin-down completion of a drive in SPINDOWN: UNLOADING, with its UNLOAD queued unless the picker is in FAULT (R71,
R76). -/
def spinDown (d : DriveNo) (s : State) : State :=
  if s.drives[d].state = .spindown then
    let t := s.modDrive d fun r => { r with state := .unloading }
    if s.picker.state = .fault then t else pickerChoose (enqueue (s.drives[d].unloadTask d) t)
  else s

/-- SPIN_DOWN_COMPLETION (R71, R82). -/
def execSpinDownCompletion (d : DriveNo) (s : State) : Host.Outcome State Fault Refusal := .next (spinDown d s)

-- Reads -------------------------------------------------------------------------------------------------------

/-- The run in flight on drive `d`, where the drive is in `state` (R82). -/
def State.runIn (s : State) (d : DriveNo) (state : DriveState) : Option Run :=
  if s.drives[d].state = state then s.drives[d].run else none

/-- An index block agrees with its order's location (R110). -/
def FetchOrder.indexAgrees (o : FetchOrder) (lengths : List Nat) : Bool :=
  decide (lengths.length = o.loc.pages) && (lengths.all fun l => decide (1 ≤ l) && decide (l ≤ Config.maxPageBlocks)) &&
    decide (sumBlocks lengths + 1 = o.loc.blocks)

/-- The index read of an order has completed: its lengths are kept, or the order fails (R110). -/
def indexRead (d : DriveNo) (n : Nat) (lengths : List Nat) (s : State) : State :=
  let t := endRun d (s.modDrive d fun r => { r with indexBuffer := lengths })
  match t.order? n with
  | some o =>
    if o.indexAgrees lengths then choose d (t.modOrder n fun o => { o with lengths := some lengths, erred := false })
    else arbitrate (choose d (failOrder n .indexMismatch t))
  | none => choose d t

/-- The completion of an index read run (R82, R110). -/
def indexCompletion (d : DriveNo) (lengths : List Nat) (s : State) : State :=
  match s.runIn d .reading with
  | some u =>
    if u.kind ≠ .index then s
    else if u.mark = .live then indexRead d u.owner lengths s
    else discardEnding d s
  | none => s

/-- INDEX_READ_COMPLETION (R110). -/
def execIndexReadCompletion (d : DriveNo) (lengths : List Nat) (s : State) : Host.Outcome State Fault Refusal :=
  .next (indexCompletion d lengths s)

/-- The AWAITING entry of a page in drive ring `d`. -/
def State.awaiting (s : State) (d : DriveNo) (n page : Nat) : Option PageEntry :=
  s.rings[driveRing d].entries.find? fun e => decide (e.owner = n) && decide (e.page = page) && e.live && !e.filled

/-- The page's data fills its entry's blocks (R93). -/
def storePage (d : DriveNo) (n page : Nat) (data : List Byte) (s : State) : State :=
  match s.awaiting d n page with
  | some e =>
    (s.modStaging (Memory.storePage s.cfg.layout[driveRing d] e.start 0 (data.take e.bytes))).modRing (driveRing d)
      (PageRing.fillEntry n page)
  | none => s

/-- An order's count of pages read rises; with its last page it becomes DELIVERING and leaves the work list (R114). -/
def countRead (d : DriveNo) (n : Nat) (s : State) : State :=
  match s.order? n with
  | some o =>
    if o.loc.pages ≤ o.read + 1 then
      (s.modOrder n fun o => { o with read := o.read + 1, erred := false, state := .delivering, drive := none }).modDrive d
        fun r => { r with work := r.work.filter fun w => w ≠ .order n }
    else s.modOrder n fun o => { o with read := o.read + 1, erred := false }
  | none => s

/-- The completion of a page read run (R82, R114). The data of a run whose ending is discarded enters no block: R96 says that it is
discarded, and not what the blocks hold then (DESIGN CHOICE, notes/assumptions/56.md). -/
def pageCompletion (d : DriveNo) (data : List Byte) (s : State) : State :=
  match s.runIn d .reading with
  | some u =>
    if u.kind ≠ .page then s
    else if u.mark = .live then
      arbitrate (choose d (countRead d u.owner (storePage d u.owner u.page data (endRun d s))))
    else discardEnding d s
  | none => s

/-- PAGE_READ_COMPLETION (R114). -/
def execPageReadCompletion (d : DriveNo) (data : List Byte) (s : State) : Host.Outcome State Fault Refusal :=
  .next (pageCompletion d data s)

/-- The second media error on a read: the order fails and the error counts on its side (R46, R115, R139). -/
def secondError (d : DriveNo) (o : FetchOrder) (s : State) : State :=
  arbitrate (choose d (activeLost (judgePins (sideError o.loc.sideId (failOrder o.number .media (endRun d s))))))

/-- A media error on a live read: the first marks the read, which is issued again, the second fails the order (R115). -/
def readError (d : DriveNo) (n : Nat) (s : State) : State :=
  match s.order? n with
  | some o => if o.erred then secondError d o s else s.modOrder n fun o => { o with erred := true }
  | none => discardEnding d s

/-- A media error reported on a read run (R82, R115). -/
def mediaError (d : DriveNo) (s : State) : State :=
  match s.runIn d .reading with
  | some u => if u.mark = .live then readError d u.owner s else discardEnding d s
  | none => s

/-- MEDIA_ERROR (R115). -/
def execMediaError (d : DriveNo) (s : State) : Host.Outcome State Fault Refusal := .next (mediaError d s)

-- Writes and verifies -----------------------------------------------------------------------------------------

/-- The verify run is issued at once, over what the write run wrote (R64, R140, R141). -/
def beginVerify (d : DriveNo) (u : Run) (s : State) : State :=
  (s.modLodgement u.owner fun l => { l with state := .verifying }).modDrive d fun r =>
    { r with state := .verifying, run := some { u with kind := .verify } }

/-- The completion of a write run without error (R82, R140). -/
def writeCompletion (d : DriveNo) (s : State) : State :=
  match s.runIn d .writing with
  | some u => if u.mark = .live then beginVerify d u s else discardEnding d s
  | none => s

/-- WRITE_RUN_COMPLETION (R140). -/
def execWriteRunCompletion (d : DriveNo) (s : State) : Host.Outcome State Fault Refusal := .next (writeCompletion d s)

/-- The run in flight on a drive that is WRITING or VERIFYING. -/
def State.filingRun (s : State) (d : DriveNo) : Option Run :=
  match s.runIn d .writing with
  | some u => some u
  | none => s.runIn d .verifying

/-- A failed ending of the live write or verify run on drive `d` (R144). -/
def failRun (d : DriveNo) (s : State) : State :=
  match s.runLodgement d with
  | some (l, e) => arbitrate (failAttempt d l e s)
  | none => discardEnding d s

/-- A media error reported on a write or verify run (R82, R140, R141). -/
def writeError (d : DriveNo) (s : State) : State :=
  match s.filingRun d with
  | some u => if u.mark = .live then failRun d s else discardEnding d s
  | none => s

/-- WRITE_MEDIA_ERROR (R140, R144). -/
def execWriteMediaError (d : DriveNo) (s : State) : Host.Outcome State Fault Refusal := .next (writeError d s)

/-- The verify run's reading agrees with the lodgement: its index block and every page (R141). -/
def State.verifies (s : State) (l : Lodgement) (readBack : ReadBack) : Bool :=
  decide (readBack.lengths = l.lengths) && decide (readBack.data = s.pagesOf l.number)

/-- The verify run has read the extent back: the commit, or a failed attempt (R141). -/
def verified (d : DriveNo) (readBack : ReadBack) (s : State) : State :=
  match s.runLodgement d with
  | some (l, e) => arbitrate (if s.verifies l readBack then commit d l e s else failAttempt d l e s)
  | none => discardEnding d s

/-- The completion of a verify run (R82, R141). -/
def verifyCompletion (d : DriveNo) (readBack : ReadBack) (s : State) : State :=
  match s.runIn d .verifying with
  | some u => if u.mark = .live then verified d readBack s else discardEnding d s
  | none => s

/-- VERIFY_RUN_COMPLETION (R141, R142). -/
def execVerifyRunCompletion (d : DriveNo) (readBack : ReadBack) (s : State) : Host.Outcome State Fault Refusal :=
  .next (verifyCompletion d readBack s)

/-- The stop completion of a run marked stopped (R65, R82). -/
def stopCompletion (d : DriveNo) (s : State) : State :=
  match s.filingRun d with
  | some u => if u.mark = .stopped then discardEnding d s else s
  | none => s

/-- STOP_COMPLETION (R65, R82). -/
def execStopCompletion (d : DriveNo) (s : State) : Host.Outcome State Fault Refusal := .next (stopCompletion d s)

-- The drive fault ---------------------------------------------------------------------------------------------

/-- A drive record at its fault: FAULT, its run and its timers and marks cleared (R81). -/
def Drive.faulted (r : Drive) : Drive :=
  { r with state := .fault, hold := none, linger := none, releasePending := false, pin := false, run := none }

/-- The recorded cartridge a drive holds: the one whose place is the drive (R42, R59). -/
def State.heldCart (s : State) (d : DriveNo) : Option Nat := (s.cartAt (.drive d)).map fun c => c.number

/-- The active filing side is cleared if it names a cartridge that is now trapped (R59). -/
def clearTrapped (cart : Option Nat) (s : State) : State :=
  match cart with
  | some c => clearActiveOf c s
  | none => s

/-- The live write or verify run a fault ends is a failed attempt that changes no side record (R145 to R147). -/
def loseAttempt (run : Option Run) (s : State) : State :=
  match run with
  | some u =>
    if u.kind.isRead = false ∧ u.mark = .live then
      afterAttempt u.owner .drive (judgePins (dropExtent u.owner s))
    else s
  | none => s

/-- The orders in a work list, as they stand in it. -/
def Drive.orderNumbers (r : Drive) : List Nat :=
  r.work.filterMap fun w => match w with
    | .order n => some n
    | .write _ => none

/-- The orders a fault fails: those of the drive's work list, then those WAITING for either side of the trapped cartridge
(R81, R119), each in its order there. No rule orders the failures of one event, nor so their notices (DESIGN CHOICE,
notes/assumptions/52.md). -/
def failForFault (r : Drive) (held : Option Nat) (s : State) : State :=
  let t := failOrders r.orderNumbers .drive s
  match held with
  | some c => failOrders (t.waitingFor c) .drive t
  | none => t

/-- The home slot a cartridge's record names. -/
def State.homeSlot (s : State) (cart : Option Nat) : Option Nat := (cart.bind s.cart?).bind fun r => r.home

/-- The LOAD in progress for a faulting drive: before the pick it ends at once, after it the cartridge goes home as an
UNLOAD would take it (R75). -/
def turnLoad (a : Active) (s : State) : State :=
  if a.picked then
    match s.returnSlot a.task.cart with
    | some n =>
      setHome a.task.cart n (s.modPicker fun p => { p with active := some { a with target := .slot n } })
    | none =>
      s.modPicker fun p => { p with active := some { a with target := .slot ((s.homeSlot a.task.cart).getD 0),
                                                            waiting := true } }
  else endTask s

/-- The picker's tasks of a faulting drive: its queued UNLOAD is dropped (R81), a LOAD in progress for it ends (R75), and an UNLOAD
in progress whose pick was made goes on (R81). R81 does not name an UNLOAD in progress whose pick was not made: its cartridge is
trapped, and the task ends at once (DESIGN CHOICE, notes/assumptions/54.md). -/
def endTasksOf (d : DriveNo) (s : State) : State :=
  let t := s.modPicker fun p => { p with
    queue := p.queue.filter fun k => !(decide (k.kind = .unload) && decide (k.drive = some d)) }
  match t.picker.active with
  | some a =>
    if a.task.drive = some d ∧ a.task.kind = .load then turnLoad a t
    else if a.task.drive = some d ∧ a.task.kind = .unload ∧ a.picked = false then endTask t
    else t
  | none => t

/-- The DRIVE_FAULT notice (R81); with no side known the side code is 0 (notes/assumptions/18.md). -/
def Drive.faultNotice (d : DriveNo) (held : Option Nat) (r : Drive) : Notice :=
  .driveFault (d.val + 1) (held.getD 0) ((r.mounted.filter fun sd => held = some sd.cart).map (fun sd => sd.side) |>.getD .A)
    r.state

/-- A drive fault on drive `d` (R81). -/
def driveFaults (d : DriveNo) (s : State) : State :=
  let r := s.drives[d]
  let held := s.heldCart d
  let s1 := clearTrapped held (s.modDrive d Drive.faulted)
  let s2 := endTasksOf d (dropReservation d s1)
  let s3 := failForFault r held (loseAttempt r.run s2)
  let s4 := queueNotice (r.faultNotice d held) (activeLost (judgePins s3))
  pickerChoose (runAllocator s4)

/-- A drive fault: one of a drive already in FAULT changes nothing (R81), and none acts in UNFORMATTED (DESIGN CHOICE,
notes/assumptions/16.md). -/
def faultDrive (d : DriveNo) (s : State) : State :=
  if s.condition = .unformatted ∨ s.drives[d].state = .fault then s else arbitrate (driveFaults d s)

/-- DRIVE_FAULT (R81). -/
def execDriveFault (d : DriveNo) (s : State) : Host.Outcome State Fault Refusal := .next (faultDrive d s)

end Sys2Proof.Machine
end

