-- ==== Sys2Proof/Machine/LineEvents.lean ====
section
/-!
DEFINITION. The events of the counter line: the ends of POST and POLL transactions (R176, R177, R181), the clock held low,
its timeout and its release (R178), and the address a POLL finds acknowledged (R179).
-/
namespace Sys2Proof.Machine

/-- The item a completed POST sent leaves the head of its queue, unless FORMAT emptied the queue since (R18, R176). -/
def dropHead (n : CounterNo) (orphan : Bool) (s : State) : State :=
  if orphan then s else s.modCounter n fun c => { c with posts := c.posts.drop 1 }

/-- The result of a POST on its counter (R176, R179). -/
def postResult (n : CounterNo) (orphan : Bool) (ending : PostEnd) (s : State) : State :=
  match ending with
  | .completed => attemptGood n (dropHead n orphan s)
  | .notAcknowledged _ => attemptFailed n s

/-- The end of a POST in progress; the controller chooses next (R175, R176). -/
def postEnds (ending : PostEnd) (s : State) : State :=
  match s.line.trans, s.line.clockHeld with
  | some (.post n _ orphan _ _), false =>
    arbitrate (lineChoose (endTransaction (postResult n orphan ending s)))
  | _, _ => s

/-- POST (R176). -/
def execPost (ending : PostEnd) (s : State) : Host.Outcome State Fault Refusal := .next (postEnds ending s)

/-- The result of a POLL's reply, read most significant byte first (R177, R199): 0 alone is no settlement, 1 brings the four
bytes of an amount, and anything else is a failed attempt. -/
def pollReply (n : CounterNo) (bytes : List Byte) (s : State) : State :=
  match bytes with
  | [0] => attemptGood n s
  | [1, a, b, c, d] => settleCounter n (fromBe [a, b, c, d]) (attemptGood n s)
  | _ => attemptFailed n s

/-- The result of a POLL on its counter: every ending but one with the address unacknowledged has found it acknowledged
(R177, R179, R181). -/
def pollResult (n : CounterNo) (ending : PollEnd) (s : State) : State :=
  match ending with
  | .reply bytes => pollReply n bytes (addressAcked n s)
  | .commandNotAcknowledged => attemptFailed n (addressAcked n s)
  | .addressNotAcknowledged => attemptFailed n s

/-- The end of a POLL in progress; the controller chooses next (R175, R177). -/
def pollEnds (ending : PollEnd) (s : State) : State :=
  match s.line.trans, s.line.clockHeld with
  | some (.poll n _ _ _), false => arbitrate (lineChoose (endTransaction (pollResult n ending s)))
  | _, _ => s

/-- POLL (R177). -/
def execPoll (ending : PollEnd) (s : State) : Host.Outcome State Fault Refusal := .next (pollEnds ending s)

/-- CLOCK_HELD_LOW: a cash unit holds the bus clock low, and no transaction is begun (R178). -/
def execClockHeldLow (s : State) : Host.Outcome State Fault Refusal :=
  .next (s.modLine fun l => { l with clockHeld := true })

/-- The clock has been held low for more than 25 ms in a transaction, which fails; its stop is owed (R178, R179). -/
def stretched (s : State) : State :=
  match s.line.trans, s.line.clockHeld with
  | some t, true =>
    arbitrate ((endTransaction (attemptFailed t.counter s)).modLine fun l => { l with stopOwed := true })
  | _, _ => s

/-- CLOCK_STRETCH_TIMEOUT (R178). -/
def execClockStretchTimeout (s : State) : Host.Outcome State Fault Refusal := .next (stretched s)

/-- CLOCK_RELEASE: an owed stop is sent and the controller chooses again (R178). -/
def execClockRelease (s : State) : Host.Outcome State Fault Refusal :=
  .next (lineChoose (s.modLine fun l => { l with clockHeld := false, stopOwed := false }))

/-- A POLL finds its counter's address acknowledged: an ABSENT counter becomes PRESENT with count 0 (R179). -/
def pollAcked (s : State) : State :=
  match s.line.trans with
  | some (.poll n _ p r) =>
    addressAcked n (s.modLine fun l => { l with trans := some (.poll n true p r) })
  | _ => s

/-- POLL_ADDRESS_ACKNOWLEDGED (R179). -/
def execPollAddressAcknowledged (s : State) : Host.Outcome State Fault Refusal := .next (pollAcked s)

end Sys2Proof.Machine
end

