-- ==== Sys2Proof/Machine/LinkEvents.lean ====
section
/-!
DEFINITION. The events of the request link: the two strobes (R183), and the placings of the outbound arbiter as events of their
own (R189, R190).
-/
namespace Sys2Proof.Machine

-- Strobes -----------------------------------------------------------------------------------------------------

/-- WR_STROBE (R183 to R185). -/
def execWrStrobe (data : Byte) (s : State) : Host.Outcome State Fault Refusal :=
  .next (writeByte data s)

/-- The byte driven on D7 to D0. -/
def drive (b : Byte) (s : State) : State := s.modLink fun k => { k with driven := b }

/-- The host has read the last byte of the OVERFLOW answer: the mark clears and HOLD is released (R185). -/
def endRecovery (b : OutByte) (k : Link) : Link :=
  if b.recovery then { k with overflow := false, recovering := false, hold := false } else k

/-- A read of the oldest outbound byte: the levels are judged, and at this event a streaming PAGE_OUT goes on or the arbiter
chooses (R183, R189 to R191, R195). -/
def readOut (b : OutByte) (rest : List OutByte) (s : State) : State :=
  levelFell (judgeOut (s.modLink fun k => endRecovery b { k with outbound := rest, driven := b.value }))

/-- One read event of the outbound FIFO (R183). -/
def readByte (s : State) : State :=
  if s.resetHeld then drive 0 s
  else
    match s.link.outbound with
    | [] => drive 0 s
    | b :: rest => readOut b rest s

/-- RD_STROBE (R183). -/
def execRdStrobe (s : State) : Host.Outcome State Fault Refusal := .next (readByte s)

-- Placings ----------------------------------------------------------------------------------------------------

/-- ANSWER_PLACED (R189). -/
def execAnswerPlaced (s : State) : Host.Outcome State Fault Refusal := .next (placeAnswer s)

/-- NOTICE_PLACED (R189, R194). -/
def execNoticePlaced (s : State) : Host.Outcome State Fault Refusal := .next (placeNotice s)

/-- PAGE_OUT_BEGIN (R190). -/
def execPageOutBegin (s : State) : Host.Outcome State Fault Refusal := .next (beginPageOut s)

/-- PAGE_OUT_END (R116, R117, R190). -/
def execPageOutEnd (s : State) : Host.Outcome State Fault Refusal := .next (endPageOut s)

end Sys2Proof.Machine
end

