-- ==== Sys2Proof/Machine/TimerEvents.lean ====
section
/-!
DEFINITION. The expiry events of the timers: hold (R67), linger (R69), the reopening of the load window (R74), a
lodgement's idle timeout (R133) and the poll interval (R175). A timer runs out in its expiry event, at which the time base
reads at least the expiry time; the event of a timer that does not run changes nothing.
-/
namespace Sys2Proof.Machine

/-- The hold timer of a drive stops; an IDLE drive with release pending issues its spin-down (R67). -/
def Drive.holdOver (r : Drive) : Drive :=
  if r.state = .idle ∧ r.releasePending = true then
    { r with hold := none, releasePending := false, linger := none, state := .spindown }
  else { r with hold := none }

/-- The hold timer of drive `d` expires, if it runs. -/
def holdExpires (d : DriveNo) (s : State) : State :=
  match s.drives[d].hold with
  | some t => (s.reach t).modDrive d Drive.holdOver
  | none => s

/-- HOLD_EXPIRY (R67). -/
def execHoldExpiry (d : DriveNo) (s : State) : Host.Outcome State Fault Refusal := .next (holdExpires d s)

/-- The linger timer of drive `d` expires, if it runs: the drive asks for its own release (R69). -/
def lingerExpires (d : DriveNo) (s : State) : State :=
  match s.drives[d].linger with
  | some t => askRelease d ((s.reach t).modDrive d fun r => { r with linger := none })
  | none => s

/-- LINGER_EXPIRY (R69). -/
def execLingerExpiry (d : DriveNo) (s : State) : Host.Outcome State Fault Refusal := .next (lingerExpires d s)

/-- The reopening timer expires, if it runs: it is set for the next start where four still lie within the window, and the
picker chooses (R73, R74). -/
def reopens (s : State) : State :=
  match s.picker.reopening with
  | some t => pickerChoose (setReopening (s.reach t))
  | none => s

/-- REOPENING_EXPIRY (R74). -/
def execReopeningExpiry (s : State) : Host.Outcome State Fault Refusal := .next (reopens s)

/-- A RECEIVING lodgement's idle timer expires: it is abandoned with its notice (R133). -/
def timeOut (l : Lodgement) (s : State) : State :=
  queueNotice (.lodgementFailed l.number l.title .timeout) (endLodgement l s)

/-- The idle timer of the lodgement of a number expires, if it runs (R133). -/
def idleExpires (n : Nat) (s : State) : State :=
  match s.lodgement? n with
  | some l =>
    match l.idle with
    | some t => arbitrate (timeOut l (s.reach t))
    | none => s
  | none => s

/-- IDLE_TIMEOUT (R133). -/
def execIdleTimeout (lodgement : Word16) (s : State) : Host.Outcome State Fault Refusal :=
  .next (idleExpires lodgement.toNat s)

/-- Every counter is marked due, once (R175). -/
def markDue (s : State) : State := s.forCounters fun n t => t.modCounter n fun c => { c with due := true }

/-- The poll timer expires, if it runs: every counter is due, the timer starts again and the controller chooses (R175). -/
def pollExpires (s : State) : State :=
  match s.line.poll with
  | some t => lineChoose (startPollTimer (markDue (s.reach t)))
  | none => s

/-- POLL_INTERVAL_EXPIRY (R175). -/
def execPollIntervalExpiry (s : State) : Host.Outcome State Fault Refusal := .next (pollExpires s)

end Sys2Proof.Machine
end

