-- ==== Sys2Proof/Machine/Dispatch.lean ====
section
/-! DEFINITION. The dispatch of every command to its meaning, one arm for each row of the table. -/
namespace Sys2Proof.Machine

def exec (i : Instr) (s : State) : Host.Outcome State Fault Refusal :=
  match i with
  | .format tag => Sys2Proof.Machine.execFormat tag s
  | .lookup tag title => Sys2Proof.Machine.execLookup tag title s
  | .list tag first last => Sys2Proof.Machine.execList tag first last s
  | .newTitle tag title cls => Sys2Proof.Machine.execNewTitle tag title cls s
  | .setClass tag title cls => Sys2Proof.Machine.execSetClass tag title cls s
  | .retire tag title count successors stray => Sys2Proof.Machine.execRetire tag title count successors stray s
  | .importCart tag cart roleA roleB => Sys2Proof.Machine.execImportCart tag cart roleA roleB s
  | .exportCart tag cart => Sys2Proof.Machine.execExportCart tag cart s
  | .sideRole tag cart side role => Sys2Proof.Machine.execSideRole tag cart side role s
  | .shelfQuery tag cart => Sys2Proof.Machine.execShelfQuery tag cart s
  | .timing tag hold linger window promotion idle poll => Sys2Proof.Machine.execTiming tag hold linger window promotion idle poll s
  | .driveQuery tag => Sys2Proof.Machine.execDriveQuery tag s
  | .ring tag number base modulus => Sys2Proof.Machine.execRing tag number base modulus s
  | .order tag title edition account kind => Sys2Proof.Machine.execOrder tag title edition account kind s
  | .cancel tag number => Sys2Proof.Machine.execCancel tag number s
  | .orderQuery tag number => Sys2Proof.Machine.execOrderQuery tag number s
  | .lodge tag title kind pages entry => Sys2Proof.Machine.execLodge tag title kind pages entry s
  | .pageIn tag lodgement length bodyBytes => Sys2Proof.Machine.execPageIn tag lodgement length bodyBytes s
  | .pageInBodyEnd data => Sys2Proof.Machine.execPageInBodyEnd data s
  | .abandon tag number => Sys2Proof.Machine.execAbandon tag number s
  | .lodgeQuery tag number => Sys2Proof.Machine.execLodgeQuery tag number s
  | .feeClass tag cls document rate certified historical => Sys2Proof.Machine.execFeeClass tag cls document rate certified historical s
  | .duty tag rate => Sys2Proof.Machine.execDuty tag rate s
  | .account tag number kind discount => Sys2Proof.Machine.execAccount tag number kind discount s
  | .accountQuery tag number => Sys2Proof.Machine.execAccountQuery tag number s
  | .settle tag number amount => Sys2Proof.Machine.execSettle tag number amount s
  | .dayClose tag => Sys2Proof.Machine.execDayClose tag s
  | .counterLine tag addrPrefix rate => Sys2Proof.Machine.execCounterLine tag addrPrefix rate s
  | .linkLevels tag hold resume halt haltResume trigger => Sys2Proof.Machine.execLinkLevels tag hold resume halt haltResume trigger s
  | .queueReset tag => Sys2Proof.Machine.execQueueReset tag s
  | .unknownKind tag kind body => Sys2Proof.Machine.execUnknownKind tag kind body s
  | .badFrame tag kind body => Sys2Proof.Machine.execBadFrame tag kind body s
  | .wrStrobe data => Sys2Proof.Machine.execWrStrobe data s
  | .rdStrobe => Sys2Proof.Machine.execRdStrobe s
  | .answerPlaced => Sys2Proof.Machine.execAnswerPlaced s
  | .noticePlaced => Sys2Proof.Machine.execNoticePlaced s
  | .pageOutBegin => Sys2Proof.Machine.execPageOutBegin s
  | .pageOutEnd => Sys2Proof.Machine.execPageOutEnd s
  | .fullReset cause memoryKept => Sys2Proof.Machine.execFullReset cause memoryKept s
  | .resetRelease => Sys2Proof.Machine.execResetRelease s
  | .mechanismResetCompletion report => Sys2Proof.Machine.execMechanismResetCompletion report s
  | .pickCompletion point => Sys2Proof.Machine.execPickCompletion point s
  | .placementCompletion point => Sys2Proof.Machine.execPlacementCompletion point s
  | .targetSlotOccupied slot => Sys2Proof.Machine.execTargetSlotOccupied slot s
  | .mailSlotPlaced => Sys2Proof.Machine.execMailSlotPlaced s
  | .mailSlotEmptied => Sys2Proof.Machine.execMailSlotEmptied s
  | .spinUpCompletion d => Sys2Proof.Machine.execSpinUpCompletion d s
  | .spinDownCompletion d => Sys2Proof.Machine.execSpinDownCompletion d s
  | .indexReadCompletion d lengths => Sys2Proof.Machine.execIndexReadCompletion d lengths s
  | .pageReadCompletion d data => Sys2Proof.Machine.execPageReadCompletion d data s
  | .mediaError d => Sys2Proof.Machine.execMediaError d s
  | .writeRunCompletion d => Sys2Proof.Machine.execWriteRunCompletion d s
  | .writeMediaError d => Sys2Proof.Machine.execWriteMediaError d s
  | .verifyRunCompletion d readBack => Sys2Proof.Machine.execVerifyRunCompletion d readBack s
  | .stopCompletion d => Sys2Proof.Machine.execStopCompletion d s
  | .driveFault d => Sys2Proof.Machine.execDriveFault d s
  | .pickerFault => Sys2Proof.Machine.execPickerFault s
  | .holdExpiry d => Sys2Proof.Machine.execHoldExpiry d s
  | .lingerExpiry d => Sys2Proof.Machine.execLingerExpiry d s
  | .reopeningExpiry => Sys2Proof.Machine.execReopeningExpiry s
  | .idleTimeout lodgement => Sys2Proof.Machine.execIdleTimeout lodgement s
  | .pollIntervalExpiry => Sys2Proof.Machine.execPollIntervalExpiry s
  | .post ending => Sys2Proof.Machine.execPost ending s
  | .poll ending => Sys2Proof.Machine.execPoll ending s
  | .clockStretchTimeout => Sys2Proof.Machine.execClockStretchTimeout s
  | .clockRelease => Sys2Proof.Machine.execClockRelease s
  | .pollAddressAcknowledged => Sys2Proof.Machine.execPollAddressAcknowledged s
  | .clockHeldLow => Sys2Proof.Machine.execClockHeldLow s

end Sys2Proof.Machine
end

