-- ==== Sys2Proof/Machine/Tick.lean ====
section
/-!
DEFINITION. What the part does by itself when no command waits: the decoder reads, the arbiter places, an expired timer is
taken, or the time base advances by one unit of 0.25 s. DESIGN CHOICE: the manual gives these moves and leaves their order
open.
-/
namespace Sys2Proof.Machine

-- The arbiter -------------------------------------------------------------------------------------------------

/-- The streaming PAGE_OUT has room for its last byte. -/
def State.canEnd (s : State) (st : Stream) : Bool :=
  (s.streamEntry st).any fun e => decide (e.bytes - st.sent ≤ s.link.room)

/-- The message at the first rank that has one has room (R189). -/
def State.canPlace (s : State) : Bool :=
  match s.link.decoder, s.link.notices with
  | .placing p, _ => decide ((p.bytes s.link.lost).length ≤ s.link.room)
  | _, n :: _ => decide (n.bytes.length ≤ s.link.room)
  | _, [] => !s.link.halt && s.nextOffer.isSome && decide (headBytes ≤ s.link.room)

/-- The arbiter has a move to make. -/
def State.canArbitrate (s : State) : Bool :=
  match s.link.streaming with
  | some st => s.canEnd st
  | none => s.canPlace

/-- The arbiter's move: the end of a streaming PAGE_OUT, or its choice (R189, R190). -/
def arbiterMove (s : State) : State :=
  match s.link.streaming with
  | some _ => endPageOut s
  | none => arbitrate s

-- Timers and time ---------------------------------------------------------------------------------------------

/-- A timer has run out. -/
def State.due (s : State) (timer : Option Nat) : Bool := timer.any fun t => decide (t ≤ s.now)

/-- The first expiry event that is due, if any. -/
def State.dueExpiry (s : State) : Option (State → State) :=
  match allDrives.find? fun d => s.due s.drives[d].hold with
  | some d => some (holdExpires d)
  | none =>
    match allDrives.find? fun d => s.due s.drives[d].linger with
    | some d => some (lingerExpires d)
    | none =>
      if s.due s.picker.reopening then some reopens
      else
        match s.filing.table.find? fun l => s.due l.idle with
        | some l => some (idleExpires l.number)
        | none => if s.due s.line.poll then some pollExpires else none

/-- A due expiry is taken, or the time base advances by one unit. -/
def timeMove (s : State) : State :=
  match s.dueExpiry with
  | some f => f s
  | none => { s with now := s.now + 1 }

/-- The part's own move when no command waits. -/
def idle (s : State) : State :=
  if s.canRead then decoderMove s
  else if s.canArbitrate then arbiterMove s
  else timeMove s

end Sys2Proof.Machine
end

