-- ==== Sys2Proof/WellFormed.lean ====
section
/-!
DEFINITION. The commands that can be sent or reported: the bounds of their fields that the types of `Instr` do not hold.
Every meaning is total; an ill-formed command is one that no host and no mechanism gives.
-/
namespace Sys2Proof

/-- A shelf slot, 1 to 240 (R43). -/
def slotNumber (n : Nat) : Bool := decide (1 ≤ n) && decide (n ≤ Config.shelfSlots)

/-- A point of the mechanics: a slot is one of the 240. -/
def PickPoint.wellFormed : PickPoint → Bool
  | .slot n => slotNumber n
  | .drive _ => true
  | .mail => true

/-- A body length fits the three bytes of a header (Table 11-2). -/
def bodyFits (n : Nat) : Bool := decide (n < 16777216)

/-- The data of a page run is one page: 1 to 64 whole blocks. -/
def pageData (n : Nat) : Bool :=
  decide (n % Config.blockBytes = 0) && decide (1 ≤ n) && decide (n ≤ Config.maxPageBlocks * Config.blockBytes)

/-- A POLL's reply is the byte 1 with four amount bytes, or any other byte alone (R177). -/
def PollEnd.wellFormed : PollEnd → Bool
  | .reply [b] => decide (b ≠ 1)
  | .reply [b, _, _, _, _] => decide (b = 1)
  | .reply _ => false
  | .addressNotAcknowledged => true
  | .commandNotAcknowledged => true

/-- A command is well formed. -/
def Instr.wellFormed : Instr → Bool
  | .retire _ _ _ successors stray => decide (stray.length < 3) && decide (3 * successors.length + stray.length ≤ 24)
  | .pageIn _ _ _ bodyBytes => decide (bodyBytes ≤ Config.maxPageBlocks * Config.blockBytes)
  | .pageInBodyEnd data => decide (data.length ≤ Config.maxPageBlocks * Config.blockBytes)
  | .unknownKind _ kind body => decide (Machine.lengthAllowed kind body.length = none) && bodyFits body.length
  | .badFrame _ kind body => decide (Machine.lengthAllowed kind body.length = some false) && bodyFits body.length
  | .pickCompletion p => p.wellFormed
  | .placementCompletion p => p.wellFormed
  | .targetSlotOccupied n => slotNumber n
  | .pageReadCompletion _ data => pageData data.length
  | .idleTimeout n => decide (n ≠ 0)
  | .post (.notAcknowledged k) => decide (k ≤ 9)
  | .poll ending => ending.wellFormed
  | _ => true

end Sys2Proof
end

