-- ==== Sys2Proof/Safety.lean ====
section
/-!
DEFINITION. The laws of the device: what every state of a run satisfies. Each is stated over one kind of state and is kept
by every step from every state that satisfies it (the obligations say so).
-/
namespace Sys2Proof.Machine

-- Staging memory and its rings --------------------------------------------------------------------------------

/-- Staging memory keeps its canonical form. -/
abbrev State.memoryLaw (s : State) : Prop := s.staging.wf = true

/-- A ring of modulus `m` (R87, R92): occupied is the sum of its entries' lengths and at most the modulus, no entry is
longer than 64 blocks, and fill is drain plus occupied, modulo the modulus. -/
abbrev PageRing.lawful (m : Nat) (g : PageRing) : Prop :=
  g.occupied = entryBlocks g.entries ∧ g.occupied ≤ m ∧
    (∀ e ∈ g.entries, 1 ≤ e.length ∧ e.length ≤ Config.maxPageBlocks) ∧ g.fill = (g.drain + g.occupied) % m

/-- Every ring is lawful under the layout in force (R87, R92). -/
abbrev State.ringLaw (s : State) : Prop := ∀ r : Fin 7, (s.rings[r]).lawful (s.modulus r)

/-- The ring layout (R87, R88): moduli of 64 to 4,096, bases at multiples of the alignment, every span within the 8,192
blocks, and no two spans sharing a block. -/
abbrev State.layoutLaw (s : State) : Prop :=
  (∀ r : Fin 7, 64 ≤ (s.cfg.layout[r]).modulus ∧ (s.cfg.layout[r]).modulus ≤ 4096 ∧
    (s.cfg.layout[r]).base % alignment (s.cfg.layout[r]).modulus = 0 ∧
    (s.cfg.layout[r]).base + (s.cfg.layout[r]).modulus ≤ Config.stagingBlocks) ∧
  ∀ r q : Fin 7, r ≠ q → (s.cfg.layout[r]).overlaps s.cfg.layout[q] = false

-- Title directory ---------------------------------------------------------------------------------------------

/-- The lodgement table of an UNFORMATTED part is empty (R14). -/
abbrev State.unformattedLaw (s : State) : Prop := s.condition = .unformatted → s.filing.table = []

/-- No two lodgements of the table have one number (R129). -/
abbrev State.lodgementsDistinct (s : State) : Prop := (s.filing.table.map fun l => l.number).Pairwise (· ≠ ·)

/-- The encumbrance pool (R8): reserved is the number of adding lodgements in the table, and in use plus reserved never
exceeds 65,536. -/
abbrev State.poolLaw (s : State) : Prop :=
  s.unformattedLaw ∧ s.lodgementsDistinct ∧ s.dir.reserved = s.filing.adding ∧
    s.dir.inUse + s.dir.reserved ≤ Config.poolPlaces

/-- A title is CLOSED exactly when its successor list is non-empty, and then has no entries (R4). -/
abbrev TitleRecord.closedLaw (r : TitleRecord) : Prop :=
  (r.status = .closed ↔ r.successors ≠ []) ∧ (r.status = .closed → r.entries = [])

/-- The directory is in strictly ascending order of title numbers from 1, and its count is the number of its records, at
most 131,072 (R5); every record keeps the law of R4; and every lodgement names a held ACTIVE title, no two the same
(R126). -/
abbrev State.directoryLaw (s : State) : Prop :=
  s.unformattedLaw ∧ (s.dir.titles.map fun r => r.number).Pairwise (· < ·) ∧ (∀ r ∈ s.dir.titles, 1 ≤ r.number) ∧
    s.dir.count = s.dir.titles.length ∧ s.dir.count ≤ Config.maxTitles ∧ (∀ r ∈ s.dir.titles, r.closedLaw) ∧
    (∀ l ∈ s.filing.table, ∃ r ∈ s.dir.titles, r.number = l.title ∧ r.status = .active) ∧
    (s.filing.table.map fun l => l.title).Pairwise (· ≠ ·)

/-- The editions a prior-editions list holds at edition `e`: e - 1 down to the larger of 1 and e - 4 (R2). -/
def priorEditions (e : Nat) : List Nat := (List.range (min Config.maxPriors (e - 1))).map fun i => e - 1 - i

/-- A title record (R1 to R3): the current deed is present exactly from edition 1 on, the prior editions are those of R2,
the entries ascend strictly below next entry number and were lodged at most at the record's edition, and copies issued
stays within its limit. -/
abbrev TitleRecord.lawful (r : TitleRecord) : Prop :=
  (r.current.isSome = true ↔ 1 ≤ r.edition) ∧ (r.priors.map fun p => p.edition) = priorEditions r.edition ∧
    (r.entries.map fun e => e.number).Pairwise (· < ·) ∧
    (∀ e ∈ r.entries, e.number < r.nextEntry ∧ e.edition ≤ r.edition) ∧ r.copies ≤ Config.maxCopies

/-- Every title record is lawful (R1 to R3). -/
abbrev State.titleLaw (s : State) : Prop := ∀ r ∈ s.dir.titles, r.lawful

/-- A record within the limits of R3 and R39. -/
abbrev TitleRecord.withinLimits (r : TitleRecord) : Prop :=
  r.edition ≤ Config.maxEdition ∧ r.entries.length ≤ Config.maxEntries ∧ r.nextEntry ≤ Config.spentEntryNumber

/-- A record leaves room for the commit of a lodgement of kind `k` (R33, R39). -/
abbrev TitleRecord.hasRoomFor (k : LodgeKind) (r : TitleRecord) : Prop :=
  r.edition < Config.maxEdition ∧
    (k.adds.isSome = true → r.entries.length < Config.maxEntries ∧ r.nextEntry < Config.spentEntryNumber)

/-- Every record is within its limits, and the record of a pending title has room for its lodgement's commit (R3, R33,
R39). -/
abbrev State.limitLaw (s : State) : Prop :=
  (∀ r ∈ s.dir.titles, r.withinLimits) ∧
    ∀ l ∈ s.filing.table, ∀ r ∈ s.dir.titles, r.number = l.title → r.hasRoomFor l.kind

/-- A DISCHARGE or WITHDRAWAL in the table names an entry its title still holds (R33). -/
abbrev State.namedLaw (s : State) : Prop :=
  ∀ l ∈ s.filing.table, l.kind.removes = true →
    ∃ r ∈ s.dir.titles, r.number = l.title ∧ ∃ e ∈ r.entries, some e.number = l.named

/-- The pool's in-use figure is the sum of the lengths of all entries lists (R8). -/
abbrev State.inUseLaw (s : State) : Prop :=
  s.namedLaw ∧ s.dir.inUse = (s.dir.titles.map fun r => r.entries.length).sum

-- Library -----------------------------------------------------------------------------------------------------

/-- The active filing side is absent or a side whose role is FILING (R48). -/
abbrev State.activeLaw (s : State) : Prop :=
  ∀ sd ∈ s.lib.active, (s.side? sd).map (fun r => r.role) = some .filing

/-- A side record's next-free block and error count are within their limits (R45, R46). -/
abbrev SideRecord.lawful (r : SideRecord) : Prop := r.nextFree ≤ Config.sideBlocks ∧ r.errors ≤ Config.maxErrors

/-- Every side record is within its limits, and every extent a lodgement holds ends at or below block 262,144 (R45,
R137). -/
abbrev State.sideLaw (s : State) : Prop :=
  (∀ c ∈ s.lib.carts, c.sideA.lawful ∧ c.sideB.lawful) ∧
    ∀ l ∈ s.filing.table, ∀ e ∈ l.extent, e.start + e.blocks ≤ Config.sideBlocks

-- Held locations ----------------------------------------------------------------------------------------------

/-- The locations that title records hold, current and prior (R2). -/
def Directory.held (d : Directory) : List Location :=
  d.titles.flatMap fun r => r.current.toList ++ r.priors.map fun p => p.loc

/-- Two locations share no block (R45). -/
abbrev Location.apart (a b : Location) : Prop :=
  a.sideId ≠ b.sideId ∨ a.start + a.blocks ≤ b.start ∨ b.start + b.blocks ≤ a.start

/-- The law of R45: every held location lies wholly below the next-free block of its side, and no two overlap. -/
abbrev State.locationLaw (s : State) : Prop :=
  (∀ e ∈ s.dir.held, ∃ r ∈ s.side? e.sideId, e.start + e.blocks ≤ r.nextFree) ∧ s.dir.held.Pairwise Location.apart

/-- A lodgement's extent begins at its side's next-free block, and only the lodgement in hand, past step SIDE, has one
(R45, R134, R137). -/
abbrev State.extentLaw (s : State) : Prop :=
  ∀ l ∈ s.filing.table, ∀ e ∈ l.extent,
    (∃ h ∈ s.filing.hand, h.1 = l.number ∧ h.2 ≠ .side) ∧ ∃ r ∈ s.side? e.sideId, r.nextFree = e.start

/-- The lodgement in hand stands in the table, past RECEIVING, and an idle timer runs in RECEIVING alone (R130, R133,
R135). -/
abbrev State.handLaw (s : State) : Prop :=
  (∀ h ∈ s.filing.hand, ∃ l ∈ s.filing.table, l.number = h.1 ∧ l.state ≠ .receiving) ∧
    ∀ l ∈ s.filing.table, l.state ≠ .receiving → l.idle = none

/-- A live write or verify run. -/
def Run.files (u : Run) : Bool := decide (u.mark = .live) && !u.kind.isRead

/-- At most one live run files, and it is of the lodgement in hand in step RUN (R134, R140); a drive that is WRITING or VERIFYING has no
live read run (Table 4-1). -/
abbrev State.filingRunLaw (s : State) : Prop :=
  (∀ d : DriveNo, ∀ u ∈ (s.drives[d]).run, u.files = true → s.filing.hand = some (u.owner, .run)) ∧
    (∀ d x : DriveNo, d ≠ x → ∀ u ∈ (s.drives[d]).run, u.files = true → ∀ v ∈ (s.drives[x]).run, v.files = false) ∧
    ∀ d : DriveNo, ∀ u ∈ (s.drives[d]).run, u.mark = .live → u.kind.isRead = true →
      (s.drives[d]).state ≠ .writing ∧ (s.drives[d]).state ≠ .verifying

/-- The lodgement whose page is arriving, if the table holds it, is RECEIVING (R131). -/
def State.arrivalLaw (s : State) : Bool :=
  match s.link.decoder with
  | .body _ (.admitted n _) _ => s.filing.table.all fun l => decide (l.number = n → l.state = .receiving)
  | _ => true

/-- What the law of R45 rests on: where the filing unit stands with its lodgements, extents and runs. -/
abbrev State.filingLaw (s : State) : Prop :=
  s.lodgementsDistinct ∧ s.extentLaw ∧ s.handLaw ∧ s.filingRunLaw ∧ s.arrivalLaw = true

-- Places ------------------------------------------------------------------------------------------------------

/-- An IMPORT task of a cartridge is queued or in progress (R42). -/
def State.importing (s : State) (c : Nat) : Bool :=
  s.picker.tasks.any fun k => decide (k.kind = .importTask) && decide (k.cart = some c)

/-- The home slot and the place of a record agree (R42). A cartridge found in the mail slot after a full reset keeps its home
slot until the mechanism reset completes (R52). -/
def State.homeAgrees (s : State) (r : Cartridge) : Bool :=
  match r.place with
  | .slot n => decide (r.home = some n)
  | .picker => r.home.isSome
  | .drive _ => r.home.isSome
  | .mail => s.mechReset || r.home.isNone || s.importing r.number
  | .offline => r.home.isNone

/-- The law of R42: no slot, drive, picker or mail slot holds two cartridges; home slot and place agree, and no slot is the
home of two. -/
abbrev State.placeLaw (s : State) : Prop :=
  (s.lib.carts.map fun r => r.number).Pairwise (· ≠ ·) ∧
    s.lib.carts.Pairwise (fun a b => a.place ≠ b.place ∨ a.place = .offline) ∧
    s.lib.carts.Pairwise (fun a b => a.home ≠ b.home ∨ a.home = none) ∧
    ∀ r ∈ s.lib.carts, s.homeAgrees r = true

/-- Cartridge `c` is recorded at place `p`. -/
abbrev State.recordedAt (s : State) (c : Nat) (p : Place) : Prop := ∃ r ∈ s.lib.carts, r.number = c ∧ r.place = p

/-- Whatever cartridge is recorded at place `p`, it is the one a task carries. -/
abbrev State.onlyAt (s : State) (p : Place) (cart : Option Nat) : Prop :=
  ∀ r ∈ s.lib.carts, r.place = p → cart = some r.number

/-- No cartridge is recorded at place `p`. -/
abbrev State.clearAt (s : State) (p : Place) : Prop := ∀ r ∈ s.lib.carts, r.place ≠ p

/-- A drive and the cartridge it mounts (R63, R71): a drive that is EMPTY, LOADING or absent mounts none, and the mounted
side of a recorded cartridge is in the drive; once the mechanism reset is complete, a cartridge recorded in a drive is the
one it mounts. -/
abbrev State.mountLaw (s : State) (d : DriveNo) : Prop :=
  ((s.drives[d]).fitted = false → (s.drives[d]).state = .fault) ∧
    ((s.drives[d]).fitted = false ∨ (s.drives[d]).state = .empty ∨ (s.drives[d]).state = .loading →
      (s.drives[d]).mounted = none) ∧
    (∀ sd ∈ (s.drives[d]).mounted, (s.drives[d]).unrecorded = false → s.recordedAt sd.cart (.drive d)) ∧
    (s.mechReset = false → ∀ r ∈ s.lib.carts, r.place = .drive d →
      (s.drives[d]).state ≠ .empty ∧ (s.drives[d]).state ≠ .loading ∧ (s.drives[d]).unrecorded = false ∧
        (s.drives[d]).mounted.map (fun sd => sd.cart) = some r.number)

/-- A queued UNLOAD carries the cartridge that lies where it picks from (R71, R60). -/
def State.unloadLaw (s : State) (k : Task) : Prop :=
  match k.drive with
  | some d =>
    (s.drives[d]).state = .unloading ∧ s.onlyAt (.drive d) k.cart ∧
      ∀ c ∈ k.cart, s.recordedAt c (.drive d) ∧ (s.drives[d]).unrecorded = false ∧
        (s.drives[d]).mounted.map (fun sd => sd.cart) = some c
  | none => s.onlyAt .picker k.cart ∧ ∀ c ∈ k.cart, s.recordedAt c .picker

/-- A queued task: its cartridge is recorded, an UNLOAD's where it picks from, and an IMPORT's in an OCCUPIED mail slot. -/
abbrev State.queuedLaw (s : State) (k : Task) : Prop :=
  (∀ c ∈ k.cart, ∃ r ∈ s.lib.carts, r.number = c) ∧ (k.kind = .unload → s.unloadLaw k) ∧
    (k.kind = .importTask → s.lib.mail = true ∧ k.drive = none ∧ ∃ c ∈ k.cart, s.recordedAt c .mail) ∧
    (k.kind = .exportTask → k.drive = none)

/-- The place of a point of the mechanics. -/
def placeOf : PickPoint → Place
  | .slot n => .slot n
  | .drive d => .drive d
  | .mail => .mail

/-- A task picks from a shelf slot. -/
def fromSlot : Option PickPoint → Bool
  | some (.slot _) => true
  | _ => false

/-- Where the cartridge of the task in progress is: at its source before the pick, alone in the grip after it (R42, R44). -/
def State.gripLaw (s : State) (a : Active) : Prop :=
  match a.picked, a.source with
  | true, _ => s.onlyAt .picker a.task.cart ∧ ∀ c ∈ a.task.cart, s.recordedAt c .picker
  | false, some p => a.waiting = false ∧ s.clearAt .picker ∧ ∀ c ∈ a.task.cart, s.recordedAt c (placeOf p)
  | false, none => False

/-- The source of the task in progress and the drive it names, by its kind (Table 4-3). -/
def State.sourceLaw (s : State) (a : Active) : Prop :=
  match a.task.kind with
  | .unload =>
    a.source = a.task.drive.map PickPoint.drive ∧
      ∀ d ∈ a.task.drive, (s.drives[d]).fitted = true ∧
        ((s.drives[d]).state = .unloading ∨ a.picked = true ∧ (s.drives[d]).state = .fault) ∧
        (a.picked = false → s.onlyAt (.drive d) a.task.cart) ∧
        (a.picked = true → s.clearAt (.drive d) ∧ (s.drives[d]).mounted = none) ∧
        ∀ c ∈ a.task.cart, a.wasMounted.map (fun sd => sd.cart) = some c
  | .load =>
    fromSlot a.source = true ∧ a.task.drive.isSome = true ∧
      ∀ d ∈ a.task.drive, (s.drives[d]).state = .loading ∨ (s.drives[d]).state = .fault
  | .importTask => a.source = some .mail ∧ a.task.drive = none ∧ a.task.cart.isSome = true
  | .exportTask => fromSlot a.source = true ∧ a.task.drive = none

/-- The target of the task in progress can take its cartridge: its home slot, an emptied drive, or a clear mail slot (R42,
R44, R56). Before its pick only an EXPORT is bound for the mail slot: an IMPORT goes to the home slot (Table 4-3). -/
def State.targetLaw (s : State) (a : Active) : Prop :=
  match a.target with
  | .slot n =>
    a.waiting = false → ∀ c ∈ a.task.cart, ∀ r ∈ s.lib.carts, r.number = c → r.home = some n
  | .drive d =>
    a.task.drive = some d ∧
      (a.task.kind = .load ∧ (s.drives[d]).state = .loading ∨ a.task.kind = .unload ∧ a.picked = true)
  | .mail =>
    a.task.kind ≠ .load ∧ (a.picked = false → a.task.kind = .exportTask) ∧
      (a.picked = true → a.waiting = false → s.clearAt .mail)

/-- The task in progress: the picker is BUSY, no return from the grip waits, and the task's cartridge is recorded. -/
abbrev State.activeTaskLaw (s : State) : Prop :=
  ∀ a ∈ s.picker.active, s.picker.state = .busy ∧ (∀ k ∈ s.picker.queue, k.fromGrip = false) ∧
    (∀ c ∈ a.task.cart, ∃ r ∈ s.lib.carts, r.number = c) ∧
    s.gripLaw a ∧ s.sourceLaw a ∧ s.targetLaw a

/-- No two tasks unload one drive or the grip, and none import one cartridge. -/
abbrev Task.compatible (a b : Task) : Prop :=
  ¬ (a.kind = .unload ∧ b.kind = .unload ∧ a.drive = b.drive) ∧
    ¬ (a.kind = .importTask ∧ b.kind = .importTask ∧ a.cart = b.cart)

/-- The task in progress is picking the cartridge of a number from the mail slot. -/
def State.pickingFromMail (s : State) (c : Nat) : Prop :=
  ∃ a ∈ s.picker.active, a.picked = false ∧ a.source = some .mail ∧ a.task.cart = some c

/-- Before the mechanism reset completes no task has begun, none unloads, and no drive mounts a cartridge (R60, R86). -/
abbrev State.sweepLaw (s : State) : Prop :=
  s.mechReset = true → s.picker.active = none ∧ (∀ k ∈ s.picker.queue, k.kind ≠ .unload) ∧
    ∀ d : DriveNo, (s.drives[d]).fitted = true ∧ (s.drives[d]).mounted = none ∧
      ((s.drives[d]).state = .empty ∨ (s.drives[d]).state = .fault)

/-- In UNFORMATTED there is no record, no task and no cartridge in a drive (R14). -/
abbrev State.bareLaw (s : State) : Prop :=
  s.condition = .unformatted → s.mechReset = false ∧ s.lib.carts = [] ∧ s.picker.active = none ∧ s.picker.queue = [] ∧
    ∀ d : DriveNo, (s.drives[d]).state = .empty ∧ (s.drives[d]).fitted = true ∧ (s.drives[d]).mounted = none

/-- What the law of R42 rests on: where drives, picker and mail slot stand with the cartridges they hold. -/
abbrev State.carryLaw (s : State) : Prop :=
  s.bareLaw ∧ s.sweepLaw ∧ (∀ d : DriveNo, s.mountLaw d) ∧ (∀ k ∈ s.picker.queue, s.queuedLaw k) ∧
    s.activeTaskLaw ∧ s.picker.tasks.Pairwise Task.compatible ∧
    (s.mechReset = false → s.picker.state ≠ .fault →
      ∀ r ∈ s.lib.carts, r.place = .mail → s.lib.mail = true ∨ s.pickingFromMail r.number)

-- Drives and picker -------------------------------------------------------------------------------------------

/-- No drive is in SPINDOWN while its hold timer runs (R67). -/
abbrev State.holdLaw (s : State) : Prop :=
  ∀ d : DriveNo, (s.drives[d]).state = .spindown → (s.drives[d]).hold = none

/-- The list of load starts holds at most four (R74). -/
abbrev State.loadLaw (s : State) : Prop := s.picker.starts.length ≤ Config.windowLoads

-- Fees and accounts -------------------------------------------------------------------------------------------

/-- An account (R167, R168): every figure within its limits, and pending equal to balance at day open plus posted today less
settled today while the clamp flag is clear. -/
abbrev Account.lawful (a : Account) : Prop :=
  a.discount ≤ 2500 ∧ (a.kind = .cash → a.discount = 0) ∧ a.phase < 8 ∧
    -(Config.maxSum : Int) ≤ a.pending ∧ a.pending ≤ Config.maxSum ∧
    -(Config.maxSum : Int) ≤ a.dayOpen ∧ a.dayOpen ≤ Config.maxSum ∧
    a.posted ≤ Config.maxSum ∧ a.settled ≤ Config.maxSum ∧ a.charged ≤ Config.maxCharged ∧
    (a.clamp = false → a.pending = a.dayOpen + a.posted - a.settled)

/-- Every account is lawful (R168). -/
abbrev State.accountLaw (s : State) : Prop := ∀ a : Fin 13, (s.fees.accounts[a]).lawful

/-- The fee schedule and the duty rate are within their ranges (R153, R154). -/
abbrev State.scheduleLaw (s : State) : Prop := (∀ c : Fin 8, (s.fees.schedule[c]).rate ≤ 8191) ∧ s.fees.duty ≤ 3000

-- Settings ----------------------------------------------------------------------------------------------------

/-- A timer setting (R83). -/
abbrev Setting.lawful (t : Setting) : Prop := 1 ≤ t.count ∧ t.count ≤ 63 ∧ t.base ≤ 3

/-- The link levels within their ranges (R196). -/
abbrev Levels.lawful (v : Levels) : Prop :=
  64 ≤ v.hold ∧ v.hold ≤ 1024 ∧ v.resume + 64 ≤ v.hold ∧ 64 ≤ v.halt ∧ v.halt ≤ 3840 ∧ v.haltResume + 64 ≤ v.halt ∧
    64 ≤ v.trigger ∧ v.trigger ≤ 4032

/-- The settings within their ranges (R83, R174, R196). -/
abbrev State.settingsLaw (s : State) : Prop :=
  s.cfg.timing.hold.lawful ∧ s.cfg.timing.linger.lawful ∧ s.cfg.timing.window.lawful ∧
    s.cfg.timing.promotion.lawful ∧ s.cfg.timing.idle.lawful ∧ s.cfg.timing.poll.lawful ∧ s.cfg.levels.lawful ∧
    s.cfg.addrPrefix ≤ 7 ∧ s.cfg.rate ≤ 3

-- Queues ------------------------------------------------------------------------------------------------------

/-- The cartridge table holds at most 1,024 records, no two of one number, each of a number from 1 to 4,095 (R41). -/
abbrev State.tableLaw (s : State) : Prop :=
  s.lib.carts.length ≤ Config.maxCartridges ∧ (s.lib.carts.map fun r => r.number).Pairwise (· ≠ ·) ∧
    ∀ r ∈ s.lib.carts, 1 ≤ r.number ∧ r.number ≤ Config.maxCartridgeNumber

/-- No two orders of the fetch queue have one number (R106). -/
abbrev State.ordersDistinct (s : State) : Prop := (s.fetch.queue.map fun o => o.number).Pairwise (· ≠ ·)

/-- Every queue, FIFO and table is within its capacity (R41, R107, R126, R180, R183, R194) and no failure count passes 3
(R179). -/
abbrev State.capacityLaw (s : State) : Prop :=
  s.tableLaw ∧ s.link.inbound.length ≤ Config.inboundBytes ∧ s.link.outbound.length ≤ Config.outboundBytes ∧
    s.link.notices.length ≤ Config.maxNotices ∧ s.fetch.queue.length ≤ Config.maxOrders ∧
    s.filing.table.length ≤ Config.maxLodgements ∧
    ∀ n : CounterNo, (s.line.counters[n]).posts.length ≤ Config.maxPosts ∧
      (s.line.counters[n]).failures ≤ Config.absentFailures

-- Request link ------------------------------------------------------------------------------------------------

/-- The overflow recoveries under way: one for an OVERFLOW answer waiting in PLACING, one for each last byte of an OVERFLOW
answer that the host has not read (R185). -/
def Link.recoveries (k : Link) : Nat :=
  (match k.decoder with
   | .placing p => if p.recovery then 1 else 0
   | _ => 0) + (k.outbound.filter fun b => b.recovery).length

/-- A recovery (R185): at most one at a time, with the mark set and the inbound FIFO empty. -/
abbrev Link.recoveryLaw (k : Link) : Prop :=
  k.recoveries ≤ 1 ∧ (1 ≤ k.recoveries → k.recovering = true) ∧
    (k.recovering = true → k.overflow = true ∧ k.inbound = [])

/-- HOLD is asserted while the overflow mark is set and at or above the hold level, and released at or below the resume level
without the mark (R184, R185). -/
abbrev Link.holdLaw (v : Levels) (k : Link) : Prop :=
  (k.overflow = true → k.hold = true) ∧ (v.hold ≤ k.inLevel → k.hold = true) ∧
    (k.overflow = false → k.inLevel ≤ v.resume → k.hold = false)

/-- Page halt is in force at or above the page halt level and ended at or below the page resume level (R191), and ATTENTION is
asserted exactly while a last byte is unread or the level is at the data trigger or above (R195). -/
abbrev Link.outLaw (v : Levels) (k : Link) : Prop :=
  (v.halt ≤ k.outLevel → k.halt = true) ∧ (k.outLevel ≤ v.haltResume → k.halt = false) ∧
    k.attention = k.attentionJudged v

/-- The judged outputs of the request link follow its levels (R184, R185, R191, R195). -/
abbrev State.linkLaw (s : State) : Prop :=
  s.cfg.levels.lawful ∧ s.link.recoveryLaw ∧ s.link.holdLaw s.cfg.levels ∧ s.link.outLaw s.cfg.levels

-- What a command leaves as it was -----------------------------------------------------------------------------

/-- The state that belongs to no part of the mechanics, of fetching or of filing: the directory, the fees and accounts, the
counter line, the configuration, staging memory, the conditions, the time base and the waiting commands. -/
structure Desk where
  pending    : List Instr
  now        : Nat
  condition  : Condition
  formatMark : Bool
  resetHeld  : Bool
  mechReset  : Bool
  dir        : Directory
  staging    : Memory
  fees       : Fees
  line       : Line
  cfg        : Settings
  deriving DecidableEq, Repr

/-- The desk's part of a state. -/
def State.desk (s : State) : Desk where
  pending := s.pending
  now := s.now
  condition := s.condition
  formatMark := s.formatMark
  resetHeld := s.resetHeld
  mechReset := s.mechReset
  dir := s.dir
  staging := s.staging
  fees := s.fees
  line := s.line
  cfg := s.cfg

/-- A free decoder of a READY part: a request is taken by its owning block at once (R14, R187). -/
def State.serves (s : State) : Bool := s.decoderFree && decide (s.condition = .ready)

/-- A request is refused with a code, and nothing else changes but by the arbiter's choice (R189, R193). -/
abbrev State.refuses (s : State) (i : Instr) (tag : Byte) (c : Code) : Prop :=
  exec i s = .next (arbitrate (answer tag (.refused c) s))

/-- The answer a part has composed: it waits in PLACING with the condition as it stands (R187, R192). -/
abbrev State.answers (s : State) (tag : Byte) (a : Answer) : Prop :=
  s.link.decoder = .placing { tag := tag, answer := a, unformatted := decide (s.condition = .unformatted),
                              recovery := false }

/-- A notice has been queued, or lost to a full queue with the notices-lost flag set (R194). -/
abbrev State.noted (s : State) (n : Notice) : Prop := n ∈ s.link.notices ∨ s.link.lost = true

/-- A successor that passes the four checks of R29, its earlier items given. -/
abbrev State.goodSuccessor (s : State) (title : Nat) (earlier : List Nat) (t : Nat) : Prop :=
  t ≠ title ∧ (∃ r, s.title? t = some r ∧ r.status = .active) ∧ t ∉ earlier

/-- The next number after `last`, counting 65,535 on to 1, that is not in use (R106, R129). -/
abbrev IsNextNumber (used : Nat → Prop) (last n : Nat) : Prop :=
  1 ≤ n ∧ n ≤ 65535 ∧ ¬ used n ∧ (last < n → ∀ m, last < m → m < n → used m) ∧
    (n ≤ last → (∀ m, last < m → m ≤ 65535 → used m) ∧ ∀ m, 1 ≤ m → m < n → used m)

/-- The bytes of a page as a ring holds them. -/
def State.pageBytes (s : State) (r : Fin 7) (e : PageEntry) : List Byte :=
  s.staging.loadPage s.cfg.layout[r] e.start 0 e.bytes

/-- An address of staging memory lies in the blocks of an entry of ring `r` (R87, R91). -/
def State.inPage (s : State) (r : Fin 7) (e : PageEntry) (a : Nat) : Prop :=
  ∃ j, j < e.bytes ∧ a = pageAddress s.cfg.layout[r] e.start j

/-- The link but for its notice queue. -/
def Link.port (k : Link) : Link := { k with notices := [], lost := false }

end Sys2Proof.Machine
end

