-- ==== Sys2Proof/Certificates/Slice0/Obligations.lean ====
section
/-!
DEFINITION. The statements for the provers. Each docstring names the rules of spec/ it formalises; a statement that rests on a
choice of the model says so and names the log entry. A state `s` that `serves` is READY with a free decoder (R14, R187).

Where a message may become ready, a command ends with the outbound arbiter's choice (R189): it leaves `arbitrate t`, and the statement
says of `t` what the command itself did. `AnswersAndNoticesArePlacedWhole` says what `arbitrate` does to a state and what it leaves; that
it looks again within one event is the model's reading (notes/assumptions/6.md), on which no other statement's clause about `t` rests.
-/

open Sys2Proof Sys2Proof.Machine

-- The step and the request path --------------------------------------------------------------------------------

/-- The step takes the command at the front of the queue and executes it on the state with the queue's rest. -/
def Obligations.StepRunsFrontCommand : Prop :=
  ∀ (c : Instr) (rest : List Instr) (s : State), s.pending = c :: rest → step s = exec c { s with pending := rest }

/-- A request that finds the decoder at work waits as bytes in the inbound FIFO (R183, R184): its bytes join the tail in order and
HOLD is asserted when they bring the level to the hold level or above. That a request command writes its bytes is the model's
choice (notes/assumptions/1.md). -/
def Obligations.HeldRequestJoinsTheFifo : Prop :=
  ∀ (i : Instr) (s : State), (requestFields i).isSome = true → s.decoderFree = false →
    s.resetHeld = false → s.link.recovering = false → s.link.discarding = false →
    s.link.inbound.length + (requestBytes i).length ≤ 1024 →
    exec i s = .next { s with link := { s.link with
      inbound := s.link.inbound ++ requestBytes i
      hold := s.link.hold || decide (s.cfg.levels.hold ≤ s.link.inbound.length + (requestBytes i).length) } }

/-- What is answered before a request reaches its owner (R14, R125, R186). A header whose kind names no request is answered
UNKNOWN_KIND, and one whose body length its kind does not allow BAD_FRAME with cause LENGTH, in either condition. In UNFORMATTED every
other request but FORMAT, LINK_LEVELS and QUEUE_RESET is answered NOT_FORMATTED; the body of a PAGE_IN is read and discarded first,
if it has a byte. Nothing else changes. -/
def Obligations.RequestsAreScreenedBeforeTheirOwner : Prop :=
  ∀ s : State, s.decoderFree = true →
    (∀ (tag kind : Byte) (body : List Byte),
      exec (.unknownKind tag kind body) s = .next (arbitrate (answer tag (.refused .unknownKind) s)) ∧
      exec (.badFrame tag kind body) s = .next (arbitrate (answer tag (.badFrame .length) s))) ∧
    (∀ (tag : Byte) (title : Word24) (count : Byte) (successors : List Word24) (stray : List Byte),
      24 < 3 * successors.length + stray.length →
      exec (.retire tag title count successors stray) s = .next (arbitrate (answer tag (.badFrame .length) s))) ∧
    (∀ (tag : Byte) (number : Word16) (length : Byte) (bodyBytes : Nat),
      (65536 < bodyBytes → exec (.pageIn tag number length bodyBytes) s =
        .next (arbitrate { s with link := { s.link with decoder := .discarding tag (.badFrame .length) bodyBytes } })) ∧
      (s.condition = .unformatted → bodyBytes = 0 →
        exec (.pageIn tag number length bodyBytes) s = .next (arbitrate (answer tag (.refused .notFormatted) s))) ∧
      (s.condition = .unformatted → 1 ≤ bodyBytes → bodyBytes ≤ 65536 →
        exec (.pageIn tag number length bodyBytes) s = .next (arbitrate
          { s with link := { s.link with decoder := .body tag (.refused (.refused .notFormatted)) bodyBytes } }))) ∧
    ∀ (i : Instr) (kind tag : Byte) (n : Nat) (body : List Byte), s.condition = .unformatted → i.wellFormed = true →
      requestFields i = some (kind, tag, n, body) → lengthAllowed kind n = some true →
      kind ≠ 0x01 → kind ≠ 0x1C → kind ≠ 0x1D → kind ≠ pageInKind →
      exec i s = .next (arbitrate (answer tag (.refused .notFormatted) s))

/-- Decode of encode: the kind, tag, body length and body bytes of a well-formed request whose length its kind admits spell that
request, with every field at every value (Table 11-3, R199). -/
def Obligations.RequestFieldsRoundTrip : Prop :=
  ∀ (i : Instr) (kind tag : Byte) (n : Nat) (body : List Byte), i.wellFormed = true →
    requestFields i = some (kind, tag, n, body) → lengthAllowed kind n = some true →
    decodeRequest kind tag n body = some i

/-- A request written byte by byte and read by the decoder is taken exactly as the command that carries its fields (R183, R184,
R186, R187): from a free decoder with HOLD released, after the request's bytes are written, as many decoder moves as it has bytes
leave the state its owner and the arbiter leave. PAGE_IN, whose blocks are read in BODY, is left out: `PageInBodyFillsTheRing` speaks
of it. -/
def Obligations.BytesOfARequestTakeTheRequest : Prop :=
  ∀ (i : Instr) (kind tag : Byte) (n : Nat) (body : List Byte) (s : State), i.wellFormed = true →
    requestFields i = some (kind, tag, n, body) → lengthAllowed kind n = some true → kind ≠ pageInKind →
    s.decoderFree = true → s.link.hold = false → s.cfg.levels.lawful →
    decoderMove^[(requestBytes i).length] (writeBytes (requestBytes i) s) = arbitrate (takeRequest i s)

-- Laws that every step keeps ------------------------------------------------------------------------------------

/-- The state after a power-on reset of a new part satisfies every law of the device (R13, R14, R197). That the stores which R14
leaves unread hold FORMAT's values there is the model's choice (notes/assumptions/22.md), on which the laws of titles, library,
accounts and schedule rest. -/
def Obligations.EveryLawHoldsAtReset : Prop :=
  State.reset.memoryLaw ∧ State.reset.ringLaw ∧ State.reset.layoutLaw ∧ State.reset.settingsLaw ∧ State.reset.poolLaw ∧
    State.reset.directoryLaw ∧ State.reset.inUseLaw ∧ State.reset.titleLaw ∧ State.reset.limitLaw ∧
    State.reset.activeLaw ∧ State.reset.sideLaw ∧ State.reset.holdLaw ∧ State.reset.accountLaw ∧
    State.reset.scheduleLaw ∧ State.reset.capacityLaw ∧ State.reset.loadLaw ∧ State.reset.linkLaw ∧
    State.reset.placeLaw ∧ State.reset.carryLaw ∧ State.reset.filingLaw ∧ State.reset.locationLaw ∧ State.reset.ordersDistinct

/-- Staging memory keeps its canonical form, and every ring the law of R87 and R92: occupied is the sum of its entries' lengths and at
most the modulus, no entry passes 64 blocks, and fill is drain plus occupied modulo the modulus. -/
def Obligations.StepKeepsStagingMemoryAndRings : Prop :=
  ∀ s t : State, s.memoryLaw → s.ringLaw → step s = .next t → t.memoryLaw ∧ t.ringLaw

/-- Every setting stays within its range and the ring layout stays aligned, within staging memory and without overlap (R83, R88,
R89, R174, R196). -/
def Obligations.StepKeepsSettingsLawful : Prop :=
  ∀ s t : State, s.layoutLaw → s.settingsLaw → step s = .next t → t.layoutLaw ∧ t.settingsLaw

/-- The directory's laws (R4, R5, R126): strictly ascending title numbers with their count, CLOSED exactly when successors are
held and then no entries, and every lodgement on a held ACTIVE title of its own. -/
def Obligations.StepKeepsDirectoryLaw : Prop :=
  ∀ s t : State, s.directoryLaw → step s = .next t → t.directoryLaw

/-- The encumbrance pool's laws (R8): in use is the sum of the lengths of all entries lists, reserved is the number of adding
lodgements in the table, and in use plus reserved never exceeds 65,536. The lodgement numbers stay distinct because a filing ring
within the ring layout leaves a number free (R129). -/
def Obligations.StepKeepsPoolLaws : Prop :=
  ∀ s t : State, s.ringLaw → s.layoutLaw → s.directoryLaw → s.titleLaw → s.poolLaw → s.inUseLaw → step s = .next t →
    t.poolLaw ∧ t.inUseLaw

/-- Every title record keeps the laws of R1 to R3 (which prior editions it holds, ascending entries below next entry number) and
its limits (R3, R33, R39): at most 24 entries, next entry number at most 256, edition at most 65,535. -/
def Obligations.StepKeepsTitleRecordsLawful : Prop :=
  ∀ s t : State, s.directoryLaw → s.titleLaw → s.limitLaw → step s = .next t → t.titleLaw ∧ t.limitLaw

/-- The accounts keep the law of R168 (while the clamp flag is clear, pending is balance at day open plus posted today less
settled today) and every figure its limits; the fee schedule and the duty rate stay in range (R153, R154, R167). -/
def Obligations.StepKeepsAccountsLawful : Prop :=
  ∀ s t : State, s.accountLaw → s.scheduleLaw → step s = .next t → t.accountLaw ∧ t.scheduleLaw

/-- The active filing side is absent or a FILING side (R48); next-free blocks, error counts and the extents of lodgements stay
within a side (R45, R46, R137); and no drive spins down while its hold timer runs (R67). -/
def Obligations.StepKeepsSidesAndHolds : Prop :=
  ∀ s t : State, s.activeLaw → s.sideLaw → s.holdLaw → step s = .next t → t.activeLaw ∧ t.sideLaw ∧ t.holdLaw

/-- No FIFO, queue, table or list of load starts passes its capacity, the cartridge table's 1,024 records among them, no two of
which have one number (R41, R74, R107, R126, R179, R180, R183, R194). -/
def Obligations.StepKeepsCapacities : Prop :=
  ∀ s t : State, s.capacityLaw → s.loadLaw → step s = .next t → t.capacityLaw ∧ t.loadLaw

/-- HOLD, page halt and ATTENTION follow the levels, and an overflow recovery keeps its marks (R184, R185, R191, R195). -/
def Obligations.StepKeepsLinkOutputsJudged : Prop :=
  ∀ s t : State, s.linkLaw → step s = .next t → t.linkLaw

-- Title directory -----------------------------------------------------------------------------------------------

/-- LOOKUP answers the record as it stands with its pending lodgement, and changes no state (R19). -/
def Obligations.LookupAnswersTheRecord : Prop :=
  ∀ (tag : Byte) (title : Word24) (s : State), s.decoderFree = true →
    (s.condition = .unformatted → exec (.lookup tag title) s = .next (arbitrate (answer tag (.refused .notFormatted) s))) ∧
    (s.condition = .ready →
      (title = 0 → exec (.lookup tag title) s = .next (arbitrate (answer tag (.refused .badField) s))) ∧
      (title ≠ 0 → s.title? title.toNat = none →
        exec (.lookup tag title) s = .next (arbitrate (answer tag (.refused .unknownTitle) s))) ∧
      ∀ r : TitleRecord, title ≠ 0 → s.title? title.toNat = some r →
        exec (.lookup tag title) s = .next (arbitrate (answer tag (.lookup r (s.pendingNumber title.toNat)) s)))

/-- LIST answers the first 32 titles of the range in ascending order, and, where the range holds more, the number of the first one
not listed (R20, R21). -/
def Obligations.ListAnswersTheRange : Prop :=
  ∀ (tag : Byte) (first last : Word24) (s : State), s.serves = true → s.directoryLaw →
    (last < first → exec (.list tag first last) s = .next (arbitrate (answer tag (.refused .badField) s))) ∧
    (first ≤ last → ∃ (items : List ListItem) (more : Bool) (next : Nat),
      exec (.list tag first last) s = .next (arbitrate (answer tag (.list items more next) s)) ∧
      items.length ≤ 32 ∧ (items.map fun i => i.title).Pairwise (· < ·) ∧
      (∀ i ∈ items, ∃ r ∈ s.dir.titles, first.toNat ≤ r.number ∧ r.number ≤ last.toNat ∧
        i = { title := r.number, status := r.status, edition := r.edition, pending := s.isPending r.number }) ∧
      (∀ r ∈ s.dir.titles, first.toNat ≤ r.number → r.number ≤ last.toNat →
        ((∃ i ∈ items, i.title = r.number) ↔ (more = false ∨ r.number < next))) ∧
      (more = true → items.length = 32 ∧
        ∃ r ∈ s.dir.titles, r.number = next ∧ first.toNat ≤ next ∧ next ≤ last.toNat) ∧
      (more = false → next = 0))

/-- NEW_TITLE makes the checks of Table 2-1 in order and, when they pass, adds the record with the starting values of R1 at its
ascending position and raises the count (R23, R24). SET_CLASS makes its three checks in order and, when they pass, replaces the fee
class of the record and answers the former and the new class (R25). -/
def Obligations.TitlesAreOpenedAndReclassed : Prop :=
  ∀ (tag : Byte) (title : Word24) (cls : Byte) (s : State), s.serves = true →
    (
      (title = 0 ∨ 8 ≤ cls.toNat → exec (.newTitle tag title cls) s = .next (arbitrate (answer tag (.refused .badField) s))) ∧
      (title ≠ 0 → cls.toNat < 8 → (s.title? title.toNat).isSome = true →
        exec (.newTitle tag title cls) s = .next (arbitrate (answer tag (.refused .titleExists) s))) ∧
      (title ≠ 0 → cls.toNat < 8 → s.title? title.toNat = none → 131072 ≤ s.dir.count →
        exec (.newTitle tag title cls) s = .next (arbitrate (answer tag (.refused .directoryFull) s))) ∧
      ∀ c : Fin 8, title ≠ 0 → cls.toNat = c.val → s.title? title.toNat = none → s.dir.count < 131072 →
        ∃ titles : List TitleRecord,
          exec (.newTitle tag title cls) s =
            .next (arbitrate (answer tag (.newTitle title.toNat (s.dir.count + 1))
              { s with dir := { s.dir with titles := titles, count := s.dir.count + 1 } })) ∧
          titles.Perm ({ number := title.toNat, status := .active, feeClass := c, edition := 0, current := none,
                         priors := [], entries := [], nextEntry := 1, successors := [], copies := 0 } :: s.dir.titles) ∧
          ((s.dir.titles.map fun r => r.number).Pairwise (· < ·) → (titles.map fun r => r.number).Pairwise (· < ·))) ∧
    (title = 0 ∨ 8 ≤ cls.toNat → exec (.setClass tag title cls) s = .next (arbitrate (answer tag (.refused .badField) s))) ∧
    (title ≠ 0 → cls.toNat < 8 → s.title? title.toNat = none →
      exec (.setClass tag title cls) s = .next (arbitrate (answer tag (.refused .unknownTitle) s))) ∧
    ∀ (c : Fin 8) (r : TitleRecord), title ≠ 0 → cls.toNat = c.val → s.title? title.toNat = some r →
      (r.status = .closed → exec (.setClass tag title cls) s = .next (arbitrate (answer tag (.refused .titleClosed) s))) ∧
      (r.status = .active →
        exec (.setClass tag title cls) s = .next (arbitrate (answer tag (.setClass r.feeClass.val c.val)
          { s with dir := { s.dir with
            titles := s.dir.titles.map fun q => if q.number = title.toNat then { q with feeClass := c } else q } })))

/-- RETIRE checks its form, its title and its successors item by item, in order, and closes the title: CLOSED, the successors
stored as given, the entries returned to the pool (R27 to R30). -/
def Obligations.RetireClosesTheTitle : Prop :=
  ∀ (tag : Byte) (title : Word24) (count : Byte) (successors : List Word24) (s : State), s.serves = true →
    successors.length ≤ 8 →
    (title = 0 ∨ count.toNat = 0 ∨ 8 < count.toNat ∨ successors.length ≠ count.toNat →
      exec (.retire tag title count successors []) s = .next (arbitrate (answer tag (.refused .badField) s))) ∧
    (title ≠ 0 → 1 ≤ count.toNat → count.toNat ≤ 8 → successors.length = count.toNat →
      (s.title? title.toNat = none →
        exec (.retire tag title count successors []) s = .next (arbitrate (answer tag (.refused .unknownTitle) s))) ∧
      ∀ r : TitleRecord, s.title? title.toNat = some r →
        (r.status = .closed →
          exec (.retire tag title count successors []) s = .next (arbitrate (answer tag (.refused .titleClosed) s))) ∧
        (r.status = .active → s.isPending title.toNat = true →
          exec (.retire tag title count successors []) s = .next (arbitrate (answer tag (.refused .titleBusy) s))) ∧
        (r.status = .active → s.isPending title.toNat = false → (∃ e ∈ r.entries, e.kind = .caution) →
          exec (.retire tag title count successors []) s = .next (arbitrate (answer tag (.refused .cautioned) s))) ∧
        (r.status = .active → s.isPending title.toNat = false → (∀ e ∈ r.entries, e.kind ≠ .caution) →
          (∀ (a : List Nat) (x : Nat) (b : List Nat), successors.map (fun w => w.toNat) = a ++ x :: b →
            (∀ (p : List Nat) (y : Nat) (q : List Nat), a = p ++ y :: q → s.goodSuccessor title.toNat p y) →
            ¬ s.goodSuccessor title.toNat a x →
            exec (.retire tag title count successors []) s =
              .next (arbitrate (answer tag (.badSuccessor (a.length + 1)
                (if x = title.toNat then .self
                 else if s.title? x = none then .unknown
                 else if (s.title? x).any (fun q => decide (q.status = .closed)) then .closed
                 else .duplicate)) s))) ∧
          ((∀ (a : List Nat) (x : Nat) (b : List Nat), successors.map (fun w => w.toNat) = a ++ x :: b →
              s.goodSuccessor title.toNat a x) →
            exec (.retire tag title count successors []) s =
              .next (arbitrate (answer tag
                (.retire r.entries.length (65536 - (s.dir.inUse - r.entries.length) - s.dir.reserved))
                { s with dir := { s.dir with
                  titles := s.dir.titles.map fun q => if q.number = title.toNat then
                    { q with status := .closed, successors := successors.map (fun w => w.toNat), entries := [] } else q
                  inUse := s.dir.inUse - r.entries.length } })))))

-- Library and settings -------------------------------------------------------------------------------------------

/-- IMPORT makes the checks of Table 3-4 in order. When they pass it enters or keeps the cartridge's record, places it in the mail
slot with its destination as home slot, its former slot if that is open and else the lowest open slot, and queues the IMPORT task
(R51, R52). -/
def Obligations.ImportEntersTheCartridge : Prop :=
  ∀ (tag : Byte) (cart : Word16) (roleA roleB : Byte) (s : State) (i : Instr), i = .importCart tag cart roleA roleB →
    s.serves = true →
    (roleOf roleA = none ∨ roleOf roleB = none ∨ cart.toNat = 0 ∨ 4095 < cart.toNat → s.refuses i tag .badField) ∧
    ∀ a b : Role, roleOf roleA = some a → roleOf roleB = some b → 1 ≤ cart.toNat → cart.toNat ≤ 4095 →
      (s.lib.mail = false → s.refuses i tag .mailSlotEmpty) ∧
      (s.lib.mail = true → (∃ r, s.cart? cart.toNat = some r ∧ r.place ≠ .offline) → s.refuses i tag .cartridgeExists) ∧
      (s.lib.mail = true → (∀ r, s.cart? cart.toNat = some r → r.place = .offline) →
        ((∃ r ∈ s.lib.carts, r.number ≠ cart.toNat ∧ r.place = .mail) → s.refuses i tag .mailSlotFull) ∧
        ((∀ r ∈ s.lib.carts, r.number ≠ cart.toNat → r.place ≠ .mail) →
          (s.cart? cart.toNat = none → 1024 ≤ s.lib.carts.length → s.refuses i tag .tableFull) ∧
          ((s.cart? cart.toNat = none → s.lib.carts.length < 1024) →
            (s.picker.state = .fault → s.refuses i tag .libraryBusy) ∧
            (s.picker.state ≠ .fault → ∀ formerOpen : Nat → Prop,
              (∀ f, formerOpen f ↔ (∃ r, s.cart? cart.toNat = some r ∧ r.former = some f) ∧ s.lib.slotOpen f = true) →
              ((∀ f, ¬ formerOpen f) → (∀ m, 1 ≤ m → m ≤ 240 → s.lib.slotOpen m = false) →
                s.refuses i tag .noFreeSlot) ∧
              ∀ n : Nat,
                (formerOpen n ∨ (∀ f, ¬ formerOpen f) ∧ 1 ≤ n ∧ n ≤ 240 ∧ s.lib.slotOpen n = true ∧
                  ∀ m, 1 ≤ m → m < n → s.lib.slotOpen m = false) →
                (∀ k ∈ s.picker.queue, k.kind = .unload → k.cart ≠ some cart.toNat) →
                ∃ t, exec i s = .next (arbitrate t) ∧ t.desk = s.desk ∧
                  t.link = (answer tag (.importCart cart.toNat n) s).link ∧ t.fetch = s.fetch ∧ t.filing = s.filing ∧
                  t.rings = s.rings ∧ t.lib.mail = true ∧ t.lib.active = s.lib.active ∧
                  (∃ r, t.cart? cart.toNat = some r ∧ r.place = .mail ∧ r.home = some n ∧
                    (s.cart? cart.toNat = none → r.sideA = { role := a, nextFree := 0, defects := 0, errors := 0 } ∧
                      r.sideB = { role := b, nextFree := 0, defects := 0, errors := 0 }) ∧
                    ∀ q, s.cart? cart.toNat = some q → r.sideA = q.sideA ∧ r.sideB = q.sideB) ∧
                  { kind := .importTask, cart := some cart.toNat, side := .A, drive := none } ∈ t.picker.tasks))))

/-- EXPORT makes the checks of R54 in order. When they pass it sets the leaving mark, clears the active filing side where it names
the cartridge, and queues the EXPORT task (R54, R55). -/
def Obligations.ExportMarksTheCartridge : Prop :=
  ∀ (tag : Byte) (cart : Word16) (s : State) (i : Instr), i = .exportCart tag cart → s.serves = true →
    (s.cart? cart.toNat = none → s.refuses i tag .unknownCartridge) ∧
    ∀ r : Cartridge, s.cart? cart.toNat = some r →
      (r.place = .offline ∨ r.place = .mail → s.refuses i tag .mediaOffline) ∧
      (r.place ≠ .offline → r.place ≠ .mail → ∀ trapped : Prop,
        (trapped ↔ ∃ d : DriveNo, r.place = .drive d ∧ (s.drives[d]).state = .fault) → ∀ busy : Prop,
        (busy ↔ (∃ o ∈ s.fetch.queue, o.loc.cart = cart.toNat) ∨
          (∃ l ∈ s.filing.table, ∃ e, l.extent = some e ∧ e.cart = cart.toNat) ∨
          (∃ sd, s.lib.active = some sd ∧ sd.cart = cart.toNat ∧ ∃ l ∈ s.filing.table, l.state ≠ .receiving) ∨
          cart.toNat ∈ s.lib.leaving) →
        (trapped → s.refuses i tag .mediaTrapped) ∧
        (¬ trapped → busy → s.refuses i tag .cartridgeBusy) ∧
        (¬ trapped → ¬ busy → s.lib.mail = true → s.refuses i tag .mailSlotFull) ∧
        (¬ trapped → ¬ busy → s.lib.mail = false → s.picker.state = .fault → s.refuses i tag .libraryBusy) ∧
        (¬ trapped → ¬ busy → s.lib.mail = false → s.picker.state ≠ .fault →
          ∃ t, exec i s = .next (arbitrate t) ∧ t.desk = s.desk ∧ t.link = (answer tag .done s).link ∧
            t.fetch = s.fetch ∧ t.filing = s.filing ∧ t.rings = s.rings ∧ t.isLeaving cart.toNat = true ∧
            (∀ sd, t.lib.active = some sd ↔ s.lib.active = some sd ∧ sd.cart ≠ cart.toNat) ∧
            { kind := .exportTask, cart := some cart.toNat, side := .A, drive := none } ∈ t.picker.tasks))

/-- SIDE_ROLE (R57): a role already held is answered DONE and changes nothing, a change not permitted is refused, a change to
ARCHIVE clears the active filing side where it is the side, and a change to FILING makes the write engine ask again: a lodgement in
hand that waits in step SIDE with no side usable leaves that step with an extent on this side, where it fits (R48, R136, R137). -/
def Obligations.SideRoleChangesTheRole : Prop :=
  ∀ (tag : Byte) (cart : Word16) (side role : Byte) (sd : Side) (new : Role) (r : SideRecord) (s : State),
    s.serves = true → sideOf side = some sd → roleOf role = some new → 1 ≤ cart.toNat → cart.toNat ≤ 4095 →
    s.side? ⟨cart.toNat, sd⟩ = some r →
    (r.role = new → exec (.sideRole tag cart side role) s = .next (arbitrate (answer tag (.sideRole new new) s))) ∧
    (new = .full ∧ r.role ≠ .full ∨ r.role = .full ∧ new = .filing →
      exec (.sideRole tag cart side role) s = .next (arbitrate (answer tag (.refused .badField) s))) ∧
    (new = .archive → r.role = .filing → s.extentOn ⟨cart.toNat, sd⟩ = true →
      exec (.sideRole tag cart side role) s = .next (arbitrate (answer tag (.refused .cartridgeBusy) s))) ∧
    (new = .archive → r.role = .full ∨ r.role = .filing ∧ s.extentOn ⟨cart.toNat, sd⟩ = false →
      ∃ t, exec (.sideRole tag cart side role) s = .next (arbitrate t) ∧ t.desk = s.desk ∧
        t.link = (answer tag (.sideRole r.role .archive) s).link ∧ t.fetch = s.fetch ∧ t.filing = s.filing ∧
        t.rings = s.rings ∧ t.side? ⟨cart.toNat, sd⟩ = some { r with role := .archive } ∧
        t.lib.active = s.lib.active.filter fun x => x ≠ ⟨cart.toNat, sd⟩) ∧
    (new = .filing → r.role = .archive →
      ∃ t, exec (.sideRole tag cart side role) s = .next (arbitrate t) ∧ t.desk = s.desk ∧
        t.link.port = (answer tag (.sideRole .archive .filing) s).link.port ∧
        (∃ q, t.side? ⟨cart.toNat, sd⟩ = some q ∧ q.nextFree = r.nextFree ∧ q.defects = r.defects ∧
          q.errors = r.errors ∧ q.role ≠ .archive) ∧
        (∀ (n : Nat) (l : Lodgement) (c : Cartridge), s.filing.hand = some (n, .side) → s.lodgement? n = some l →
          s.lib.active = none → (∀ x, s.usable x = false) → s.cart? cart.toNat = some c → c.place.inLibrary = true →
          s.trapped cart.toNat = false → s.isLeaving cart.toNat = false → r.nextFree + 1 + l.held ≤ 262144 →
          t.lib.active = some ⟨cart.toNat, sd⟩ ∧ (∃ step, t.filing.hand = some (n, step) ∧ step ≠ .side) ∧
            (t.lodgement? n).map (fun m => m.extent) =
              some (some ⟨cart.toNat, sd, r.nextFree, 1 + l.held, l.declared⟩)) ∧
        ((∀ n, s.filing.hand ≠ some (n, .side)) →
          t = answer tag (.sideRole .archive .filing) (s.modSide ⟨cart.toNat, sd⟩ fun q => { q with role := .filing })))

/-- RING with every ring empty stores the clamped modulus and the aligned base, if the span lies within staging memory and shares
no block with another ring's, and sets the ring's pointers to 0 (R89, R90). TIMING refuses a base code above 3, refuses a busy
library, and otherwise puts its six settings in force, each count clamped to 1 to 63 (R83). -/
def Obligations.RingAndTimingSettings : Prop :=
  (∀ (tag number : Byte) (base modulus : Word16) (s : State), s.serves = true →
      (number.toNat = 0 ∨ 7 < number.toNat →
        exec (.ring tag number base modulus) s = .next (arbitrate (answer tag (.refused .badField) s))) ∧
      ∀ (r : Fin 7) (m b : Nat), number.toNat = r.val + 1 → m = min 4096 (max 64 modulus.toNat) →
        b = base.toNat / alignment m * alignment m →
        ((∃ q : Fin 7, (s.rings[q]).entries ≠ []) →
          exec (.ring tag number base modulus) s = .next (arbitrate (answer tag (.refused .libraryBusy) s))) ∧
        ((∀ q : Fin 7, (s.rings[q]).entries = []) →
          (8192 < b + m ∨ (∃ (q : Fin 7) (x : Nat), q ≠ r ∧ b ≤ x ∧ x < b + m ∧ (s.cfg.layout[q]).base ≤ x ∧
              x < (s.cfg.layout[q]).base + (s.cfg.layout[q]).modulus) →
            exec (.ring tag number base modulus) s = .next (arbitrate (answer tag (.refused .ringOverlap) s))) ∧
          (b + m ≤ 8192 → (∀ q : Fin 7, 1 ≤ (s.cfg.layout[q]).modulus) →
            (∀ (q : Fin 7) (x : Nat), q ≠ r → b ≤ x → x < b + m →
              x < (s.cfg.layout[q]).base ∨ (s.cfg.layout[q]).base + (s.cfg.layout[q]).modulus ≤ x) →
            exec (.ring tag number base modulus) s = .next (arbitrate (answer tag (.ring number.toNat b m (alignment m))
              { s with cfg := { s.cfg with layout := s.cfg.layout.set r.val ⟨b, m⟩ r.isLt }
                       rings := s.rings.set r.val { s.rings[r] with drain := 0, fill := 0 } r.isLt }))))) ∧
  ∀ (tag : Byte) (hold linger window promotion idle poll : SentSetting) (s : State), s.serves = true →
    ((∃ x ∈ [hold, linger, window, promotion, idle, poll], 3 < x.base.toNat) →
      exec (.timing tag hold linger window promotion idle poll) s = .next (arbitrate (answer tag (.refused .badField) s))) ∧
    ((∀ x ∈ [hold, linger, window, promotion, idle, poll], x.base.toNat ≤ 3) →
      ((s.picker.state ≠ .idle ∨ ∃ d : DriveNo, (s.drives[d]).state ∈ [.reading, .stalled, .writing, .verifying]) →
        exec (.timing tag hold linger window promotion idle poll) s = .next (arbitrate (answer tag (.refused .libraryBusy) s))) ∧
      ∀ inForce : Timing,
        inForce = { hold := ⟨min 63 (max 1 hold.count.toNat), hold.base.toNat⟩
                    linger := ⟨min 63 (max 1 linger.count.toNat), linger.base.toNat⟩
                    window := ⟨min 63 (max 1 window.count.toNat), window.base.toNat⟩
                    promotion := ⟨min 63 (max 1 promotion.count.toNat), promotion.base.toNat⟩
                    idle := ⟨min 63 (max 1 idle.count.toNat), idle.base.toNat⟩
                    poll := ⟨min 63 (max 1 poll.count.toNat), poll.base.toNat⟩ } →
        s.picker.state = .idle →
        (∀ d : DriveNo, (s.drives[d]).state ∉ [.reading, .stalled, .writing, .verifying]) →
        ∃ t, exec (.timing tag hold linger window promotion idle poll) s = .next (arbitrate t) ∧
          t.desk = { s.desk with cfg := { s.cfg with timing := inForce } } ∧
          t.link = (answer tag (.timing inForce) s).link ∧ t.fetch = s.fetch ∧ t.filing = s.filing ∧ t.rings = s.rings)

/-- The law of R42, kept by every step: every cartridge has one place, no slot, drive, picker or mail slot holds two, home slot and
place agree, and no slot is the home of two. It rests on `carryLaw`, which says where drives, picker and mail slot stand with the
cartridges they hold, and which every step keeps with it; that the picker begins no task that picks while its grip holds a cartridge
is the model's reading (notes/assumptions/42.md). -/
def Obligations.StepKeepsOneCartridgeAPlace : Prop :=
  ∀ s t : State, s.placeLaw → s.carryLaw → step s = .next t → t.placeLaw ∧ t.carryLaw

/-- SHELF_QUERY, DRIVE_QUERY, ORDER_QUERY and LODGE_QUERY answer the record as it stands and change nothing; a number that names
none is refused (R58, R84, R122, R150). -/
def Obligations.QueriesAnswerAndChangeNothing : Prop :=
  ∀ (tag : Byte) (s : State), s.serves = true →
    (∀ cart : Word16, cart.toNat = 0 ∨ 4095 < cart.toNat → s.refuses (.shelfQuery tag cart) tag .badField) ∧
    (∀ cart : Word16, 1 ≤ cart.toNat → cart.toNat ≤ 4095 → s.cart? cart.toNat = none →
      s.refuses (.shelfQuery tag cart) tag .unknownCartridge) ∧
    (∀ (cart : Word16) (r : Cartridge), 1 ≤ cart.toNat → cart.toNat ≤ 4095 → s.cart? cart.toNat = some r →
      exec (.shelfQuery tag cart) s = .next (arbitrate (answer tag (.shelf r (decide (cart.toNat ∈ s.lib.leaving))
        (decide (∃ d : DriveNo, r.place = .drive d ∧ (s.drives[d]).state = .fault))
        (decide (s.lib.active = some ⟨cart.toNat, .A⟩)) (decide (s.lib.active = some ⟨cart.toNat, .B⟩))) s))) ∧
    (∀ (items : List DriveItem) (starts : Nat),
      items = ([0, 1, 2, 3, 4, 5] : List DriveNo).map (fun d =>
        { state := (s.drives[d]).state, mounted := (s.drives[d]).mounted, reserved := (s.drives[d]).reserved,
          releasePending := (s.drives[d]).releasePending, pin := (s.drives[d]).pin,
          occupied := (s.rings[driveRing d]).occupied, orders := (s.drives[d]).orders }) →
      starts = (s.picker.starts.filter fun t => s.now - t < s.cfg.timing.window.count * 4 ^ s.cfg.timing.window.base).length →
      exec (.driveQuery tag) s = .next (arbitrate (answer tag (.drives items
        { state := s.picker.state, task := s.picker.active.map fun a => (a.task.kind, a.task.cart),
          queued := s.picker.queue.length, starts := starts }) s))) ∧
    (∀ (n : Word16) (o : FetchOrder), s.order? n.toNat = some o →
      exec (.orderQuery tag n) s = .next (arbitrate (answer tag (.orderQuery o.number o.state o.priority o.driveNumber o.loc.pages
        o.read o.delivered (s.isStreaming o.number)) s))) ∧
    (∀ n : Word16, s.order? n.toNat = none →
      exec (.orderQuery tag n) s = .next (arbitrate (answer tag (.refused .noSuchOrder) s))) ∧
    (∀ (n : Word16) (l : Lodgement), n ≠ 0 → s.lodgement? n.toNat = some l →
      exec (.lodgeQuery tag n) s = .next (arbitrate (answer tag (.lodgeQuery l (s.now - l.lastActivity) (s.stepOf n.toNat)) s))) ∧
    ∀ n : Word16, n = 0 ∨ s.lodgement? n.toNat = none →
      exec (.lodgeQuery tag n) s = .next (arbitrate (answer tag (.refused .noSuchLodgement) s))

-- Fetching ------------------------------------------------------------------------------------------------------

/-- ORDER makes the checks of Table 6-1 in order: a CLOSED title is answered with its successors (R102), an edition it does not hold
EDITION_UNAVAILABLE (R103), media out of reach MEDIA_OFFLINE or MEDIA_TRAPPED (R104). When they pass, the order is answered with the
next order number and joins the fetch queue with its snapshot (R105, R106, R108); where its side is not mounted and the picker is in
FAULT it fails at once with reason PICKER (R76). -/
def Obligations.OrderFreezesItsSnapshot : Prop :=
  ∀ (tag : Byte) (title : Word24) (selector : Word16) (account kind : Byte) (s : State) (i : Instr),
    i = .order tag title selector account kind → s.serves = true →
    (title = 0 ∨ s.title? title.toNat = none → s.refuses i tag .unknownTitle) ∧
    ∀ r : TitleRecord, title ≠ 0 → s.title? title.toNat = some r →
      (r.status = .closed → exec i s = .next (arbitrate (answer tag (.referral r.successors) s))) ∧
      (r.status = .active → r.edition = 0 → s.refuses i tag .notRegistered) ∧
      (r.status = .active → 1 ≤ r.edition →
        (selector.toNat ≠ 0 → selector.toNat ≠ r.edition → (∀ p ∈ r.priors, p.edition ≠ selector.toNat) →
          s.refuses i tag .editionUnavailable) ∧
        ∀ (e : Nat) (loc : Location) (historical : Bool) (c : Cartridge),
          ((selector.toNat = 0 ∨ selector.toNat = r.edition) ∧ r.current = some loc ∧ e = r.edition ∧ historical = false ∨
            selector.toNat ≠ 0 ∧ selector.toNat ≠ r.edition ∧ e = selector.toNat ∧ historical = true ∧
              (r.priors.find? fun p => p.edition = e) = some ⟨e, loc⟩) →
          s.cart? loc.cart = some c →
          (c.place = .offline ∨ c.place = .mail ∨ loc.cart ∈ s.lib.leaving → s.refuses i tag .mediaOffline) ∧
          (c.place ≠ .offline → c.place ≠ .mail → loc.cart ∉ s.lib.leaving →
            ((∃ d : DriveNo, c.place = .drive d ∧ (s.drives[d]).state = .fault) → s.refuses i tag .mediaTrapped) ∧
            ((∀ d : DriveNo, c.place = .drive d → (s.drives[d]).state ≠ .fault) →
              (12 < account.toNat ∨ 1 < kind.toNat → s.refuses i tag .badField) ∧
              ∀ (a : Fin 13) (k : OrderKind), account.toNat = a.val → orderKindOf kind = some k →
                (64 ≤ s.fetch.queue.length → s.refuses i tag .queueFull) ∧
                (s.fetch.queue.length < 64 →
                  ∃ t, exec i s = .next (arbitrate t) ∧ t.desk = s.desk ∧
                    t.link.port =
                      (answer tag (.order s.nextOrder e loc.pages historical (s.isPending r.number)) s).link.port ∧
                    t.fetch.last = s.nextOrder ∧
                    (s.mountedOn loc.sideId = none → s.picker.state = .fault →
                      t.fetch.queue = s.fetch.queue ∧ t.noted (.orderFailed s.nextOrder .picker 0)) ∧
                    ((s.mountedOn loc.sideId).isSome = true ∨ s.picker.state ≠ .fault →
                      ∃ o ∈ t.fetch.queue, o.number = s.nextOrder ∧ o.title = r.number ∧ o.edition = e ∧ o.loc = loc ∧
                        o.feeClass = r.feeClass ∧ o.historical = historical ∧ o.pending = s.isPending r.number ∧
                        o.account = a ∧ o.kind = k ∧ o.takeIn = s.now ∧ o.read = 0 ∧ o.delivered = 0 ∧
                        o.priority = (if a = 0 then .postal else .counter))))))

/-- The next order number (R106) and the next lodgement number (R129): the first one after the last issued, counting 65,535 on to 1,
that is not in use. In use is an order number that an order of the fetch queue holds, that owns an entry of a drive ring or a read run
in flight or marked for discard; a lodgement number that a lodgement of the table holds, that owns an entry of the filing ring or a
write or verify run marked stopped. Such a number is free, so that no step gives two orders of the queue one number (R106). -/
def Obligations.NextNumberIsTheFirstFree : Prop :=
  ∀ s : State, s.capacityLaw → s.ringLaw → s.layoutLaw →
    (s.fetch.last ≤ 65535 → ∀ used : Nat → Prop,
      (∀ n, used n ↔ (∃ o ∈ s.fetch.queue, o.number = n) ∨
        (∃ d : DriveNo, ∃ e ∈ (s.rings[driveRing d]).entries, e.owner = n) ∨
        ∃ (d : DriveNo) (u : Run), (s.drives[d]).run = some u ∧ (u.kind = .index ∨ u.kind = .page) ∧ u.owner = n) →
      IsNextNumber used s.fetch.last s.nextOrder) ∧
    (s.ordersDistinct → ∀ t, step s = .next t → t.ordersDistinct) ∧
    (s.filing.last ≤ 65535 → ∀ used : Nat → Prop,
      (∀ n, used n ↔ (∃ l ∈ s.filing.table, l.number = n) ∨ (∃ e ∈ (s.rings[filingRing]).entries, e.owner = n) ∨
        ∃ (d : DriveNo) (u : Run), (s.drives[d]).run = some u ∧ (u.kind = .write ∨ u.kind = .verify) ∧
          u.mark = .stopped ∧ u.owner = n) →
      IsNextNumber used s.filing.last s.nextLodgement)

/-- CANCEL removes the order, releases its ring entries, charges nothing and sends no notice (R120, R121). -/
def Obligations.CancelRemovesTheOrder : Prop :=
  ∀ (tag : Byte) (n : Word16) (s : State), s.serves = true →
    (n = 0 ∨ s.order? n.toNat = none → exec (.cancel tag n) s = .next (arbitrate (answer tag (.refused .noSuchOrder) s))) ∧
    ∀ o : FetchOrder, n ≠ 0 → s.order? n.toNat = some o →
      ∃ t, exec (.cancel tag n) s = .next (arbitrate t) ∧ t.desk = s.desk ∧ t.link = (answer tag .done s).link ∧
        (t.fetch.queue.map fun p => p.number) = (s.fetch.queue.map fun p => p.number).filter (fun m => m ≠ n.toNat) ∧
        t.fetch.last = s.fetch.last ∧ t.filing.table.map (fun l => l.number) = s.filing.table.map (fun l => l.number) ∧
        ∀ d : DriveNo, ∀ e ∈ (t.rings[driveRing d]).entries, e.owner = n.toNat → e.live = true → e.streaming = true

-- Filing --------------------------------------------------------------------------------------------------------

/-- LODGE makes the checks of Table 7-2 in order, each with its refusal; when they pass, the lodgement joins the table RECEIVING with
its idle timer running and an adding kind reserves a place of the pool (R10, R127, R128, R133). -/
def Obligations.LodgeEntersTheLodgement : Prop :=
  ∀ (tag : Byte) (title : Word24) (kind pages entry : Byte) (s : State) (i : Instr),
    i = .lodge tag title kind pages entry → s.serves = true →
    (7 < kind.toNat → s.refuses i tag .badField) ∧
    ∀ k : LodgeKind, lodgeKindOf kind = some k →
      (title = 0 ∨ s.title? title.toNat = none → s.refuses i tag .unknownTitle) ∧
      ∀ r : TitleRecord, title ≠ 0 → s.title? title.toNat = some r →
        (r.status = .closed → s.refuses i tag .titleClosed) ∧
        (r.status = .active → s.isPending r.number = true → s.refuses i tag .titleBusy) ∧
        (r.status = .active → s.isPending r.number = false → ∀ barred : Prop,
          (barred ↔ (k = .transfer ∨ k = .charge) ∧ ∃ e ∈ r.entries, e.kind = .caution) → ∀ spent : Prop,
          (spent ↔ k.adds.isSome = true ∧ (24 ≤ r.entries.length ∨ 256 ≤ r.nextEntry)) → ∀ named : Prop,
          (named ↔ (k = .discharge → entry ≠ 0 ∧ ∃ e ∈ r.entries, e.number = entry.toNat ∧ e.kind ≠ .caution) ∧
            (k = .withdrawal → entry ≠ 0 ∧ ∃ e ∈ r.entries, e.number = entry.toNat ∧ e.kind = .caution)) → ∀ full : Prop,
          (full ↔ k.adds.isSome = true ∧ 65536 ≤ s.dir.inUse + s.dir.reserved) →
          (k = .first → r.edition ≠ 0 → s.refuses i tag .alreadyRegistered) ∧
          (k ≠ .first → r.edition = 0 → s.refuses i tag .notRegistered) ∧
          ((k = .first ↔ r.edition = 0) →
            (65535 ≤ r.edition → s.refuses i tag .editionLimit) ∧
            (r.edition < 65535 → barred → s.refuses i tag .cautioned) ∧
            (r.edition < 65535 → ¬ barred → spent → s.refuses i tag .entryLimit) ∧
            (r.edition < 65535 → ¬ barred → ¬ spent → ¬ named → s.refuses i tag .noSuchEntry) ∧
            (r.edition < 65535 → ¬ barred → ¬ spent → named → full → s.refuses i tag .poolFull) ∧
            (r.edition < 65535 → ¬ barred → ¬ spent → named → ¬ full →
              (16 ≤ s.filing.table.length → s.refuses i tag .lodgementTableFull) ∧
              (s.filing.table.length < 16 → pages.toNat = 0 ∨ 250 < pages.toNat → s.refuses i tag .badField) ∧
              (s.filing.table.length < 16 → 1 ≤ pages.toNat → pages.toNat ≤ 250 → ∀ reserved : Nat,
                reserved = s.dir.reserved + (if k.adds.isSome then 1 else 0) →
                exec i s =
                  .next (arbitrate (answer tag
                    (.lodge s.nextLodgement (r.edition + 1) k.adds.isSome (65536 - s.dir.inUse - reserved))
                    { s with
                      dir := { s.dir with reserved := reserved }
                      filing := { s.filing with
                        last := s.nextLodgement
                        table := s.filing.table ++ [{
                          number := s.nextLodgement, title := r.number, kind := k
                          named := if k = .discharge ∨ k = .withdrawal then some entry.toNat else none
                          declared := pages.toNat, received := 0, lengths := [], held := 0, state := .receiving
                          staging := none, stagedNo := 0, attempts := 0, extent := none, lastActivity := s.now
                          idle := some (s.now + s.cfg.timing.idle.count * 4 ^ s.cfg.timing.idle.base) }] } }))))))

/-- PAGE_IN makes its checks in order. An admitted page gets an AWAITING entry at the filing ring's tail and stops the lodgement's
idle timer; a refused one has its body read and discarded before the refusal, which is composed at once where no byte of blocks
follows the fixed fields (R92, R131, R188). -/
def Obligations.PageInAdmitsThePage : Prop :=
  ∀ (tag : Byte) (number : Word16) (length : Byte) (bodyBytes : Nat) (s : State), s.serves = true →
    bodyBytes ≤ 65536 → ∀ refusal : Code → State,
    (∀ c, refusal c = if bodyBytes = 0 then answer tag (.refused c) s
      else { s with link := { s.link with decoder := .body tag (.refused (.refused c)) bodyBytes } }) →
    (number = 0 ∨ s.lodgement? number.toNat = none →
      exec (.pageIn tag number length bodyBytes) s = .next (arbitrate (refusal .noSuchLodgement))) ∧
    ∀ l : Lodgement, number ≠ 0 → s.lodgement? number.toNat = some l →
      (l.state ≠ .receiving → exec (.pageIn tag number length bodyBytes) s = .next (arbitrate (refusal .pageCount))) ∧
      (l.state = .receiving → length.toNat = 0 ∨ 64 < length.toNat ∨ bodyBytes ≠ length.toNat * 1024 →
        exec (.pageIn tag number length bodyBytes) s = .next (arbitrate (refusal .badField))) ∧
      (l.state = .receiving → 1 ≤ length.toNat → length.toNat ≤ 64 → bodyBytes = length.toNat * 1024 →
        (s.modulus filingRing < (s.rings[filingRing]).occupied + length.toNat →
          exec (.pageIn tag number length bodyBytes) s = .next (arbitrate (refusal .stagingFull))) ∧
        ((s.rings[filingRing]).occupied + length.toNat ≤ s.modulus filingRing →
          exec (.pageIn tag number length bodyBytes) s = .next (arbitrate { s with
            link := { s.link with decoder := .body tag (.admitted number.toNat length.toNat) bodyBytes }
            rings := s.rings.set 6 { s.rings[filingRing] with
              fill := ((s.rings[filingRing]).fill + length.toNat) % s.modulus filingRing
              occupied := (s.rings[filingRing]).occupied + length.toNat
              entries := (s.rings[filingRing]).entries ++ [{
                owner := number.toNat, page := l.received + 1, length := length.toNat
                start := (s.rings[filingRing]).fill, live := true, filled := false, streaming := false
                held := false }] }
            filing := { s.filing with table := s.filing.table.map fun m =>
              if m.number = l.number then { m with lengths := m.lengths ++ [length.toNat], idle := none } else m } })))

/-- The end of a PAGE_IN body (R93, R132, R133, R188): the body bytes that waited in the inbound FIFO and those written last stand in
the entry's blocks and nowhere else, the entry is FILLED, the lodgement's figures rise, and it becomes STAGED with its last page; a
refused body is discarded and its refusal composed. That the command PAGE_IN_BODY_END brings the bytes not yet written and stores
them at this event is the model's choice (notes/assumptions/10.md). -/
def Obligations.PageInBodyFillsTheRing : Prop :=
  ∀ (tag : Byte) (data : List Byte) (s : State), 1 ≤ data.length → ∀ left : Nat,
    left = s.link.inbound.length + data.length →
    (∀ a : Answer, s.link.decoder = .body tag (.refused a) left →
      exec (.pageInBodyEnd data) s =
        .next (arbitrate (answer tag a { s with link := { s.link with inbound := [], hold := s.link.overflow } }))) ∧
    ∀ (n length : Nat) (e : PageEntry) (l : Lodgement), s.link.decoder = .body tag (.admitted n length) left →
      left ≤ length * 1024 → length ≤ 64 → e.length = length →
      ((s.rings[filingRing]).entries.find? fun x => decide (x.owner = n) && x.live && !x.filled) = some e →
      s.lodgement? n = some l → s.memoryLaw → 64 ≤ s.modulus filingRing →
      (s.cfg.layout[filingRing]).base + s.modulus filingRing ≤ 8192 →
      ∃ t, exec (.pageInBodyEnd data) s = .next (arbitrate t) ∧
        t.desk = { s.desk with staging := t.staging } ∧ t.link.inbound = [] ∧
        t.answers tag (.pageIn n (l.received + 1) (if l.declared ≤ l.received + 1 then .staged else .receiving)) ∧
        t.staging.loadPage s.cfg.layout[filingRing] e.start (length * 1024 - left) left = s.link.inbound ++ data ∧
        (∀ a, ¬ s.inPage filingRing e a → t.staging.read a = s.staging.read a) ∧
        (e.page = l.received + 1 → { e with filled := true } ∈ (t.rings[filingRing]).entries) ∧
        (t.filing.table.map fun m => m.number) = (s.filing.table.map fun m => m.number) ∧
        ∃ m ∈ t.filing.table, m.number = n ∧ m.received = l.received + 1 ∧ m.held = l.held + length ∧
          m.lastActivity = s.now ∧
          (l.declared ≤ l.received + 1 → m.state ≠ .receiving ∧ m.staging = some s.now ∧ m.idle = none) ∧
          (l.received + 1 < l.declared → m.state = l.state ∧ m.staging = l.staging ∧
            m.idle = some (s.now + s.cfg.timing.idle.count * 4 ^ s.cfg.timing.idle.base))

/-- ABANDON, and the expiry of a RECEIVING lodgement's idle timer, end the lodgement: it leaves the table and the engine's hand, its
pages are released and its reservation returns; only the expiry queues LODGEMENT_FAILED, and the one notice that ABANDON may bring is
NO_FILING_SPACE for the lodgement the engine takes next (R133, R136, R148, R149). That the time base reads at least the expiry time
at the expiry is the model's choice (notes/assumptions/5.md). -/
def Obligations.LodgementEndsWithoutCommit : Prop :=
  ∀ (n : Word16) (l : Lodgement) (s : State), n ≠ 0 → s.lodgement? n.toNat = some l →
    ∀ ended : State → Prop,
    (∀ t, ended t ↔
      t.filing.table.map (fun m => m.number) = (s.filing.table.map fun m => m.number).filter (fun m => m ≠ n.toNat) ∧
      (∀ step, t.filing.hand ≠ some (n.toNat, step)) ∧
      t.dir = { s.dir with reserved := s.dir.reserved - (if l.kind.adds.isSome then 1 else 0) } ∧
      (∀ e ∈ (t.rings[filingRing]).entries, e.owner = n.toNat → e.live = true → e.streaming = true) ∧
      t.staging = s.staging ∧ t.fees = s.fees ∧ t.line = s.line ∧ t.cfg = s.cfg ∧ t.condition = s.condition) →
    (∀ tag : Byte, s.serves = true →
      ∃ t, exec (.abandon tag n) s = .next (arbitrate t) ∧ ended t ∧ t.now = s.now ∧
        t.link.port = (answer tag .done s).link.port ∧
        ∀ x ∈ t.link.notices, x ∈ s.link.notices ∨ ∃ k, x = .noFilingSpace k) ∧
    ∀ expiry : Nat, l.idle = some expiry →
      ∃ t, exec (.idleTimeout n) s = .next (arbitrate t) ∧ ended t ∧ t.now = max s.now expiry ∧ t.link.port = s.link.port ∧
        t.noted (.lodgementFailed n.toNat l.title .timeout) ∧ t.fetch = s.fetch ∧ t.lib = s.lib ∧ t.picker = s.picker

/-- The commit, at a verify run that reads the extent back true (R34 to R36, R142, R143): the side's next-free passes the extent, the
new deed is installed, the entries list and the pool change by the kind, the lodgement's filing-ring entries are released, it leaves
the table, LODGEMENT_FILED is queued, its write work leaves the drive, and the write engine lets it go: it holds no lodgement, or has
taken another STAGED one. -/
def Obligations.VerifyCommitsTheDeed : Prop :=
  ∀ (d : DriveNo) (u : Run) (l : Lodgement) (e : Location) (r : TitleRecord) (sr : SideRecord) (readBack : ReadBack)
    (s : State), (s.drives[d]).state = .verifying → (s.drives[d]).run = some u → u.mark = .live →
    s.lodgement? u.owner = some l → l.extent = some e → readBack.lengths = l.lengths →
    readBack.data = s.pagesOf l.number → s.title? l.title = some r → s.side? e.sideId = some sr →
    ∃ (t : State) (q : TitleRecord), exec (.verifyRunCompletion d readBack) s = .next (arbitrate t) ∧
      t.desk = { s.desk with dir := t.dir } ∧ t.link.port = s.link.port ∧
      t.title? l.title = some q ∧ (∀ n, n ≠ l.title → t.title? n = s.title? n) ∧ t.dir.count = s.dir.count ∧
      q.edition = r.edition + 1 ∧ q.current = some e ∧ q.status = r.status ∧ q.feeClass = r.feeClass ∧
      q.successors = r.successors ∧ q.copies = r.copies ∧
      (r.current = none → q.priors = r.priors) ∧
      (∀ loc, r.current = some loc → q.priors = ⟨r.edition, loc⟩ :: r.priors.take 3) ∧
      (∀ k, l.kind.adds = some k → q.entries = r.entries ++ [⟨r.nextEntry, k, r.edition + 1⟩] ∧
        q.nextEntry = r.nextEntry + 1 ∧ t.dir.inUse = s.dir.inUse + 1 ∧ t.dir.reserved = s.dir.reserved - 1) ∧
      (l.kind = .discharge ∨ l.kind = .withdrawal → q.entries = r.entries.filter (fun x => some x.number ≠ l.named) ∧
        q.nextEntry = r.nextEntry ∧ t.dir.inUse = s.dir.inUse - 1 ∧ t.dir.reserved = s.dir.reserved) ∧
      (l.kind = .first ∨ l.kind = .transfer → q.entries = r.entries ∧ q.nextEntry = r.nextEntry ∧
        t.dir.inUse = s.dir.inUse ∧ t.dir.reserved = s.dir.reserved) ∧
      (∃ x, t.side? e.sideId = some x ∧ x.nextFree = e.start + e.blocks ∧ x.defects = sr.defects ∧
        x.errors = sr.errors) ∧
      t.filing.table.map (fun m => m.number) =
        (s.filing.table.map fun m => m.number).filter (fun m => m ≠ l.number) ∧
      t.noted (.lodgementFiled l.number l.title (r.edition + 1)) ∧
      (∀ x ∈ (t.rings[filingRing]).entries, x.owner = l.number → x.live = true → x.streaming = true) ∧
      (s.filing.hand.map (fun h => h.1) = some l.number →
        (∀ x : DriveNo, Work.write l.number ∉ (t.drives[x]).work) ∧
        (t.filing.hand = none ∨ ∃ m ∈ s.filing.table, m.number ≠ l.number ∧ m.state = .staged ∧
          ∃ step, t.filing.hand = some (m.number, step)) ∧
        ((∀ m ∈ s.filing.table, m.number ≠ l.number → m.state ≠ .staged) → t.filing.hand = none)) ∧
      (262144 - (e.start + e.blocks) < 16001 →
        t.noted (.filingSpaceLow e.cart e.side (262144 - (e.start + e.blocks)))) ∧
      (t.fetch.queue.map fun o => o.number) = (s.fetch.queue.map fun o => o.number)

/-- A failed attempt, by a media error on the write or verify run or by a verify mismatch (R46, R144, R146, R147): the region is
given up and the error counts on the side; after the first attempt the lodgement stays in hand, after the second it fails with
reason MEDIA and returns its reservation. No title record changes. -/
def Obligations.FailedAttemptGivesUpTheRegion : Prop :=
  ∀ (d : DriveNo) (u : Run) (l : Lodgement) (e : Location) (sr : SideRecord) (i : Instr) (s : State),
    (s.drives[d]).run = some u → u.mark = .live → s.lodgement? u.owner = some l → l.extent = some e →
    s.side? e.sideId = some sr →
    (i = .writeMediaError d ∧ ((s.drives[d]).state = .writing ∨ (s.drives[d]).state = .verifying) ∨
      (∃ readBack : ReadBack, i = .verifyRunCompletion d readBack ∧ (s.drives[d]).state = .verifying ∧
        (readBack.lengths ≠ l.lengths ∨ readBack.data ≠ s.pagesOf l.number))) →
    ∃ t, exec i s = .next (arbitrate t) ∧ t.link.port = s.link.port ∧ t.desk = { s.desk with dir := t.dir } ∧
      t.dir = { s.dir with reserved := t.dir.reserved } ∧
      (∃ x, t.side? e.sideId = some x ∧ x.nextFree = e.start + e.blocks ∧ x.defects = sr.defects + e.blocks ∧
        x.errors = min 255 (sr.errors + 1)) ∧
      (sr.role = .filing → 7 ≤ sr.errors →
        t.noted (.sideRetired e.cart e.side (min 255 (sr.errors + 1))) ∧
          (t.side? e.sideId).map (fun x => x.role) = some .full) ∧
      (l.attempts < 2 → t.dir.reserved = s.dir.reserved ∧
        (t.filing.table.map fun m => m.number) = (s.filing.table.map fun m => m.number) ∧
        ∃ step, t.filing.hand = some (l.number, step)) ∧
      (2 ≤ l.attempts → t.dir.reserved = s.dir.reserved - (if l.kind.adds.isSome then 1 else 0) ∧
        t.filing.table.map (fun m => m.number) =
          (s.filing.table.map fun m => m.number).filter (fun m => m ≠ l.number) ∧
        t.noted (.lodgementFailed l.number l.title .media))

-- Fees and accounts ---------------------------------------------------------------------------------------------

/-- FEE_CLASS, DUTY and COUNTER_LINE store their figures, the page rate held at 8,191 eighths and the duty rate at 3,000 basis points,
and answer them as stored (R155, R156, R174). ACCOUNT stores the kind and the clamped discount, 0 for CASH, and leaves the account's
figures; ACCOUNT_QUERY answers the record with the state of its counter, and changes nothing (R169, R170). -/
def Obligations.FeeLineAndAccountSettings : Prop :=
  (∀ (tag : Byte) (s : State), s.serves = true →
      (∀ (cls : Byte) (document rate certified historical : Word16),
        (8 ≤ cls.toNat → exec (.feeClass tag cls document rate certified historical) s =
          .next (arbitrate (answer tag (.refused .badField) s))) ∧
        ∀ (c : Fin 8) (e : FeeEntry), cls.toNat = c.val →
          e = { document := document.toNat, rate := min 8191 rate.toNat, certified := certified.toNat,
                historical := historical.toNat } →
          exec (.feeClass tag cls document rate certified historical) s = .next (arbitrate (answer tag (.feeClass c.val e)
            { s with fees := { s.fees with schedule := s.fees.schedule.set c.val e c.isLt } }))) ∧
      (∀ rate : Word16, exec (.duty tag rate) s = .next (arbitrate (answer tag (.duty (min 3000 rate.toNat))
        { s with fees := { s.fees with duty := min 3000 rate.toNat } }))) ∧
      ∀ addrPrefix rate : Byte,
        (7 < addrPrefix.toNat ∨ 3 < rate.toNat →
          exec (.counterLine tag addrPrefix rate) s = .next (arbitrate (answer tag (.refused .badField) s))) ∧
        (addrPrefix.toNat ≤ 7 → rate.toNat ≤ 3 →
          exec (.counterLine tag addrPrefix rate) s = .next (arbitrate (answer tag (.counterLine addrPrefix.toNat rate.toNat)
            { s with cfg := { s.cfg with addrPrefix := addrPrefix.toNat, rate := rate.toNat } })))) ∧
  ∀ (tag number : Byte) (s : State), s.serves = true →
    (12 < number.toNat → exec (.accountQuery tag number) s = .next (arbitrate (answer tag (.refused .badField) s))) ∧
    (∀ (kind : Byte) (discount : Word16), 12 < number.toNat ∨ 1 < kind.toNat →
      exec (.account tag number kind discount) s = .next (arbitrate (answer tag (.refused .badField) s))) ∧
    ∀ a : Fin 13, number.toNat = a.val →
      (∀ (kind : Byte) (discount : Word16) (k : AccountKind) (stored : Nat),
        (kind.toNat = 0 ∧ k = .cash ∧ stored = 0 ∨ kind.toNat = 1 ∧ k = .credit ∧ stored = min 2500 discount.toNat) →
        exec (.account tag number kind discount) s = .next (arbitrate (answer tag (.account a.val k stored)
          { s with fees := { s.fees with
            accounts := s.fees.accounts.set a.val { s.fees.accounts[a] with kind := k, discount := stored } a.isLt } }))) ∧
      (a = 0 → exec (.accountQuery tag number) s =
        .next (arbitrate (answer tag (.accountQuery 0 s.fees.accounts[a] false 0 0) s))) ∧
      ∀ n : CounterNo, a.val = n.val + 1 → exec (.accountQuery tag number) s =
        .next (arbitrate (answer tag (.accountQuery a.val s.fees.accounts[a] (!(s.line.counters[n]).present)
          (s.line.counters[n]).failures (s.line.counters[n]).posts.length) s))

/-- The law of R45, kept by every step: every held location lies wholly below the next-free block of its side, and no two overlap. It
rests on the directory's law and on `filingLaw`, which says where lodgements, extents and the filing run stand, and which every step
keeps with it; the lodgement numbers stay distinct because a filing ring within the ring layout leaves one free (R129). -/
def Obligations.StepKeepsHeldLocationsApart : Prop :=
  ∀ s t : State, s.ringLaw → s.layoutLaw → s.directoryLaw → s.filingLaw → s.locationLaw → step s = .next t →
    t.filingLaw ∧ t.locationLaw

/-- SETTLE takes the amount, held at 999,999,999, from pending and adds it to settled today, each held at its limit with the clamp
flag set; a counter's account offers a refresh item, merged into the last of a full queue (R168, R172, R180). -/
def Obligations.SettleAppliesTheAmount : Prop :=
  ∀ (tag number : Byte) (amount : Word32) (s : State), s.serves = true →
    (12 < number.toNat → exec (.settle tag number amount) s = .next (arbitrate (answer tag (.refused .badField) s))) ∧
    ∀ (a : Fin 13) (x settled : Nat) (pending : Int), number.toNat = a.val → x = min 999999999 amount.toNat →
      pending = max (-999999999) (min 999999999 ((s.fees.accounts[a]).pending - x)) →
      settled = min 999999999 ((s.fees.accounts[a]).settled + x) →
      ∃ t, exec (.settle tag number amount) s = .next (arbitrate t) ∧ t.link = (answer tag (.settle pending) s).link ∧
        t = { s with fees := t.fees, line := t.line, link := t.link } ∧
        t.fees = { s.fees with accounts := s.fees.accounts.set a.val { s.fees.accounts[a] with
          pending := pending
          settled := settled
          clamp := (s.fees.accounts[a]).clamp || decide (999999999 < amount.toNat) ||
            decide (pending ≠ (s.fees.accounts[a]).pending - x) ||
            decide (999999999 < (s.fees.accounts[a]).settled + x) } a.isLt } ∧
        (a = 0 → t.line = s.line) ∧
        ∀ n : CounterNo, a.val = n.val + 1 →
          ((s.line.counters[n]).posts.length < 4 →
            (t.line.counters[n]).posts = (s.line.counters[n]).posts ++ [{ order := 0, fee := 0, pending := pending }]) ∧
          ∀ (first : List PostItem) (last : PostItem), (s.line.counters[n]).posts = first ++ [last] → 3 ≤ first.length →
            (t.line.counters[n]).posts =
              first ++ [{ order := 0, fee := min 16777215 last.fee, pending := pending }]

/-- DAY_CLOSE answers the thirteen accounts' figures as they stood, sets balance at day open to pending, and zeroes the day figures
and the clamp flags (R173). -/
def Obligations.DayCloseClosesEveryAccount : Prop :=
  ∀ (tag : Byte) (s : State), s.serves = true →
    ∃ t, exec (.dayClose tag) s = .next (arbitrate t) ∧ t = { s with fees := t.fees, link := t.link } ∧
      t.link = (answer tag (.dayClose (([0, 1, 2, 3, 4, 5, 6, 7, 8, 9, 10, 11, 12] : List (Fin 13)).map fun a =>
        { posted := (s.fees.accounts[a]).posted, settled := (s.fees.accounts[a]).settled,
          charged := (s.fees.accounts[a]).charged, dayOpen := (s.fees.accounts[a]).dayOpen,
          pending := (s.fees.accounts[a]).pending, clamp := (s.fees.accounts[a]).clamp })) s).link ∧
      t.fees.schedule = s.fees.schedule ∧ t.fees.duty = s.fees.duty ∧
      ∀ a : Fin 13, t.fees.accounts[a] = { s.fees.accounts[a] with
        dayOpen := (s.fees.accounts[a]).pending, posted := 0, settled := 0, charged := 0, clamp := false }

/-- The fee computation. The spread (R159 to R161): any eight consecutive pages carry the page rate in pence, from any phase, and a run
of pages may be cut between two orders, the second charged from the phase the first leaves. The rounding of discount and duty is
convergent (R163). The stages (R158, R162, R164, R165): the subtotal of document, pages, certification and history, less the rounded
discount, which is 0 for a CASH account, with the rounded duty. No fee passes 588,387 pence (R166). -/
def Obligations.FeesSpreadAndRound : Prop :=
  (∀ r8 φ p q : Nat, φ < 8 →
    pageCharge r8 φ (p + 8) = pageCharge r8 φ p + r8 ∧
    pageCharge r8 φ (p + q) = pageCharge r8 φ p + pageCharge r8 ((φ + p) % 8) q ∧
    p * (r8 / 8) ≤ pageCharge r8 φ p ∧ pageCharge r8 φ p ≤ p * (r8 / 8 + 1)) ∧
  (∀ x : Nat, 10000 * roundEven x ≤ x + 5000 ∧ x ≤ 10000 * roundEven x + 5000 ∧
    (x % 10000 = 5000 → roundEven x % 2 = 0)) ∧
  (∀ (e : FeeEntry) (duty discount φ pages : Nat) (kind : OrderKind) (historical : Bool),
    (∀ b n : Nat,
      b = e.document + pageCharge e.rate φ pages + (if kind = .certified then e.certified else 0) +
        (if historical then e.historical else 0) →
      n = b - roundEven (b * discount) → feeOf e duty discount φ pages kind historical = n + roundEven (n * duty)) ∧
    (e.document ≤ 65535 → e.rate ≤ 8191 → e.certified ≤ 65535 → e.historical ≤ 65535 → duty ≤ 3000 →
      discount ≤ 2500 →
      pages ≤ 250 → feeOf e duty discount φ pages kind historical ≤ 588387)) ∧
  ∀ (s : State) (o : FetchOrder) (a : Account), s.fees.accounts[o.account] = a →
    s.feeFor o = feeOf s.fees.schedule[o.feeClass] s.fees.duty (if a.kind = .cash then 0 else a.discount) a.phase
      o.loc.pages o.kind o.historical

-- Request link --------------------------------------------------------------------------------------------------

/-- LINK_LEVELS, in either condition, rounds and clamps its five levels, puts them in force and judges HOLD, page halt and ATTENTION
against them at once (R184, R191, R195, R196). Where they end no page halt, the rest of the part stands. -/
def Obligations.LinkLevelsAreJudgedAtOnce : Prop :=
  ∀ (tag : Byte) (hold resume halt haltResume trigger : Word16) (v : Levels) (s : State), s.decoderFree = true →
    v = { hold := min 1024 (max 64 (hold.toNat / 64 * 64))
          resume := min (min 1024 (max 64 (hold.toNat / 64 * 64)) - 64) (resume.toNat / 64 * 64)
          halt := min 3840 (max 64 (halt.toNat / 64 * 64))
          haltResume := min (min 3840 (max 64 (halt.toNat / 64 * 64)) - 64) (haltResume.toNat / 64 * 64)
          trigger := min 4032 (max 64 (trigger.toNat / 64 * 64)) } →
    ∃ u, exec (.linkLevels tag hold resume halt haltResume trigger) s = .next (arbitrate u) ∧
      u.desk = { s.desk with cfg := { s.cfg with levels := v } } ∧
      u.link = { (answer tag (.linkLevels v) s).link with
        hold := if s.link.hold then decide (v.resume < s.link.inbound.length)
                else decide (v.hold ≤ s.link.inbound.length)
        halt := if s.link.halt then decide (v.haltResume < s.link.outbound.length)
                else decide (v.halt ≤ s.link.outbound.length)
        attention := s.link.outbound.any (fun b => b.last) || decide (v.trigger ≤ s.link.outbound.length) } ∧
      u.fetch.queue.map (fun o => o.number) = s.fetch.queue.map (fun o => o.number) ∧
      (s.link.halt = false ∨ u.link.halt = true →
        u.drives = s.drives ∧ u.rings = s.rings ∧ u.fetch = s.fetch ∧ u.filing = s.filing ∧ u.picker = s.picker ∧
          u.lib = s.lib)

/-- QUEUE_RESET, in either condition, empties the fetch queue, the lodgement table, the LOADs not yet begun and the inbound FIFO,
returns the reservations, and discards inbound bytes until its answer is placed; lasting state, the notices, the outbound FIFO and
the accounts stand (R85, R99, R123, R151, R198). -/
def Obligations.QueueResetEmptiesTheQueues : Prop :=
  ∀ (tag : Byte) (s : State), s.decoderFree = true →
    ∃ t, exec (.queueReset tag) s = .next (arbitrate t) ∧
      t.desk = { s.desk with dir := { s.dir with reserved := s.dir.reserved -
        (s.filing.table.filter fun l => l.kind.adds.isSome).length } } ∧
      t.fetch = { s.fetch with queue := [] } ∧ t.filing = { s.filing with table := [], hand := none, wanting := false } ∧
      t.lib = s.lib ∧ (∀ k ∈ t.picker.queue, k.kind ≠ .load) ∧ t.picker.active = s.picker.active ∧
      (∀ d : DriveNo, (t.drives[d]).work = [] ∧ (t.drives[d]).pin = false ∧ (t.drives[d]).state ≠ .stalled) ∧
      (∀ r : Fin 7, ∀ e ∈ (t.rings[r]).entries, e.live = true → e.streaming = true) ∧
      t.link = { (answer tag .done s).link with discarding := true, hold := false }

/-- The strobes (R183 to R185): a byte written joins the inbound FIFO's tail and judges HOLD, is lost to a full FIFO with the mark set
and HOLD asserted, and is discarded under RESET, in a recovery and after a QUEUE_RESET; a read under RESET or of an empty FIFO drives
00H; otherwise the oldest byte is driven and leaves the FIFO. At that read the level has fallen: page halt and ATTENTION are judged
(R191, R195), a streaming PAGE_OUT goes on as far as there is room and to its end where its last byte has room, and otherwise the
arbiter chooses (R189, R190). That a decoder in FIELDS, BODY or DISCARDING takes the overflow mark in the writing step is the
model's reading of R185 (notes/assumptions/11.md), and that a streaming message's last byte is placed apart from the others its
choice (notes/assumptions/7.md). -/
def Obligations.StrobesMoveOneByte : Prop :=
  ∀ s : State,
    (∀ b : Byte,
      (s.resetHeld = true ∨ s.link.recovering = true ∨ s.link.discarding = true → exec (.wrStrobe b) s = .next s) ∧
      (s.resetHeld = false → s.link.recovering = false → s.link.discarding = false →
        (s.link.inbound.length < 1024 → exec (.wrStrobe b) s = .next { s with link := { s.link with
          inbound := s.link.inbound ++ [b]
          hold := s.link.hold || decide (s.cfg.levels.hold ≤ s.link.inbound.length + 1) } }) ∧
        (1024 ≤ s.link.inbound.length →
          ((∃ p, s.link.decoder = .placing p) →
            exec (.wrStrobe b) s = .next { s with link := { s.link with overflow := true, hold := true } }) ∧
          ((∀ p, s.link.decoder ≠ .placing p) → ∃ t, exec (.wrStrobe b) s = .next (arbitrate t) ∧ t.desk = s.desk ∧
            t.link = { s.link with
              overflow := true
              hold := true
              inbound := []
              recovering := true
              decoder := .placing ⟨s.link.decoder.tag, .badFrame .overflow, decide (s.condition = .unformatted),
                true⟩ })))) ∧
    (s.resetHeld = true ∨ s.link.outbound = [] →
      exec .rdStrobe s = .next { s with link := { s.link with driven := 0 } }) ∧
    (∀ (b : OutByte) (rest : List OutByte), s.resetHeld = false → s.link.outbound = b :: rest →
      ∃ u t, exec .rdStrobe s = .next t ∧ u.desk = s.desk ∧
        u.link = { s.link with
          outbound := rest
          driven := b.value
          overflow := s.link.overflow && !b.recovery
          recovering := s.link.recovering && !b.recovery
          hold := s.link.hold && !b.recovery
          halt := if s.link.halt then decide (s.cfg.levels.haltResume < rest.length)
                  else decide (s.cfg.levels.halt ≤ rest.length)
          attention := rest.any (fun x => x.last) || decide (s.cfg.levels.trigger ≤ rest.length) } ∧
        (s.link.halt = false ∨ u.link.halt = true → u = { s with link := u.link }) ∧
        (s.link.streaming = none → t = arbitrate u) ∧
        ∀ (st : Stream) (e : PageEntry) (more : List PageEntry), s.link.streaming = some st → s.cfg.levels.lawful →
          (u.rings[driveRing st.ring]).entries = e :: more →
          ∃ (v : State) (n : Nat), exec .pageOutEnd v = .next t ∧
            n = min (4096 - rest.length) (e.bytes - 1 - st.sent) ∧ v = { u with link := v.link } ∧
            v.link = { u.link with
              outbound := rest ++
                (u.staging.loadPage u.cfg.layout[driveRing st.ring] e.start st.sent n).map (fun x => ⟨x, false, false⟩)
              streaming := some { st with sent := st.sent + n }
              halt := v.link.halt
              attention := v.link.attention })

/-- ANSWERs and notices are placed whole, oldest first, when the outbound FIFO has room and no PAGE_OUT streams; an ANSWER in PLACING
goes before any notice. The decoder returns to HEADER, or takes an overflow mark set while it waited (R185, R187, R189, R194). Where the
arbiter chooses at the end of an event (`arbitrate`), it places nothing while a PAGE_OUT streams; otherwise it takes the first rank that
has a message, an ANSWER, then a notice, then a PAGE_OUT, and looks again, until a PAGE_OUT streams or nothing is left that could begin;
and it changes nothing but the link and the streaming mark of the head it serves. That it looks again in the same event is the model's
reading of R189 (notes/assumptions/6.md). -/
def Obligations.AnswersAndNoticesArePlacedWhole : Prop :=
  (∀ s : State,
    (s.link.streaming ≠ none → arbitrate s = s) ∧
    (s.link.streaming = none → ∀ t,
      ((∃ p, s.link.decoder = .placing p) → exec .answerPlaced s = .next t) →
      ((∀ p, s.link.decoder ≠ .placing p) → s.link.notices ≠ [] → exec .noticePlaced s = .next t) →
      ((∀ p, s.link.decoder ≠ .placing p) → s.link.notices = [] → exec .pageOutBegin s = .next t) →
      arbitrate s = arbitrate t) ∧
    ∀ t, t = arbitrate s →
      t.desk = s.desk ∧
      (s.cfg.levels.lawful → s.link.outLaw s.cfg.levels →
        t = { s with link := t.link, rings := t.rings } ∧ t.link.driven = s.link.driven ∧
          t.link.outbound.take s.link.outbound.length = s.link.outbound ∧
          ∀ r : Fin 7, (t.rings[r]).entries.map (fun e => { e with streaming := false }) =
              (s.rings[r]).entries.map (fun e => { e with streaming := false }) ∧
            (t.rings[r]).drain = (s.rings[r]).drain ∧ (t.rings[r]).fill = (s.rings[r]).fill ∧
            (t.rings[r]).occupied = (s.rings[r]).occupied) ∧
      (t.link.streaming = none →
        (∀ p, t.link.decoder = .placing p → 4096 < t.link.outbound.length + (p.bytes t.link.lost).length) ∧
        ((∀ p, t.link.decoder ≠ .placing p) → ∀ (n : Notice) (rest : List Notice), t.link.notices = n :: rest →
          4096 < t.link.outbound.length + n.bytes.length) ∧
        ((∀ p, t.link.decoder ≠ .placing p) → t.link.notices = [] → t.link.halt = false →
          (∃ d : DriveNo, (t.rings[driveRing d]).offered ≠ none) → 4096 < t.link.outbound.length + 11))) ∧
  ∀ s : State, s.link.streaming = none →
    (∀ p : Placing, s.link.decoder = .placing p →
      (4096 < s.link.outbound.length + (p.bytes s.link.lost).length → s.link.outbound.length ≤ 4096 →
        exec .answerPlaced s = .next s) ∧
      exec .noticePlaced s = .next s ∧
      (s.link.outbound.length + (p.bytes s.link.lost).length ≤ 4096 →
        ∃ t, exec .answerPlaced s = .next t ∧ t.desk = s.desk ∧
          t.link.outbound = s.link.outbound ++ outBytes p.recovery (p.bytes s.link.lost) ∧ t.link.lost = false ∧
          t.link.discarding = false ∧ t.link.notices = s.link.notices ∧ t.link.streaming = none ∧
          (s.link.overflow = false ∨ s.link.recovering = true →
            t.link.decoder = .header [] ∧ t.link.inbound = s.link.inbound ∧ t.link.hold = s.link.hold) ∧
          (s.link.overflow = true → s.link.recovering = false →
            t.link.decoder = .placing ⟨0, .badFrame .overflow, decide (s.condition = .unformatted), true⟩ ∧
              t.link.inbound = [] ∧ t.link.recovering = true ∧ t.link.hold = true))) ∧
    ∀ (n : Notice) (rest : List Notice), (∀ p, s.link.decoder ≠ .placing p) → s.link.notices = n :: rest →
      s.link.outbound.length + n.bytes.length ≤ 4096 →
      ∃ t, exec .noticePlaced s = .next t ∧ t.desk = s.desk ∧
        t.link.outbound = s.link.outbound ++ outBytes false n.bytes ∧ t.link.notices = rest ∧
        t.link.lost = s.link.lost ∧ t.link.decoder = s.link.decoder ∧ t.link.inbound = s.link.inbound ∧
        t.link.hold = s.link.hold ∧ t.link.streaming = none

/-- A PAGE_OUT begins for the first drive ring after the last one served, in cyclic order, that offers its head (LIVE and FILLED), when
no ANSWER or notice waits and page halt is not in force: its header and fixed fields are placed, the entry streams, and its blocks
follow in order as far as there is room, all but the last byte (R97, R189 to R191). That they follow in the same event, and the last
byte in one of its own, is the model's choice (notes/assumptions/7.md). -/
def Obligations.PageOutBeginsForTheNextRing : Prop :=
  ∀ (d : DriveNo) (e : PageEntry) (rest : List PageEntry) (s : State), s.link.streaming = none →
    (∀ p, s.link.decoder ≠ .placing p) → s.link.notices = [] → s.link.halt = false →
    (s.rings[driveRing d]).entries = e :: rest → e.live = true → e.filled = true → s.link.lastRing ≤ 6 →
    (∀ x : DriveNo, (x.val + 6 - s.link.lastRing) % 6 < (d.val + 6 - s.link.lastRing) % 6 →
      (s.rings[driveRing x]).offered = none) →
    s.link.outbound.length + 11 ≤ 4096 → s.cfg.levels.lawful →
    ∃ (t : State) (n : Nat), exec .pageOutBegin s = .next t ∧ t.desk = s.desk ∧
      n = min (4096 - (s.link.outbound.length + 11)) (e.bytes - 1) ∧
      t.link.outbound = s.link.outbound ++
        (pageOutHead e.owner e.page (s.pagesOfOrder e.owner) e.length).map (fun b => ⟨b, false, false⟩) ++
        (s.staging.loadPage s.cfg.layout[driveRing d] e.start 0 n).map (fun b => ⟨b, false, false⟩) ∧
      t.link.lastRing = d.val + 1 ∧ t.link.streaming = some { ring := d, sent := n } ∧
      t.rings = s.rings.set d.val { s.rings[driveRing d] with entries := { e with streaming := true } :: rest } (by omega) ∧
      t.drives = s.drives ∧ t.fetch = s.fetch ∧ t.filing = s.filing ∧ t.lib = s.lib ∧ t.picker = s.picker ∧
      t.link.inbound = s.link.inbound ∧ t.link.decoder = s.link.decoder ∧ t.link.notices = []

/-- The end of a PAGE_OUT (R116, R117, R165, R171): its last bytes are placed and its order's delivered count rises, for a page of an
order still READING too; the last page of a DELIVERING order completes it: the fee is charged to its account, the copy is counted, the
order leaves the queue, ORDER_DONE is queued and a post item is offered, merged into the last of a full queue (R180). The numbers of the
queue are taken as distinct (R106), as every step keeps them (`NextNumberIsTheFirstFree`). That one event places all the bytes that
remain is the model's choice (notes/assumptions/7.md). -/
def Obligations.PageOutEndCompletesTheOrder : Prop :=
  ∀ (st : Stream) (e : PageEntry) (rest : List PageEntry) (o : FetchOrder) (s : State),
    s.link.streaming = some st → (s.rings[driveRing st.ring]).entries = e :: rest → e.bytes - st.sent ≤ s.link.room →
    s.order? e.owner = some o → s.ordersDistinct →
    (o.lengths.isSome = true ∨ ∀ d : DriveNo, Work.order e.owner ∉ (s.drives[d]).work) →
    ∃ t, exec .pageOutEnd s = .next (arbitrate t) ∧ t.link.streaming = none ∧ t.staging = s.staging ∧ t.cfg = s.cfg ∧
      t.link.outbound = s.link.outbound ++ outBytes false
        (s.staging.loadPage s.cfg.layout[driveRing st.ring] e.start st.sent (e.bytes - st.sent)) ∧
      t.link.inbound = s.link.inbound ∧ t.link.decoder = s.link.decoder ∧
      (o.state ≠ .delivering ∨ o.delivered + 1 ≠ o.loc.pages →
        t.desk = s.desk ∧ t.link.notices = s.link.notices ∧
          t.order? e.owner = some { o with delivered := o.delivered + 1 }) ∧
      (o.state = .delivering → o.delivered + 1 = o.loc.pages → ∀ fee : Nat, fee = s.feeFor o →
        ∀ pending : Int, pending = max (-999999999) (min 999999999 ((s.fees.accounts[o.account]).pending + fee)) →
        t.fetch.queue.map (fun p => p.number) =
            (s.fetch.queue.map fun p => p.number).filter (fun m => m ≠ e.owner) ∧
          t.noted (.orderDone o.number o.account.val o.loc.pages fee) ∧
          t.dir = { s.dir with titles := s.dir.titles.map fun r =>
            if r.number = o.title then { r with copies := min 65535 (r.copies + 1) } else r } ∧
          t.fees = { s.fees with accounts := s.fees.accounts.set o.account.val { s.fees.accounts[o.account] with
            pending := pending
            posted := min 999999999 ((s.fees.accounts[o.account]).posted + fee)
            charged := min 65535 ((s.fees.accounts[o.account]).charged + 1)
            phase := ((s.fees.accounts[o.account]).phase + o.loc.pages) % 8
            clamp := (s.fees.accounts[o.account]).clamp ||
              decide (pending ≠ (s.fees.accounts[o.account]).pending + fee) ||
              decide (999999999 < (s.fees.accounts[o.account]).posted + fee) ||
              decide (65535 < (s.fees.accounts[o.account]).charged + 1) } o.account.isLt } ∧
          (o.account = 0 → t.line = s.line) ∧
          ∀ n : CounterNo, o.account.val = n.val + 1 →
            ((s.line.counters[n]).posts.length < 4 → (t.line.counters[n]).posts =
              (s.line.counters[n]).posts ++ [{ order := o.number, fee := fee, pending := pending }]) ∧
            ∀ (first : List PostItem) (last : PostItem), (s.line.counters[n]).posts = first ++ [last] →
              3 ≤ first.length → (t.line.counters[n]).posts =
                first ++ [{ order := o.number, fee := min 16777215 (last.fee + fee), pending := pending }])

-- Resets --------------------------------------------------------------------------------------------------------

/-- FORMAT is taken in UNFORMATTED, where it issues the mechanism reset, and in READY with the library quiet: the lasting state is
that of Table 1-3, the part is READY, and each counter's post queue holds one refresh item of pending 0. Otherwise it is refused
LIBRARY_BUSY (R15 to R18). -/
def Obligations.FormatWritesTheInitialState : Prop :=
  ∀ (tag : Byte) (s : State), s.decoderFree = true →
    ∀ quiet : Prop,
    (quiet ↔ s.fetch.queue = [] ∧ s.filing.table = [] ∧ s.picker.state = .idle ∧ s.picker.active = none ∧
      s.picker.queue = [] ∧ (∀ r : Fin 7, (s.rings[r]).entries = []) ∧
      ∀ d : DriveNo, (s.drives[d]).state = .empty ∨ (s.drives[d]).state = .idle ∨ (s.drives[d]).fitted = false) →
    (s.condition = .ready → ¬ quiet → exec (.format tag) s = .next (arbitrate (answer tag (.refused .libraryBusy) s))) ∧
    (s.condition = .unformatted ∨ quiet → (∀ d : DriveNo, (s.drives[d]).state ≠ .stalled) →
      ∃ t, exec (.format tag) s = .next (arbitrate t) ∧
        t.answers tag .done ∧ t.condition = .ready ∧ t.formatMark = true ∧
        t.mechReset = (s.mechReset || decide (s.condition = .unformatted)) ∧ t.now = s.now ∧ t.pending = s.pending ∧
        t.dir = { titles := [], count := 0, inUse := 0, reserved := 0 } ∧
        t.lib = { s.lib with carts := [], active := none } ∧ t.fees = Fees.initial ∧ t.cfg = Settings.default ∧
        t.staging = s.staging ∧ t.fetch = s.fetch ∧ t.filing = s.filing ∧ t.link.notices = s.link.notices ∧
        (∀ r : Fin 7, (t.rings[r]).entries = [] ∧ (t.rings[r]).drain = 0 ∧ (t.rings[r]).fill = 0) ∧
        t.line.poll = some (s.now + 2) ∧
        ∀ n : CounterNo, (t.line.counters[n]).posts = [{ order := 0, fee := 0, pending := 0 }] ∧
          (t.line.counters[n]).present = (s.line.counters[n]).present)

/-- A full reset that finds the format mark keeps the lasting state, empties the volatile state, issues the mechanism reset and
refreshes the counter line; one that does not leaves the part UNFORMATTED as new. RESET stays asserted until its release (R8, R13,
R14, R182, R197). These are the model's choices: the time base runs on (notes/assumptions/14.md), staging memory, the driven byte, the
picker's load starts and reopening, the stores R14 leaves unread, the drives' fitted and idle-since values, the clock line and RESET
after power-on, and how a mark lost with directory memory is told (notes/assumptions/20.md, 22.md to 26.md, 41.md and 49.md). -/
def Obligations.FullResetKeepsLastingState : Prop :=
  ∀ (cause : ResetCause) (memoryKept : Bool) (s : State),
    (s.formatMark = true → memoryKept = true →
      ∃ t, exec (.fullReset cause memoryKept) s = .next t ∧ t.condition = .ready ∧ t.formatMark = true ∧
        t.mechReset = true ∧ t.resetHeld = decide (cause = .resetInput) ∧ t.now = s.now ∧ t.pending = s.pending ∧
        t.dir = { s.dir with reserved := 0 } ∧ t.lib = { s.lib with leaving := [], blocked := [], mail := false } ∧
        t.fees = s.fees ∧ t.cfg = s.cfg ∧ t.staging = [] ∧ t.fetch = Fetch.initial ∧ t.filing = Filing.initial ∧
        t.link = Link.initial ∧ t.drives = Vector.replicate 6 Drive.initial ∧
        t.rings = Vector.replicate 7 PageRing.initial ∧
        t.picker = { state := .idle, queue := [], active := none, starts := [s.now, s.now, s.now, s.now],
                     reopening := some (s.now + s.window) } ∧
        t.line.poll = some (s.now + s.cfg.timing.poll.count * 4 ^ s.cfg.timing.poll.base) ∧
        ∀ n : CounterNo, (t.line.counters[n]).present = true ∧ (t.line.counters[n]).failures = 0 ∧
          (t.line.counters[n]).due = false ∧ (t.line.counters[n]).posts =
            [{ order := 0, fee := 0, pending := (s.fees.accounts[accountOfCounter n]).pending }]) ∧
    (s.formatMark = false ∨ memoryKept = false →
      exec (.fullReset cause memoryKept) s = .next { State.reset with
        pending := s.pending
        now := s.now
        resetHeld := decide (cause = .resetInput)
        picker := { State.reset.picker with starts := [s.now, s.now, s.now, s.now], reopening := some (s.now + 120) }
        line := { State.reset.line with clockHeld := s.line.clockHeld } }) ∧
    exec .resetRelease s = .next { s with resetHeld := false }

-- Mechanism -----------------------------------------------------------------------------------------------------

/-- The completion of the mechanism reset (R49, R59, R60, R86): each drive takes the state its report gives, a cartridge recorded in
a drive that holds none becomes OFFLINE, the active filing side is cleared where its cartridge is found missing or trapped, and a
picker reported in fault is in FAULT with no task; one found clear is not. That a picker found in fault leaves no order WAITING and
drops the tasks queued before, and that a picker or drive which faulted while the reset ran and is found clear leaves FAULT, are the
model's reading (notes/assumptions/15.md); that a completion with no mechanism reset issued changes nothing is its choice
(notes/assumptions/3.md). -/
def Obligations.MechanismResetTakesTheReport : Prop :=
  ∀ (report : MechReport) (s : State),
    (s.mechReset = false → exec (.mechanismResetCompletion report) s = .next s) ∧
    (s.mechReset = true → s.picker.active = none → (s.lib.carts.map fun c => c.number).Pairwise (· ≠ ·) →
      ∃ t, exec (.mechanismResetCompletion report) s = .next (arbitrate t) ∧ t.desk = { s.desk with mechReset := false } ∧
        t.link.port = s.link.port ∧
        (∀ d : DriveNo,
          (report.drives[d] = .absent → (t.drives[d]).state = .fault ∧ (t.drives[d]).fitted = false) ∧
          (∀ f, report.drives[d] = .fault f → (t.drives[d]).state = .fault) ∧
          (∀ f, report.drives[d] = .holding f → (t.drives[d]).state = .unloading ∧
            ((t.drives[d]).unrecorded = true ↔ ∀ c ∈ s.lib.carts, c.place ≠ .drive d)) ∧
          (report.drives[d] = .vacant → (t.drives[d]).mounted = none ∧
            ((t.drives[d]).state = .empty ∨ (t.drives[d]).state = .loading)) ∧
          ∀ c, s.lib.carts.find? (fun x => decide (x.place = .drive d)) = some c →
            report.drives[d] = .absent ∨ report.drives[d] = .vacant →
            (t.cart? c.number).map (fun x => x.place) = some .offline) ∧
        (∀ sd, s.lib.active = some sd → ∀ c ∈ s.lib.carts, sd.cart = c.number →
          (∃ d : DriveNo, s.lib.carts.find? (fun x => decide (x.place = .drive d)) = some c ∧
              ∀ f, report.drives[d] ≠ .holding f) ∨
            (s.lib.carts.find? (fun x => decide (x.place = .picker)) = some c ∧ report.picker = .vacant) ∨
            (c.place = .mail ∧ s.lib.mail = false ∧ s.importQueued c.number = false) →
          t.lib.active ≠ some sd) ∧
        (report.picker ≠ .fault → t.picker.state ≠ .fault) ∧
        (report.picker = .fault → t.picker.state = .fault ∧ t.picker.queue = [] ∧ t.picker.active = none ∧
          ∀ o ∈ t.fetch.queue, o.state ≠ .waiting))

/-- A pick completion puts the cartridge in the picker's grip and empties the point it came from; an occupied target slot is blocked and
the task sent to the lowest open slot, its cartridge's new home; the mail slot sensor sets the slot OCCUPIED or EMPTY, and a
cartridge taken out is OFFLINE (R43, R44, R50, R56). That a placed event never holds the placement of a task already bound for the
mail slot is the model's choice (notes/assumptions/43.md). -/
def Obligations.PickerMovesAndMailSlot : Prop :=
  ∀ s : State,
    (∀ (a : Active) (p : PickPoint), s.picker.active = some a → a.picked = false → a.source = some p →
      ∃ t, exec (.pickCompletion p) s = .next t ∧ t.desk = s.desk ∧ t.link = s.link ∧ t.fetch = s.fetch ∧
        t.filing = s.filing ∧ t.rings = s.rings ∧ t.lib.mail = (s.lib.mail && decide (p ≠ .mail)) ∧
        t.picker = { s.picker with active := some { a with
          picked := true, waiting := decide (a.target = .mail) && t.lib.mail } } ∧
        (∀ c, a.task.cart = some c → (t.cart? c).map (fun x => x.place) = (s.cart? c).map fun _ => .picker) ∧
        ∀ d, p = .drive d → (t.drives[d]).mounted = none ∧ (t.drives[d]).state = (s.drives[d]).state) ∧
    (∀ (a : Active) (n : Nat), s.picker.active = some a → a.picked = true → a.waiting = false → a.target = .slot n →
      ∃ t, exec (.targetSlotOccupied n) s = .next t ∧ t.desk = s.desk ∧ t.link = s.link ∧ t.fetch = s.fetch ∧
        t.filing = s.filing ∧ t.rings = s.rings ∧ t.drives = s.drives ∧ n ∈ t.lib.blocked ∧
        ∀ m, 1 ≤ m → m ≤ 240 → m ≠ n → s.lib.slotOpen m = true →
          (∀ x, 1 ≤ x → x < m → x ≠ n → s.lib.slotOpen x = false) →
          t.picker = { s.picker with active := some { a with target := .slot m } } ∧
            ∀ c, a.task.cart = some c → (t.cart? c).map (fun x => x.home) = (s.cart? c).map fun _ => some m) ∧
    exec .mailSlotPlaced s = .next { s with lib := { s.lib with mail := true } } ∧
    (s.lib.mail = false → exec .mailSlotEmptied s = .next s) ∧
    (s.lib.mail = true → ∃ t, exec .mailSlotEmptied s = .next (arbitrate t) ∧ t.desk = s.desk ∧ t.link.port = s.link.port ∧
      t.lib.mail = false ∧ t.fetch = s.fetch ∧ t.filing = s.filing ∧ t.rings = s.rings ∧
      ∀ c, s.lib.carts.find? (fun x => decide (x.place = .mail)) = some c → s.inGrip c.number = false →
        (t.cart? c.number).map (fun x => x.place) = some .offline ∧
          (s.importQueued c.number = true → t.noted (.cartridgePlaced c.number .offline 0 .removed)))

/-- A placement ends the task (R42, R44, R53, R56, R63, R71, R73): the picker is IDLE, or BUSY with a task it has begun since. A
LOAD's leaves its drive in SPINUP with the side mounted; an UNLOAD's or an IMPORT's lays the cartridge in its slot; a cartridge
returned to its drive is mounted as before, and trapped where the drive is in FAULT (R59, R81); one placed in the mail slot is there
with its former slot kept, and its EXPORT, or the IMPORT that found no slot, is reported. That a return to a drive in FAULT clears the
active filing side and fails the orders WAITING for the cartridge is the model's reading (notes/assumptions/17.md), as is the spin-up of
an unrecorded cartridge given back to its drive (notes/assumptions/32.md). -/
def Obligations.PlacementEndsTheTask : Prop :=
  ∀ (a : Active) (s : State), s.picker.active = some a → a.picked = true → a.waiting = false →
    s.picker.state = .busy → ∀ ended : State → Prop,
    (∀ t, ended t ↔ t.picker.active = none ∧ t.picker.state = .idle ∨
      ∃ b, t.picker.active = some b ∧ t.picker.state = .busy ∧ (b.task ∈ s.picker.queue ∨ b.task.kind = .load) ∧
        b.picked = b.source.isNone ∧ b.waiting = false) →
    (∀ (c : Nat) (sd : Side) (d : DriveNo), a.task = ⟨.load, some c, sd, some d⟩ → a.target = .drive d →
      ∃ t, exec (.placementCompletion (.drive d)) s = .next (arbitrate t) ∧ t.desk = s.desk ∧ t.link = s.link ∧ ended t ∧
        t.fetch = s.fetch ∧ t.filing = s.filing ∧ (t.drives[d]).state = .spinup ∧
        (t.drives[d]).mounted = some ⟨c, sd⟩ ∧ (t.drives[d]).reserved = none ∧
        (t.cart? c).map (fun x => x.place) = (s.cart? c).map fun _ => .drive d) ∧
    (∀ d : DriveNo, a.task.kind = .unload → a.target = .drive d →
      ∃ t, exec (.placementCompletion (.drive d)) s = .next (arbitrate t) ∧ t.desk = s.desk ∧
        t.link.port = s.link.port ∧ ended t ∧
        (t.drives[d]).mounted = a.wasMounted ∧ (t.drives[d]).unrecorded = a.task.cart.isNone ∧
        (∀ c, a.task.cart = some c → (t.cart? c).map (fun x => x.place) = (s.cart? c).map fun _ => .drive d) ∧
        ((s.drives[d]).state ≠ .fault → (t.drives[d]).state = .spinup ∧ t.link = s.link ∧ t.fetch = s.fetch ∧
          t.filing = s.filing ∧ t.lib.active = s.lib.active) ∧
        ((s.drives[d]).state = .fault → (t.drives[d]).state = .fault ∧ ∀ c, a.task.cart = some c →
          (∀ sd, t.lib.active = some sd → sd.cart ≠ c) ∧ ∀ o ∈ t.fetch.queue, o.loc.cart = c → o.state ≠ .waiting)) ∧
    (∀ n : Nat, a.target = .slot n →
      ∃ t, exec (.placementCompletion (.slot n)) s = .next (arbitrate t) ∧ t.desk = s.desk ∧
        t.link.port = s.link.port ∧ ended t ∧
        (∀ c, a.task.cart = some c → (t.cart? c).map (fun x => x.place) = (s.cart? c).map fun _ => .slot n) ∧
        (∀ d, a.task.kind = .unload → a.task.drive = some d → (s.drives[d]).state = .unloading →
          (t.drives[d]).state = .empty ∨ (t.drives[d]).state = .loading) ∧
        ∀ c, a.task.kind = .importTask → a.task.cart = some c → t.noted (.cartridgePlaced c (.slot n) n .done)) ∧
    (a.target = .mail →
      ∃ t, exec (.placementCompletion .mail) s = .next (arbitrate t) ∧ t.desk = s.desk ∧ t.link.port = s.link.port ∧ ended t ∧
        t.lib.mail = true ∧
        ∀ c, a.task.cart = some c → ∀ r, s.cart? c = some r →
          (∀ k ∈ s.picker.queue, k.kind = .unload → k.cart ≠ some c) →
          ∃ q : Cartridge, t.cart? c = some q ∧ q.place = .mail ∧ q.home = none ∧
            (∀ h, r.home = some h → q.former = some h) ∧ (r.home = none → q.former = r.former) ∧
            q.sideA = r.sideA ∧ q.sideB = r.sideB ∧
            (a.task.kind = .exportTask → t.isLeaving c = false ∧ t.noted (.cartridgeAtMailSlot c q.former)) ∧
            (a.task.kind = .importTask → t.noted (.cartridgePlaced c .mail 0 .noFreeSlot)))

/-- A spin-up completion brings the drive its hold time and attaches every order waiting for the side; a spin-down completion makes the
drive UNLOADING with its UNLOAD queued, unless the picker is in FAULT; either is taken only in the state that awaits it (R63, R71,
R76, R82, R109). -/
def Obligations.SpinCompletionsMoveTheDrive : Prop :=
  ∀ (d : DriveNo) (s : State),
    ((s.drives[d]).state ≠ .spinup → exec (.spinUpCompletion d) s = .next s) ∧
    ((s.drives[d]).state = .spinup → ∃ t, exec (.spinUpCompletion d) s = .next t ∧ t.desk = s.desk ∧
      t.link = s.link ∧
      (t.drives[d]).hold = some (s.now + s.cfg.timing.hold.count * 4 ^ s.cfg.timing.hold.base) ∧
      (t.drives[d]).mounted = (s.drives[d]).mounted ∧ (t.drives[d]).state ≠ .spinup ∧
      (t.fetch.queue.map fun o => o.number) = (s.fetch.queue.map fun o => o.number) ∧
      ∀ sd, (s.drives[d]).mounted = some sd → (s.drives[d]).unrecorded = false →
        ∀ o ∈ t.fetch.queue, o.loc.sideId = sd → o.state ≠ .waiting) ∧
    ((s.drives[d]).state ≠ .spindown → exec (.spinDownCompletion d) s = .next s) ∧
    ((s.drives[d]).state = .spindown → ∃ t, exec (.spinDownCompletion d) s = .next t ∧ t.desk = s.desk ∧
      t.link = s.link ∧ t.fetch = s.fetch ∧ t.filing = s.filing ∧ t.rings = s.rings ∧
      (t.drives[d]).state = .unloading ∧ (t.drives[d]).mounted = (s.drives[d]).mounted ∧
      (s.picker.state = .fault → t.picker = s.picker) ∧
      (s.picker.state ≠ .fault → { kind := .unload, cart := (if (s.drives[d]).unrecorded then none else
        (s.drives[d]).mounted.map fun sd => sd.cart), side := .A, drive := some d } ∈ t.picker.tasks))

-- Runs, faults and timers ---------------------------------------------------------------------------------------

/-- An index read whose lengths agree with the order's location gives the order its lengths, and one that does not fails it with
reason INDEX_MISMATCH; a page read fills its entry's blocks and nothing else and counts on the order, which becomes DELIVERING with
its last page. The page read that the drive begins next addresses the blocks where its page lies: past the index block and the pages
before it (R93, R110, R114, R118). -/
def Obligations.ReadCompletionsServeTheOrder : Prop :=
  ∀ (d : DriveNo) (u : Run) (o : FetchOrder) (s : State), (s.drives[d]).state = .reading →
    (s.drives[d]).run = some u → u.mark = .live → s.order? u.owner = some o → ∀ aimed : State → Prop,
    (∀ t, aimed t ↔ ∀ v, (t.drives[d]).run = some v → v.kind = .page →
      ∃ p ∈ t.fetch.queue, p.number = v.owner ∧ v.page = p.read + 1 ∧ ∃ ls, p.lengths = some ls ∧
        v.region = ⟨p.loc.sideId, p.loc.start + 1 + (ls.take p.read).sum, ls.getD p.read 0⟩) →
    (u.kind = .index → ∀ lengths : List Nat, ∀ agrees : Prop,
      (agrees ↔ lengths.length = o.loc.pages ∧ (∀ x ∈ lengths, 1 ≤ x ∧ x ≤ 64) ∧ lengths.sum + 1 = o.loc.blocks) →
      (agrees → ∃ t, exec (.indexReadCompletion d lengths) s = .next t ∧ t.desk = s.desk ∧ t.link = s.link ∧ aimed t ∧
        (t.fetch.queue.map fun p => p.number) = (s.fetch.queue.map fun p => p.number) ∧
        ∃ p ∈ t.fetch.queue, p.number = o.number ∧ p.lengths = some lengths ∧ p.erred = false ∧ p.loc = o.loc) ∧
      (¬ agrees → ∃ t, exec (.indexReadCompletion d lengths) s = .next (arbitrate t) ∧ t.desk = s.desk ∧
        t.link.port = s.link.port ∧ t.fetch.queue.map (fun p => p.number) =
          (s.fetch.queue.map fun p => p.number).filter (fun m => m ≠ o.number) ∧
        t.noted (.orderFailed o.number .indexMismatch (s.pagesSent o)))) ∧
    (u.kind = .page → ∀ (e : PageEntry) (data : List Byte), s.awaiting d u.owner u.page = some e →
      data.length = e.length * 1024 → s.memoryLaw → e.length ≤ s.modulus (driveRing d) →
      1 ≤ s.modulus (driveRing d) → (s.cfg.layout[driveRing d]).base + s.modulus (driveRing d) ≤ 8192 →
      ∃ t, exec (.pageReadCompletion d data) s = .next (arbitrate t) ∧ t.desk = { s.desk with staging := t.staging } ∧
        t.link = s.link ∧ aimed t ∧ t.pageBytes (driveRing d) e = data ∧
        (∀ a, ¬ s.inPage (driveRing d) e a → t.staging.read a = s.staging.read a) ∧
        { e with filled := true } ∈ (t.rings[driveRing d]).entries ∧
        (t.fetch.queue.map fun p => p.number) = (s.fetch.queue.map fun p => p.number) ∧
        ∃ p ∈ t.fetch.queue, p.number = o.number ∧ p.read = o.read + 1 ∧ p.delivered = o.delivered ∧ p.erred = false ∧
          (o.loc.pages ≤ o.read + 1 → p.state = .delivering ∧ p.drive = none ∧
            Work.order o.number ∉ (t.drives[d]).work))

/-- The first media error on a read is remembered and the read goes on; the second fails the order with reason MEDIA and counts on its
side, retiring a FILING side it leaves at 8 or more (R46, R115, R118). -/
def Obligations.SecondMediaErrorFailsTheOrder : Prop :=
  ∀ (d : DriveNo) (u : Run) (o : FetchOrder) (s : State), (s.drives[d]).state = .reading →
    (s.drives[d]).run = some u → u.mark = .live → s.order? u.owner = some o →
    (o.erred = false → exec (.mediaError d) s = .next { s with fetch := { s.fetch with
      queue := s.fetch.queue.map fun p => if p.number = u.owner then { p with erred := true } else p } }) ∧
    (o.erred = true → ∃ t, exec (.mediaError d) s = .next (arbitrate t) ∧ t.desk = s.desk ∧ t.link.port = s.link.port ∧
      t.fetch.queue.map (fun p => p.number) =
        (s.fetch.queue.map fun p => p.number).filter (fun m => m ≠ o.number) ∧
      t.noted (.orderFailed o.number .media (s.pagesSent o)) ∧
      ∀ sr, s.side? o.loc.sideId = some sr →
        ∃ q, t.side? o.loc.sideId = some q ∧ q.errors = min 255 (sr.errors + 1) ∧ q.nextFree = sr.nextFree ∧
          q.defects = sr.defects ∧ (sr.role = .filing → 7 ≤ sr.errors → q.role = .full ∧
            t.noted (.sideRetired o.loc.cart o.loc.side (min 255 (sr.errors + 1)))))

/-- A write run's completion issues the verify run at once, over the same blocks; a stop completion ends a stopped run and the drive
chooses again: the index read of the oldest COUNTER order in its work list, and no run where the list is empty. The other completions
of a stopped run do the same; each is taken only where it is awaited (R65, R82, R111, R112, R140, R141). -/
def Obligations.WriteAndStopCompletionsEndTheRun : Prop :=
  ∀ (d : DriveNo) (s : State),
    (∀ u : Run, (s.drives[d]).state = .writing → (s.drives[d]).run = some u → u.mark = .live →
      exec (.writeRunCompletion d) s = .next { s with
        filing := { s.filing with table := s.filing.table.map fun l =>
          if l.number = u.owner then { l with state := .verifying } else l }
        drives := s.drives.set d.val { s.drives[d] with
          state := .verifying, run := some { u with kind := .verify } } d.isLt }) ∧
    ((s.drives[d]).state ≠ .writing → exec (.writeRunCompletion d) s = .next s) ∧
    (∀ u : Run, (s.drives[d]).state = .writing ∨ (s.drives[d]).state = .verifying → (s.drives[d]).run = some u →
      u.mark = .stopped → ∃ t, exec (.stopCompletion d) s = .next t ∧ t.desk = s.desk ∧ t.link = s.link ∧
        (t.drives[d]).run ≠ some u ∧ (t.drives[d]).mounted = (s.drives[d]).mounted ∧
        (∀ o : FetchOrder, (s.fetch.queue.find? fun p => decide (p.priority = .counter) &&
            decide (Work.order p.number ∈ (s.drives[d]).work)) = some o → o.lengths = none →
          (t.drives[d]).state = .reading ∧
            (t.drives[d]).run = some ⟨.index, o.number, 0, ⟨o.loc.sideId, o.loc.start, 1⟩, .live⟩) ∧
        ((s.drives[d]).work = [] → (t.drives[d]).run = none ∧
          ((t.drives[d]).state = .idle ∨ (t.drives[d]).state = .spindown)) ∧
        (t.fetch.queue.map fun o => o.number) = (s.fetch.queue.map fun o => o.number) ∧
        (t.filing.table.map fun l => l.number) = (s.filing.table.map fun l => l.number) ∧
        ((s.drives[d]).state = .writing → exec (.writeRunCompletion d) s = .next t) ∧
        ((s.drives[d]).state = .verifying → ∀ readBack, exec (.verifyRunCompletion d readBack) s = .next t) ∧
        exec (.writeMediaError d) s = .next t) ∧
    ((∀ u, (s.drives[d]).run = some u → u.mark ≠ .stopped) → exec (.stopCompletion d) s = .next s)

/-- A drive fault puts the drive in FAULT with its timers, marks, run and reservation cleared, fails the orders of its work list and
those WAITING for the cartridge it traps, clears the active filing side on it and queues DRIVE_FAULT. A live write or verify run it ends
is a failed attempt that leaves the side's record: the lodgement's extent there is discarded, and after the first attempt it stays in
hand, STAGED or writing again on another side, after the second it fails with reason DRIVE and returns its reservation (R145 to
R147). A picker fault drops every task, clears every reservation and release, fails every WAITING order and queues PICKER_FAULT (R59,
R76, R81, R119). Neither acts in UNFORMATTED, and a picker in FAULT faults no second time: these are the model's choices
(notes/assumptions/16.md), as is the side code of a notice whose side is not known (notes/assumptions/18.md). -/
def Obligations.FaultsClearTheMechanics : Prop :=
  ∀ s : State,
    (∀ d : DriveNo,
      (s.condition = .unformatted ∨ (s.drives[d]).state = .fault → exec (.driveFault d) s = .next s) ∧
      (s.condition = .ready → (s.drives[d]).state ≠ .fault →
        ∃ t, exec (.driveFault d) s = .next (arbitrate t) ∧ t.link.port = s.link.port ∧ t.desk = { s.desk with dir := t.dir } ∧
          t.dir = { s.dir with reserved := t.dir.reserved } ∧ (t.drives[d]).state = .fault ∧
          (t.drives[d]).hold = none ∧ (t.drives[d]).linger = none ∧ (t.drives[d]).releasePending = false ∧
          (t.drives[d]).pin = false ∧ (t.drives[d]).run = none ∧ (t.drives[d]).reserved = none ∧
          (t.drives[d]).mounted = (s.drives[d]).mounted ∧
          (∀ o ∈ t.fetch.queue, Work.order o.number ∉ (s.drives[d]).work) ∧
          (s.lib.carts.find? (fun x => decide (x.place = .drive d)) = none →
            t.noted (.driveFault (d.val + 1) 0 .A (s.drives[d]).state)) ∧
          ∀ c, s.lib.carts.find? (fun x => decide (x.place = .drive d)) = some c → s.cart? c.number = some c →
            (∀ x, t.lib.active = some x → x.cart ≠ c.number) ∧
            (∀ o ∈ t.fetch.queue, o.loc.cart = c.number → o.state ≠ .waiting) ∧
            (∀ side : Side, (∀ sd, (s.drives[d]).mounted = some sd → sd.cart = c.number → side = sd.side) →
              ((∀ sd, (s.drives[d]).mounted = some sd → sd.cart ≠ c.number) → side = .A) →
              t.noted (.driveFault (d.val + 1) c.number side (s.drives[d]).state)) ∧
            ∀ (u : Run) (l : Lodgement) (e : Location), (s.drives[d]).run = some u → (u.kind = .write ∨ u.kind = .verify) →
              u.mark = .live → s.lodgement? u.owner = some l → s.filing.hand = some (l.number, .run) →
              l.extent = some e → e.cart = c.number →
              (∀ side : Side, t.side? ⟨e.cart, side⟩ = s.side? ⟨e.cart, side⟩) ∧
              (l.attempts < 2 → t.dir.reserved = s.dir.reserved ∧
                (t.filing.table.map fun m => m.number) = (s.filing.table.map fun m => m.number) ∧
                (∃ step, t.filing.hand = some (l.number, step)) ∧
                ∃ m, t.lodgement? l.number = some m ∧ (∀ x, m.extent = some x → x.cart ≠ e.cart) ∧
                  (m.state = .staged ∧ m.attempts = l.attempts ∨ m.state = .writing ∧ m.attempts = l.attempts + 1)) ∧
              (2 ≤ l.attempts → t.dir.reserved = s.dir.reserved - (if l.kind.adds.isSome then 1 else 0) ∧
                t.filing.table.map (fun m => m.number) =
                  (s.filing.table.map fun m => m.number).filter (fun m => m ≠ l.number) ∧
                (∀ x ∈ (t.rings[filingRing]).entries, x.owner = l.number → x.live = true → x.streaming = true) ∧
                (∀ step, t.filing.hand ≠ some (l.number, step)) ∧
                t.noted (.lodgementFailed l.number l.title .drive)))) ∧
    (s.condition = .unformatted ∨ s.picker.state = .fault → exec .pickerFault s = .next s) ∧
    (s.condition = .ready → s.picker.state ≠ .fault →
      ∃ t, exec .pickerFault s = .next (arbitrate t) ∧ t.desk = s.desk ∧ t.link.port = s.link.port ∧ t.picker.state = .fault ∧
        t.picker.queue = [] ∧ t.picker.active = none ∧ t.picker.starts = s.picker.starts ∧
        (∀ d : DriveNo, (t.drives[d]).reserved = none ∧ (t.drives[d]).releasePending = false) ∧
        (∀ o ∈ t.fetch.queue, o.state ≠ .waiting) ∧
        t.noted (.pickerFault (s.picker.active.map fun a => a.task.kind)
          ((s.picker.active.bind fun a => a.task.cart).getD 0)))

/-- The expiries of the mechanics' timers (R67, R69, R74): hold's ends the hold and issues a pending release's spin-down, linger's asks
for the release, and the reopening of the load window lets the picker choose, so that a LOAD which waited for the window begins. The
expiry of a timer that does not run changes nothing, and at an expiry the time base reads at least its time, which are the model's
choices (notes/assumptions/5.md). -/
def Obligations.MechanicsTimersExpire : Prop :=
  ∀ s : State,
    (∀ d : DriveNo,
      ((s.drives[d]).hold = none → exec (.holdExpiry d) s = .next s) ∧
      (∀ x, (s.drives[d]).hold = some x →
        ((s.drives[d]).state = .idle → (s.drives[d]).releasePending = true →
          exec (.holdExpiry d) s = .next { s with
            now := max s.now x
            drives := s.drives.set d.val { s.drives[d] with
              hold := none, releasePending := false, linger := none, state := .spindown } d.isLt }) ∧
        ((s.drives[d]).state ≠ .idle ∨ (s.drives[d]).releasePending = false →
          exec (.holdExpiry d) s = .next { s with
            now := max s.now x
            drives := s.drives.set d.val { s.drives[d] with hold := none } d.isLt })) ∧
      ((s.drives[d]).linger = none → exec (.lingerExpiry d) s = .next s) ∧
      ∀ x, (s.drives[d]).linger = some x → (s.drives[d]).state = .idle → (s.drives[d]).releasePending = false →
        s.picker.state ≠ .fault → exec (.lingerExpiry d) s = .next { s with
          now := max s.now x
          drives := s.drives.set d.val (if (s.drives[d]).hold = none
            then { s.drives[d] with linger := none, state := .spindown }
            else { s.drives[d] with linger := none, releasePending := true }) d.isLt }) ∧
    (s.picker.reopening = none → exec .reopeningExpiry s = .next s) ∧
    ∀ x, s.picker.reopening = some x → ∃ t, exec .reopeningExpiry s = .next t ∧
      t.desk = { s.desk with now := max s.now x } ∧ t.link = s.link ∧ t.fetch = s.fetch ∧ t.filing = s.filing ∧
      t.rings = s.rings ∧
      (∀ (c : Cartridge) (side : Side) (d : DriveNo) (n : Nat), s.picker.state = .idle → s.mechReset = false →
        s.picker.queue = [⟨.load, some c.number, side, some d⟩] → s.cart? c.number = some c → c.home = some n →
        c.place = .slot n → (∀ r ∈ s.lib.carts, r.place ≠ .picker) → (s.drives[d]).state = .empty →
        (s.drives[d]).reserved = some ⟨c.number, side⟩ →
        (s.picker.starts.filter fun y => max s.now x - y < s.window).length < 4 →
        t.picker.state = .busy ∧ t.picker.queue = [] ∧ (t.drives[d]).state = .loading ∧
          t.picker.starts.getLast? = some (max s.now x) ∧
          t.picker.active = some { task := ⟨.load, some c.number, side, some d⟩, picked := false,
                                   source := some (.slot n), target := .drive d, waiting := false,
                                   wasMounted := (s.drives[d]).mounted }) ∧
      ((∀ k ∈ s.picker.queue, k.kind ≠ .load) → t.picker.starts = s.picker.starts ∧
        (4 ≤ (s.picker.starts.filter fun y => max s.now x - y < s.window).length ↔ t.picker.reopening.isSome = true))

-- Counter line --------------------------------------------------------------------------------------------------

/-- A POST that completes takes its item from the head of the queue and zeroes the failure count; one that is not acknowledged leaves
the item and raises the count, and at 3 a PRESENT counter becomes ABSENT with its notice (R176, R179, R180). That one whose queue FORMAT
has emptied meanwhile takes no item is the model's reading (notes/assumptions/13.md). -/
def Obligations.PostEndsTakeOrKeepTheItem : Prop :=
  ∀ (n : CounterNo) (item : PostItem) (orphan : Bool) (p r : Nat) (s : State),
    s.line.trans = some (.post n item orphan p r) → s.line.clockHeld = false →
    (∃ t, exec (.post .completed) s = .next (arbitrate t) ∧ t = { s with line := t.line } ∧
      (t.line.counters[n]).posts = (if orphan then (s.line.counters[n]).posts else (s.line.counters[n]).posts.drop 1) ∧
      (t.line.counters[n]).failures = 0 ∧ (t.line.counters[n]).present = (s.line.counters[n]).present ∧
      ∀ m : CounterNo, m ≠ n → (t.line.counters[m]).posts = (s.line.counters[m]).posts ∧
        (t.line.counters[m]).failures = (s.line.counters[m]).failures) ∧
    ∀ k : Nat, ∃ t, exec (.post (.notAcknowledged k)) s = .next (arbitrate t) ∧ t.desk = { s.desk with line := t.line } ∧
      t.link.port = s.link.port ∧ (t.line.counters[n]).posts = (s.line.counters[n]).posts ∧
      (t.line.counters[n]).failures = min 3 ((s.line.counters[n]).failures + 1) ∧
      (t.line.counters[n]).present = ((s.line.counters[n]).present && decide ((s.line.counters[n]).failures < 2)) ∧
      ((s.line.counters[n]).present = true → 2 ≤ (s.line.counters[n]).failures → t.noted (.counterAbsent (n.val + 1))) ∧
      ((s.line.counters[n]).present = false ∨ (s.line.counters[n]).failures < 2 → t.link = s.link) ∧
      ∀ m : CounterNo, m ≠ n → (t.line.counters[m]).posts = (s.line.counters[m]).posts

/-- A POLL that collects a settlement, the byte 1 and an amount of four bytes with the most significant first, applies it to the
counter's account, each figure held at its limit with the clamp flag set, queues COUNTER_SETTLED and offers a refresh item, merged into
the last of a full queue (R168, R180); the byte 0 brings none. Any POLL whose address is acknowledged
makes its counter PRESENT, and one that fails, by an acknowledgement missed or by any other reply, counts (R177, R179, R181, R199). -/
def Obligations.PollCollectsTheSettlement : Prop :=
  ∀ (n : CounterNo) (acked : Bool) (p r : Nat) (s : State),
    s.line.trans = some (.poll n acked p r) → s.line.clockHeld = false →
    (∀ (b0 b1 b2 b3 : Byte) (x : Nat) (pending : Int) (a : Fin 13), a.val = n.val + 1 →
      x = min 999999999 (b0.toNat * 16777216 + b1.toNat * 65536 + b2.toNat * 256 + b3.toNat) →
      pending = max (-999999999) (min 999999999 ((s.fees.accounts[a]).pending - x)) →
      ∃ t, exec (.poll (.reply [1, b0, b1, b2, b3])) s = .next (arbitrate t) ∧
        t.desk = { s.desk with line := t.line, fees := t.fees } ∧ t.link.port = s.link.port ∧
        t.fees = { s.fees with accounts := s.fees.accounts.set a.val { s.fees.accounts[a] with
          pending := pending
          settled := min 999999999 ((s.fees.accounts[a]).settled + x)
          clamp := (s.fees.accounts[a]).clamp ||
            decide (999999999 < b0.toNat * 16777216 + b1.toNat * 65536 + b2.toNat * 256 + b3.toNat) ||
            decide (pending ≠ (s.fees.accounts[a]).pending - x) ||
            decide (999999999 < (s.fees.accounts[a]).settled + x) } a.isLt } ∧
        t.noted (.counterSettled (n.val + 1) x pending) ∧ (t.line.counters[n]).present = true ∧
        (t.line.counters[n]).failures = 0 ∧
        ((s.line.counters[n]).posts.length < 4 → (t.line.counters[n]).posts =
          (s.line.counters[n]).posts ++ [{ order := 0, fee := 0, pending := pending }]) ∧
        ∀ (first : List PostItem) (last : PostItem), (s.line.counters[n]).posts = first ++ [last] → 3 ≤ first.length →
          (t.line.counters[n]).posts = first ++ [{ order := 0, fee := min 16777215 last.fee, pending := pending }]) ∧
    (∃ t, exec (.poll (.reply [0])) s = .next (arbitrate t) ∧ t = { s with line := t.line } ∧
      (t.line.counters[n]).present = true ∧ (t.line.counters[n]).failures = 0) ∧
    (∃ t, exec (.poll .addressNotAcknowledged) s = .next (arbitrate t) ∧ t.desk = { s.desk with line := t.line } ∧
      t.link.port = s.link.port ∧ (t.line.counters[n]).failures = min 3 ((s.line.counters[n]).failures + 1) ∧
      (t.line.counters[n]).present = ((s.line.counters[n]).present && decide ((s.line.counters[n]).failures < 2))) ∧
    ∀ ending : PollEnd,
      (ending = .commandNotAcknowledged ∨ ∃ bytes, ending = .reply bytes ∧ bytes ≠ [0] ∧
        ∀ b0 b1 b2 b3 : Byte, bytes ≠ [1, b0, b1, b2, b3]) →
      ∃ t, exec (.poll ending) s = .next (arbitrate t) ∧ t.desk = { s.desk with line := t.line } ∧ t.link.port = s.link.port ∧
        ((s.line.counters[n]).present = false → t.link = s.link ∧ (t.line.counters[n]).present = true ∧
          (t.line.counters[n]).failures = 1) ∧
        ((s.line.counters[n]).present = true →
          (t.line.counters[n]).failures = min 3 ((s.line.counters[n]).failures + 1) ∧
          (t.line.counters[n]).present = decide ((s.line.counters[n]).failures < 2) ∧
          (2 ≤ (s.line.counters[n]).failures → t.noted (.counterAbsent (n.val + 1))))

/-- The poll interval's expiry marks every counter due, restarts the timer and lets an idle line choose: a post before a poll, the
counters after the last one served first (R175). That the expiry of a stopped poll timer changes nothing, and that the time base reads
at least the expiry time at an expiry, are the model's choices (notes/assumptions/5.md). -/
def Obligations.PollIntervalMarksEveryCounterDue : Prop :=
  ∀ s : State,
    (s.line.poll = none → exec .pollIntervalExpiry s = .next s) ∧
    ∀ x, s.line.poll = some x → ∃ t, exec .pollIntervalExpiry s = .next t ∧
      t = { s with now := max s.now x, line := t.line } ∧
      t.line.poll = some (max s.now x + s.cfg.timing.poll.count * 4 ^ s.cfg.timing.poll.base) ∧
      (∀ n : CounterNo, (t.line.counters[n]).due = true ∨
        t.line.trans = some (.poll n false s.cfg.addrPrefix s.cfg.rate)) ∧
      (s.line.trans ≠ none ∨ s.line.clockHeld = true ∨ s.condition = .unformatted →
        t.line.trans = s.line.trans) ∧
      (s.line.trans = none → s.line.clockHeld = false → s.condition = .ready →
        (∀ (n : CounterNo) (item : PostItem) (rest : List PostItem), s.line.lastServed ≤ 12 →
          (s.line.counters[n]).present = true → (s.line.counters[n]).posts = item :: rest →
          (∀ m : CounterNo, (m.val + 12 - s.line.lastServed) % 12 < (n.val + 12 - s.line.lastServed) % 12 →
            (s.line.counters[m]).present = false ∨ (s.line.counters[m]).posts = []) →
          t.line.trans = some (.post n item false s.cfg.addrPrefix s.cfg.rate) ∧ t.line.lastServed = n.val + 1) ∧
        ((∀ n : CounterNo, (s.line.counters[n]).present = false ∨ (s.line.counters[n]).posts = []) →
          t.line.trans = some (.poll 0 false s.cfg.addrPrefix s.cfg.rate)))

/-- The clock line (R178, R179): a clock held low bars every transaction, at every command but its release, after 25 ms of it the
transaction in progress fails with its stop owed, its release sends the stop and the controller chooses as it does between transactions
(R175); a POLL's acknowledged address makes an ABSENT counter PRESENT. That a full reset leaves the clock line as a cash unit holds it, so
that the bar stands at FULL_RESET too and no refresh POST begins there, is the model's reading, for R178 and R182 do not say what a full
reset does to the clock line (notes/assumptions/26.md). That a timeout with no transaction changes nothing (notes/assumptions/27.md), nor
one with the clock not held, nor an acknowledged address with no POLL (notes/assumptions/3.md), are the model's choices. -/
def Obligations.ClockAndAddressEvents : Prop :=
  ∀ s : State,
    exec .clockHeldLow s = .next { s with line := { s.line with clockHeld := true } } ∧
    (s.line.clockHeld = true → s.line.trans = none → ∀ i : Instr, i ≠ .clockRelease →
      ∃ t, exec i s = .next t ∧ t.line.trans = none ∧ t.line.clockHeld = true) ∧
    (s.line.trans = none ∨ s.line.clockHeld = false → exec .clockStretchTimeout s = .next s) ∧
    (∀ x : Transaction, s.line.trans = some x → s.line.clockHeld = true →
      ∃ t, exec .clockStretchTimeout s = .next (arbitrate t) ∧ t.desk = { s.desk with line := t.line } ∧
        t.link.port = s.link.port ∧ t.line.trans = none ∧ t.line.stopOwed = true ∧ t.line.clockHeld = true ∧
        (t.line.counters[x.counter]).failures = min 3 ((s.line.counters[x.counter]).failures + 1) ∧
        (t.line.counters[x.counter]).posts = (s.line.counters[x.counter]).posts) ∧
    (∃ t, exec .clockRelease s = .next t ∧ t = { s with line := t.line } ∧ t.line.clockHeld = false ∧
      t.line.stopOwed = false ∧ (s.line.trans ≠ none → t.line.trans = s.line.trans) ∧
      (s.condition = .unformatted → t.line.trans = s.line.trans) ∧
      (s.line.trans = none → s.condition = .ready →
        (∀ (n : CounterNo) (item : PostItem) (rest : List PostItem), s.line.lastServed ≤ 12 →
          (s.line.counters[n]).present = true → (s.line.counters[n]).posts = item :: rest →
          (∀ m : CounterNo, (m.val + 12 - s.line.lastServed) % 12 < (n.val + 12 - s.line.lastServed) % 12 →
            (s.line.counters[m]).present = false ∨ (s.line.counters[m]).posts = []) →
          t.line.trans = some (.post n item false s.cfg.addrPrefix s.cfg.rate) ∧ t.line.lastServed = n.val + 1) ∧
        ((∀ n : CounterNo, (s.line.counters[n]).present = false ∨ (s.line.counters[n]).posts = []) →
          (∀ n : CounterNo, (s.line.counters[n]).due = true → (∀ m : CounterNo, m < n → (s.line.counters[m]).due = false) →
            t.line.trans = some (.poll n false s.cfg.addrPrefix s.cfg.rate) ∧ (t.line.counters[n]).due = false) ∧
          ((∀ n : CounterNo, (s.line.counters[n]).due = false) → t.line.trans = none))) ∧
      ∀ n : CounterNo, (t.line.counters[n]).posts = (s.line.counters[n]).posts ∧
        (t.line.counters[n]).present = (s.line.counters[n]).present) ∧
    (∀ (n : CounterNo) (acked : Bool) (p r : Nat), s.line.trans = some (.poll n acked p r) →
      exec .pollAddressAcknowledged s = .next { s with line := { s.line with
        trans := some (.poll n true p r)
        counters := s.line.counters.set n.val (if (s.line.counters[n]).present then s.line.counters[n]
          else { s.line.counters[n] with present := true, failures := 0 }) n.isLt } }) ∧
    ((∀ n acked p r, s.line.trans ≠ some (.poll n acked p r)) → exec .pollAddressAcknowledged s = .next s)
end

