-- ==== Sys2Proof/Laws/State.lean ====
section
/-!
SUPPORT. Each update of the state, field by field: what the field it names becomes, and that every other field stands. All are
true by unfolding the one update.
-/
namespace Sys2Proof.Machine

variable (s : State)

-- State.modDir
@[simp] theorem State.modDir_pending (f : Directory → Directory) : (s.modDir f).pending = s.pending := rfl
@[simp] theorem State.modDir_now (f : Directory → Directory) : (s.modDir f).now = s.now := rfl
@[simp] theorem State.modDir_condition (f : Directory → Directory) : (s.modDir f).condition = s.condition := rfl
@[simp] theorem State.modDir_formatMark (f : Directory → Directory) : (s.modDir f).formatMark = s.formatMark := rfl
@[simp] theorem State.modDir_resetHeld (f : Directory → Directory) : (s.modDir f).resetHeld = s.resetHeld := rfl
@[simp] theorem State.modDir_mechReset (f : Directory → Directory) : (s.modDir f).mechReset = s.mechReset := rfl
@[simp] theorem State.modDir_dir (f : Directory → Directory) : (s.modDir f).dir = f s.dir := rfl
@[simp] theorem State.modDir_lib (f : Directory → Directory) : (s.modDir f).lib = s.lib := rfl
@[simp] theorem State.modDir_drives (f : Directory → Directory) : (s.modDir f).drives = s.drives := rfl
@[simp] theorem State.modDir_picker (f : Directory → Directory) : (s.modDir f).picker = s.picker := rfl
@[simp] theorem State.modDir_rings (f : Directory → Directory) : (s.modDir f).rings = s.rings := rfl
@[simp] theorem State.modDir_staging (f : Directory → Directory) : (s.modDir f).staging = s.staging := rfl
@[simp] theorem State.modDir_fetch (f : Directory → Directory) : (s.modDir f).fetch = s.fetch := rfl
@[simp] theorem State.modDir_filing (f : Directory → Directory) : (s.modDir f).filing = s.filing := rfl
@[simp] theorem State.modDir_fees (f : Directory → Directory) : (s.modDir f).fees = s.fees := rfl
@[simp] theorem State.modDir_line (f : Directory → Directory) : (s.modDir f).line = s.line := rfl
@[simp] theorem State.modDir_link (f : Directory → Directory) : (s.modDir f).link = s.link := rfl
@[simp] theorem State.modDir_cfg (f : Directory → Directory) : (s.modDir f).cfg = s.cfg := rfl

-- State.modLib
@[simp] theorem State.modLib_pending (f : Library → Library) : (s.modLib f).pending = s.pending := rfl
@[simp] theorem State.modLib_now (f : Library → Library) : (s.modLib f).now = s.now := rfl
@[simp] theorem State.modLib_condition (f : Library → Library) : (s.modLib f).condition = s.condition := rfl
@[simp] theorem State.modLib_formatMark (f : Library → Library) : (s.modLib f).formatMark = s.formatMark := rfl
@[simp] theorem State.modLib_resetHeld (f : Library → Library) : (s.modLib f).resetHeld = s.resetHeld := rfl
@[simp] theorem State.modLib_mechReset (f : Library → Library) : (s.modLib f).mechReset = s.mechReset := rfl
@[simp] theorem State.modLib_dir (f : Library → Library) : (s.modLib f).dir = s.dir := rfl
@[simp] theorem State.modLib_lib (f : Library → Library) : (s.modLib f).lib = f s.lib := rfl
@[simp] theorem State.modLib_drives (f : Library → Library) : (s.modLib f).drives = s.drives := rfl
@[simp] theorem State.modLib_picker (f : Library → Library) : (s.modLib f).picker = s.picker := rfl
@[simp] theorem State.modLib_rings (f : Library → Library) : (s.modLib f).rings = s.rings := rfl
@[simp] theorem State.modLib_staging (f : Library → Library) : (s.modLib f).staging = s.staging := rfl
@[simp] theorem State.modLib_fetch (f : Library → Library) : (s.modLib f).fetch = s.fetch := rfl
@[simp] theorem State.modLib_filing (f : Library → Library) : (s.modLib f).filing = s.filing := rfl
@[simp] theorem State.modLib_fees (f : Library → Library) : (s.modLib f).fees = s.fees := rfl
@[simp] theorem State.modLib_line (f : Library → Library) : (s.modLib f).line = s.line := rfl
@[simp] theorem State.modLib_link (f : Library → Library) : (s.modLib f).link = s.link := rfl
@[simp] theorem State.modLib_cfg (f : Library → Library) : (s.modLib f).cfg = s.cfg := rfl
@[simp] theorem State.modLib_desk (f : Library → Library) : (s.modLib f).desk = s.desk := rfl

-- State.modPicker
@[simp] theorem State.modPicker_pending (f : Picker → Picker) : (s.modPicker f).pending = s.pending := rfl
@[simp] theorem State.modPicker_now (f : Picker → Picker) : (s.modPicker f).now = s.now := rfl
@[simp] theorem State.modPicker_condition (f : Picker → Picker) : (s.modPicker f).condition = s.condition := rfl
@[simp] theorem State.modPicker_formatMark (f : Picker → Picker) : (s.modPicker f).formatMark = s.formatMark := rfl
@[simp] theorem State.modPicker_resetHeld (f : Picker → Picker) : (s.modPicker f).resetHeld = s.resetHeld := rfl
@[simp] theorem State.modPicker_mechReset (f : Picker → Picker) : (s.modPicker f).mechReset = s.mechReset := rfl
@[simp] theorem State.modPicker_dir (f : Picker → Picker) : (s.modPicker f).dir = s.dir := rfl
@[simp] theorem State.modPicker_lib (f : Picker → Picker) : (s.modPicker f).lib = s.lib := rfl
@[simp] theorem State.modPicker_drives (f : Picker → Picker) : (s.modPicker f).drives = s.drives := rfl
@[simp] theorem State.modPicker_picker (f : Picker → Picker) : (s.modPicker f).picker = f s.picker := rfl
@[simp] theorem State.modPicker_rings (f : Picker → Picker) : (s.modPicker f).rings = s.rings := rfl
@[simp] theorem State.modPicker_staging (f : Picker → Picker) : (s.modPicker f).staging = s.staging := rfl
@[simp] theorem State.modPicker_fetch (f : Picker → Picker) : (s.modPicker f).fetch = s.fetch := rfl
@[simp] theorem State.modPicker_filing (f : Picker → Picker) : (s.modPicker f).filing = s.filing := rfl
@[simp] theorem State.modPicker_fees (f : Picker → Picker) : (s.modPicker f).fees = s.fees := rfl
@[simp] theorem State.modPicker_line (f : Picker → Picker) : (s.modPicker f).line = s.line := rfl
@[simp] theorem State.modPicker_link (f : Picker → Picker) : (s.modPicker f).link = s.link := rfl
@[simp] theorem State.modPicker_cfg (f : Picker → Picker) : (s.modPicker f).cfg = s.cfg := rfl
@[simp] theorem State.modPicker_desk (f : Picker → Picker) : (s.modPicker f).desk = s.desk := rfl

-- State.modFetch
@[simp] theorem State.modFetch_pending (f : Fetch → Fetch) : (s.modFetch f).pending = s.pending := rfl
@[simp] theorem State.modFetch_now (f : Fetch → Fetch) : (s.modFetch f).now = s.now := rfl
@[simp] theorem State.modFetch_condition (f : Fetch → Fetch) : (s.modFetch f).condition = s.condition := rfl
@[simp] theorem State.modFetch_formatMark (f : Fetch → Fetch) : (s.modFetch f).formatMark = s.formatMark := rfl
@[simp] theorem State.modFetch_resetHeld (f : Fetch → Fetch) : (s.modFetch f).resetHeld = s.resetHeld := rfl
@[simp] theorem State.modFetch_mechReset (f : Fetch → Fetch) : (s.modFetch f).mechReset = s.mechReset := rfl
@[simp] theorem State.modFetch_dir (f : Fetch → Fetch) : (s.modFetch f).dir = s.dir := rfl
@[simp] theorem State.modFetch_lib (f : Fetch → Fetch) : (s.modFetch f).lib = s.lib := rfl
@[simp] theorem State.modFetch_drives (f : Fetch → Fetch) : (s.modFetch f).drives = s.drives := rfl
@[simp] theorem State.modFetch_picker (f : Fetch → Fetch) : (s.modFetch f).picker = s.picker := rfl
@[simp] theorem State.modFetch_rings (f : Fetch → Fetch) : (s.modFetch f).rings = s.rings := rfl
@[simp] theorem State.modFetch_staging (f : Fetch → Fetch) : (s.modFetch f).staging = s.staging := rfl
@[simp] theorem State.modFetch_fetch (f : Fetch → Fetch) : (s.modFetch f).fetch = f s.fetch := rfl
@[simp] theorem State.modFetch_filing (f : Fetch → Fetch) : (s.modFetch f).filing = s.filing := rfl
@[simp] theorem State.modFetch_fees (f : Fetch → Fetch) : (s.modFetch f).fees = s.fees := rfl
@[simp] theorem State.modFetch_line (f : Fetch → Fetch) : (s.modFetch f).line = s.line := rfl
@[simp] theorem State.modFetch_link (f : Fetch → Fetch) : (s.modFetch f).link = s.link := rfl
@[simp] theorem State.modFetch_cfg (f : Fetch → Fetch) : (s.modFetch f).cfg = s.cfg := rfl
@[simp] theorem State.modFetch_desk (f : Fetch → Fetch) : (s.modFetch f).desk = s.desk := rfl

-- State.modFiling
@[simp] theorem State.modFiling_pending (f : Filing → Filing) : (s.modFiling f).pending = s.pending := rfl
@[simp] theorem State.modFiling_now (f : Filing → Filing) : (s.modFiling f).now = s.now := rfl
@[simp] theorem State.modFiling_condition (f : Filing → Filing) : (s.modFiling f).condition = s.condition := rfl
@[simp] theorem State.modFiling_formatMark (f : Filing → Filing) : (s.modFiling f).formatMark = s.formatMark := rfl
@[simp] theorem State.modFiling_resetHeld (f : Filing → Filing) : (s.modFiling f).resetHeld = s.resetHeld := rfl
@[simp] theorem State.modFiling_mechReset (f : Filing → Filing) : (s.modFiling f).mechReset = s.mechReset := rfl
@[simp] theorem State.modFiling_dir (f : Filing → Filing) : (s.modFiling f).dir = s.dir := rfl
@[simp] theorem State.modFiling_lib (f : Filing → Filing) : (s.modFiling f).lib = s.lib := rfl
@[simp] theorem State.modFiling_drives (f : Filing → Filing) : (s.modFiling f).drives = s.drives := rfl
@[simp] theorem State.modFiling_picker (f : Filing → Filing) : (s.modFiling f).picker = s.picker := rfl
@[simp] theorem State.modFiling_rings (f : Filing → Filing) : (s.modFiling f).rings = s.rings := rfl
@[simp] theorem State.modFiling_staging (f : Filing → Filing) : (s.modFiling f).staging = s.staging := rfl
@[simp] theorem State.modFiling_fetch (f : Filing → Filing) : (s.modFiling f).fetch = s.fetch := rfl
@[simp] theorem State.modFiling_filing (f : Filing → Filing) : (s.modFiling f).filing = f s.filing := rfl
@[simp] theorem State.modFiling_fees (f : Filing → Filing) : (s.modFiling f).fees = s.fees := rfl
@[simp] theorem State.modFiling_line (f : Filing → Filing) : (s.modFiling f).line = s.line := rfl
@[simp] theorem State.modFiling_link (f : Filing → Filing) : (s.modFiling f).link = s.link := rfl
@[simp] theorem State.modFiling_cfg (f : Filing → Filing) : (s.modFiling f).cfg = s.cfg := rfl
@[simp] theorem State.modFiling_desk (f : Filing → Filing) : (s.modFiling f).desk = s.desk := rfl

-- State.modFees
@[simp] theorem State.modFees_pending (f : Fees → Fees) : (s.modFees f).pending = s.pending := rfl
@[simp] theorem State.modFees_now (f : Fees → Fees) : (s.modFees f).now = s.now := rfl
@[simp] theorem State.modFees_condition (f : Fees → Fees) : (s.modFees f).condition = s.condition := rfl
@[simp] theorem State.modFees_formatMark (f : Fees → Fees) : (s.modFees f).formatMark = s.formatMark := rfl
@[simp] theorem State.modFees_resetHeld (f : Fees → Fees) : (s.modFees f).resetHeld = s.resetHeld := rfl
@[simp] theorem State.modFees_mechReset (f : Fees → Fees) : (s.modFees f).mechReset = s.mechReset := rfl
@[simp] theorem State.modFees_dir (f : Fees → Fees) : (s.modFees f).dir = s.dir := rfl
@[simp] theorem State.modFees_lib (f : Fees → Fees) : (s.modFees f).lib = s.lib := rfl
@[simp] theorem State.modFees_drives (f : Fees → Fees) : (s.modFees f).drives = s.drives := rfl
@[simp] theorem State.modFees_picker (f : Fees → Fees) : (s.modFees f).picker = s.picker := rfl
@[simp] theorem State.modFees_rings (f : Fees → Fees) : (s.modFees f).rings = s.rings := rfl
@[simp] theorem State.modFees_staging (f : Fees → Fees) : (s.modFees f).staging = s.staging := rfl
@[simp] theorem State.modFees_fetch (f : Fees → Fees) : (s.modFees f).fetch = s.fetch := rfl
@[simp] theorem State.modFees_filing (f : Fees → Fees) : (s.modFees f).filing = s.filing := rfl
@[simp] theorem State.modFees_fees (f : Fees → Fees) : (s.modFees f).fees = f s.fees := rfl
@[simp] theorem State.modFees_line (f : Fees → Fees) : (s.modFees f).line = s.line := rfl
@[simp] theorem State.modFees_link (f : Fees → Fees) : (s.modFees f).link = s.link := rfl
@[simp] theorem State.modFees_cfg (f : Fees → Fees) : (s.modFees f).cfg = s.cfg := rfl

-- State.modLine
@[simp] theorem State.modLine_pending (f : Line → Line) : (s.modLine f).pending = s.pending := rfl
@[simp] theorem State.modLine_now (f : Line → Line) : (s.modLine f).now = s.now := rfl
@[simp] theorem State.modLine_condition (f : Line → Line) : (s.modLine f).condition = s.condition := rfl
@[simp] theorem State.modLine_formatMark (f : Line → Line) : (s.modLine f).formatMark = s.formatMark := rfl
@[simp] theorem State.modLine_resetHeld (f : Line → Line) : (s.modLine f).resetHeld = s.resetHeld := rfl
@[simp] theorem State.modLine_mechReset (f : Line → Line) : (s.modLine f).mechReset = s.mechReset := rfl
@[simp] theorem State.modLine_dir (f : Line → Line) : (s.modLine f).dir = s.dir := rfl
@[simp] theorem State.modLine_lib (f : Line → Line) : (s.modLine f).lib = s.lib := rfl
@[simp] theorem State.modLine_drives (f : Line → Line) : (s.modLine f).drives = s.drives := rfl
@[simp] theorem State.modLine_picker (f : Line → Line) : (s.modLine f).picker = s.picker := rfl
@[simp] theorem State.modLine_rings (f : Line → Line) : (s.modLine f).rings = s.rings := rfl
@[simp] theorem State.modLine_staging (f : Line → Line) : (s.modLine f).staging = s.staging := rfl
@[simp] theorem State.modLine_fetch (f : Line → Line) : (s.modLine f).fetch = s.fetch := rfl
@[simp] theorem State.modLine_filing (f : Line → Line) : (s.modLine f).filing = s.filing := rfl
@[simp] theorem State.modLine_fees (f : Line → Line) : (s.modLine f).fees = s.fees := rfl
@[simp] theorem State.modLine_line (f : Line → Line) : (s.modLine f).line = f s.line := rfl
@[simp] theorem State.modLine_link (f : Line → Line) : (s.modLine f).link = s.link := rfl
@[simp] theorem State.modLine_cfg (f : Line → Line) : (s.modLine f).cfg = s.cfg := rfl

-- State.modLink
@[simp] theorem State.modLink_pending (f : Link → Link) : (s.modLink f).pending = s.pending := rfl
@[simp] theorem State.modLink_now (f : Link → Link) : (s.modLink f).now = s.now := rfl
@[simp] theorem State.modLink_condition (f : Link → Link) : (s.modLink f).condition = s.condition := rfl
@[simp] theorem State.modLink_formatMark (f : Link → Link) : (s.modLink f).formatMark = s.formatMark := rfl
@[simp] theorem State.modLink_resetHeld (f : Link → Link) : (s.modLink f).resetHeld = s.resetHeld := rfl
@[simp] theorem State.modLink_mechReset (f : Link → Link) : (s.modLink f).mechReset = s.mechReset := rfl
@[simp] theorem State.modLink_dir (f : Link → Link) : (s.modLink f).dir = s.dir := rfl
@[simp] theorem State.modLink_lib (f : Link → Link) : (s.modLink f).lib = s.lib := rfl
@[simp] theorem State.modLink_drives (f : Link → Link) : (s.modLink f).drives = s.drives := rfl
@[simp] theorem State.modLink_picker (f : Link → Link) : (s.modLink f).picker = s.picker := rfl
@[simp] theorem State.modLink_rings (f : Link → Link) : (s.modLink f).rings = s.rings := rfl
@[simp] theorem State.modLink_staging (f : Link → Link) : (s.modLink f).staging = s.staging := rfl
@[simp] theorem State.modLink_fetch (f : Link → Link) : (s.modLink f).fetch = s.fetch := rfl
@[simp] theorem State.modLink_filing (f : Link → Link) : (s.modLink f).filing = s.filing := rfl
@[simp] theorem State.modLink_fees (f : Link → Link) : (s.modLink f).fees = s.fees := rfl
@[simp] theorem State.modLink_line (f : Link → Link) : (s.modLink f).line = s.line := rfl
@[simp] theorem State.modLink_link (f : Link → Link) : (s.modLink f).link = f s.link := rfl
@[simp] theorem State.modLink_cfg (f : Link → Link) : (s.modLink f).cfg = s.cfg := rfl
@[simp] theorem State.modLink_desk (f : Link → Link) : (s.modLink f).desk = s.desk := rfl

-- State.modCfg
@[simp] theorem State.modCfg_pending (f : Settings → Settings) : (s.modCfg f).pending = s.pending := rfl
@[simp] theorem State.modCfg_now (f : Settings → Settings) : (s.modCfg f).now = s.now := rfl
@[simp] theorem State.modCfg_condition (f : Settings → Settings) : (s.modCfg f).condition = s.condition := rfl
@[simp] theorem State.modCfg_formatMark (f : Settings → Settings) : (s.modCfg f).formatMark = s.formatMark := rfl
@[simp] theorem State.modCfg_resetHeld (f : Settings → Settings) : (s.modCfg f).resetHeld = s.resetHeld := rfl
@[simp] theorem State.modCfg_mechReset (f : Settings → Settings) : (s.modCfg f).mechReset = s.mechReset := rfl
@[simp] theorem State.modCfg_dir (f : Settings → Settings) : (s.modCfg f).dir = s.dir := rfl
@[simp] theorem State.modCfg_lib (f : Settings → Settings) : (s.modCfg f).lib = s.lib := rfl
@[simp] theorem State.modCfg_drives (f : Settings → Settings) : (s.modCfg f).drives = s.drives := rfl
@[simp] theorem State.modCfg_picker (f : Settings → Settings) : (s.modCfg f).picker = s.picker := rfl
@[simp] theorem State.modCfg_rings (f : Settings → Settings) : (s.modCfg f).rings = s.rings := rfl
@[simp] theorem State.modCfg_staging (f : Settings → Settings) : (s.modCfg f).staging = s.staging := rfl
@[simp] theorem State.modCfg_fetch (f : Settings → Settings) : (s.modCfg f).fetch = s.fetch := rfl
@[simp] theorem State.modCfg_filing (f : Settings → Settings) : (s.modCfg f).filing = s.filing := rfl
@[simp] theorem State.modCfg_fees (f : Settings → Settings) : (s.modCfg f).fees = s.fees := rfl
@[simp] theorem State.modCfg_line (f : Settings → Settings) : (s.modCfg f).line = s.line := rfl
@[simp] theorem State.modCfg_link (f : Settings → Settings) : (s.modCfg f).link = s.link := rfl
@[simp] theorem State.modCfg_cfg (f : Settings → Settings) : (s.modCfg f).cfg = f s.cfg := rfl

-- State.modStaging
@[simp] theorem State.modStaging_pending (f : Memory → Memory) : (s.modStaging f).pending = s.pending := rfl
@[simp] theorem State.modStaging_now (f : Memory → Memory) : (s.modStaging f).now = s.now := rfl
@[simp] theorem State.modStaging_condition (f : Memory → Memory) : (s.modStaging f).condition = s.condition := rfl
@[simp] theorem State.modStaging_formatMark (f : Memory → Memory) : (s.modStaging f).formatMark = s.formatMark := rfl
@[simp] theorem State.modStaging_resetHeld (f : Memory → Memory) : (s.modStaging f).resetHeld = s.resetHeld := rfl
@[simp] theorem State.modStaging_mechReset (f : Memory → Memory) : (s.modStaging f).mechReset = s.mechReset := rfl
@[simp] theorem State.modStaging_dir (f : Memory → Memory) : (s.modStaging f).dir = s.dir := rfl
@[simp] theorem State.modStaging_lib (f : Memory → Memory) : (s.modStaging f).lib = s.lib := rfl
@[simp] theorem State.modStaging_drives (f : Memory → Memory) : (s.modStaging f).drives = s.drives := rfl
@[simp] theorem State.modStaging_picker (f : Memory → Memory) : (s.modStaging f).picker = s.picker := rfl
@[simp] theorem State.modStaging_rings (f : Memory → Memory) : (s.modStaging f).rings = s.rings := rfl
@[simp] theorem State.modStaging_staging (f : Memory → Memory) : (s.modStaging f).staging = f s.staging := rfl
@[simp] theorem State.modStaging_fetch (f : Memory → Memory) : (s.modStaging f).fetch = s.fetch := rfl
@[simp] theorem State.modStaging_filing (f : Memory → Memory) : (s.modStaging f).filing = s.filing := rfl
@[simp] theorem State.modStaging_fees (f : Memory → Memory) : (s.modStaging f).fees = s.fees := rfl
@[simp] theorem State.modStaging_line (f : Memory → Memory) : (s.modStaging f).line = s.line := rfl
@[simp] theorem State.modStaging_link (f : Memory → Memory) : (s.modStaging f).link = s.link := rfl
@[simp] theorem State.modStaging_cfg (f : Memory → Memory) : (s.modStaging f).cfg = s.cfg := rfl

-- State.modRings
@[simp] theorem State.modRings_pending (f : Vector PageRing 7 → Vector PageRing 7) : (s.modRings f).pending = s.pending := rfl
@[simp] theorem State.modRings_now (f : Vector PageRing 7 → Vector PageRing 7) : (s.modRings f).now = s.now := rfl
@[simp] theorem State.modRings_condition (f : Vector PageRing 7 → Vector PageRing 7) : (s.modRings f).condition = s.condition := rfl
@[simp] theorem State.modRings_formatMark (f : Vector PageRing 7 → Vector PageRing 7) : (s.modRings f).formatMark = s.formatMark := rfl
@[simp] theorem State.modRings_resetHeld (f : Vector PageRing 7 → Vector PageRing 7) : (s.modRings f).resetHeld = s.resetHeld := rfl
@[simp] theorem State.modRings_mechReset (f : Vector PageRing 7 → Vector PageRing 7) : (s.modRings f).mechReset = s.mechReset := rfl
@[simp] theorem State.modRings_dir (f : Vector PageRing 7 → Vector PageRing 7) : (s.modRings f).dir = s.dir := rfl
@[simp] theorem State.modRings_lib (f : Vector PageRing 7 → Vector PageRing 7) : (s.modRings f).lib = s.lib := rfl
@[simp] theorem State.modRings_drives (f : Vector PageRing 7 → Vector PageRing 7) : (s.modRings f).drives = s.drives := rfl
@[simp] theorem State.modRings_picker (f : Vector PageRing 7 → Vector PageRing 7) : (s.modRings f).picker = s.picker := rfl
@[simp] theorem State.modRings_rings (f : Vector PageRing 7 → Vector PageRing 7) : (s.modRings f).rings = f s.rings := rfl
@[simp] theorem State.modRings_staging (f : Vector PageRing 7 → Vector PageRing 7) : (s.modRings f).staging = s.staging := rfl
@[simp] theorem State.modRings_fetch (f : Vector PageRing 7 → Vector PageRing 7) : (s.modRings f).fetch = s.fetch := rfl
@[simp] theorem State.modRings_filing (f : Vector PageRing 7 → Vector PageRing 7) : (s.modRings f).filing = s.filing := rfl
@[simp] theorem State.modRings_fees (f : Vector PageRing 7 → Vector PageRing 7) : (s.modRings f).fees = s.fees := rfl
@[simp] theorem State.modRings_line (f : Vector PageRing 7 → Vector PageRing 7) : (s.modRings f).line = s.line := rfl
@[simp] theorem State.modRings_link (f : Vector PageRing 7 → Vector PageRing 7) : (s.modRings f).link = s.link := rfl
@[simp] theorem State.modRings_cfg (f : Vector PageRing 7 → Vector PageRing 7) : (s.modRings f).cfg = s.cfg := rfl
@[simp] theorem State.modRings_desk (f : Vector PageRing 7 → Vector PageRing 7) : (s.modRings f).desk = s.desk := rfl

-- State.modDrives
@[simp] theorem State.modDrives_pending (f : Vector Drive 6 → Vector Drive 6) : (s.modDrives f).pending = s.pending := rfl
@[simp] theorem State.modDrives_now (f : Vector Drive 6 → Vector Drive 6) : (s.modDrives f).now = s.now := rfl
@[simp] theorem State.modDrives_condition (f : Vector Drive 6 → Vector Drive 6) : (s.modDrives f).condition = s.condition := rfl
@[simp] theorem State.modDrives_formatMark (f : Vector Drive 6 → Vector Drive 6) : (s.modDrives f).formatMark = s.formatMark := rfl
@[simp] theorem State.modDrives_resetHeld (f : Vector Drive 6 → Vector Drive 6) : (s.modDrives f).resetHeld = s.resetHeld := rfl
@[simp] theorem State.modDrives_mechReset (f : Vector Drive 6 → Vector Drive 6) : (s.modDrives f).mechReset = s.mechReset := rfl
@[simp] theorem State.modDrives_dir (f : Vector Drive 6 → Vector Drive 6) : (s.modDrives f).dir = s.dir := rfl
@[simp] theorem State.modDrives_lib (f : Vector Drive 6 → Vector Drive 6) : (s.modDrives f).lib = s.lib := rfl
@[simp] theorem State.modDrives_drives (f : Vector Drive 6 → Vector Drive 6) : (s.modDrives f).drives = f s.drives := rfl
@[simp] theorem State.modDrives_picker (f : Vector Drive 6 → Vector Drive 6) : (s.modDrives f).picker = s.picker := rfl
@[simp] theorem State.modDrives_rings (f : Vector Drive 6 → Vector Drive 6) : (s.modDrives f).rings = s.rings := rfl
@[simp] theorem State.modDrives_staging (f : Vector Drive 6 → Vector Drive 6) : (s.modDrives f).staging = s.staging := rfl
@[simp] theorem State.modDrives_fetch (f : Vector Drive 6 → Vector Drive 6) : (s.modDrives f).fetch = s.fetch := rfl
@[simp] theorem State.modDrives_filing (f : Vector Drive 6 → Vector Drive 6) : (s.modDrives f).filing = s.filing := rfl
@[simp] theorem State.modDrives_fees (f : Vector Drive 6 → Vector Drive 6) : (s.modDrives f).fees = s.fees := rfl
@[simp] theorem State.modDrives_line (f : Vector Drive 6 → Vector Drive 6) : (s.modDrives f).line = s.line := rfl
@[simp] theorem State.modDrives_link (f : Vector Drive 6 → Vector Drive 6) : (s.modDrives f).link = s.link := rfl
@[simp] theorem State.modDrives_cfg (f : Vector Drive 6 → Vector Drive 6) : (s.modDrives f).cfg = s.cfg := rfl
@[simp] theorem State.modDrives_desk (f : Vector Drive 6 → Vector Drive 6) : (s.modDrives f).desk = s.desk := rfl

-- State.modDrive
@[simp] theorem State.modDrive_pending (d : DriveNo) (f : Drive → Drive) : (s.modDrive d f).pending = s.pending := rfl
@[simp] theorem State.modDrive_now (d : DriveNo) (f : Drive → Drive) : (s.modDrive d f).now = s.now := rfl
@[simp] theorem State.modDrive_condition (d : DriveNo) (f : Drive → Drive) : (s.modDrive d f).condition = s.condition := rfl
@[simp] theorem State.modDrive_formatMark (d : DriveNo) (f : Drive → Drive) : (s.modDrive d f).formatMark = s.formatMark := rfl
@[simp] theorem State.modDrive_resetHeld (d : DriveNo) (f : Drive → Drive) : (s.modDrive d f).resetHeld = s.resetHeld := rfl
@[simp] theorem State.modDrive_mechReset (d : DriveNo) (f : Drive → Drive) : (s.modDrive d f).mechReset = s.mechReset := rfl
@[simp] theorem State.modDrive_dir (d : DriveNo) (f : Drive → Drive) : (s.modDrive d f).dir = s.dir := rfl
@[simp] theorem State.modDrive_lib (d : DriveNo) (f : Drive → Drive) : (s.modDrive d f).lib = s.lib := rfl
@[simp] theorem State.modDrive_drives (d : DriveNo) (f : Drive → Drive) : (s.modDrive d f).drives = s.drives.set d.val (f s.drives[d]) d.isLt := rfl
@[simp] theorem State.modDrive_picker (d : DriveNo) (f : Drive → Drive) : (s.modDrive d f).picker = s.picker := rfl
@[simp] theorem State.modDrive_rings (d : DriveNo) (f : Drive → Drive) : (s.modDrive d f).rings = s.rings := rfl
@[simp] theorem State.modDrive_staging (d : DriveNo) (f : Drive → Drive) : (s.modDrive d f).staging = s.staging := rfl
@[simp] theorem State.modDrive_fetch (d : DriveNo) (f : Drive → Drive) : (s.modDrive d f).fetch = s.fetch := rfl
@[simp] theorem State.modDrive_filing (d : DriveNo) (f : Drive → Drive) : (s.modDrive d f).filing = s.filing := rfl
@[simp] theorem State.modDrive_fees (d : DriveNo) (f : Drive → Drive) : (s.modDrive d f).fees = s.fees := rfl
@[simp] theorem State.modDrive_line (d : DriveNo) (f : Drive → Drive) : (s.modDrive d f).line = s.line := rfl
@[simp] theorem State.modDrive_link (d : DriveNo) (f : Drive → Drive) : (s.modDrive d f).link = s.link := rfl
@[simp] theorem State.modDrive_cfg (d : DriveNo) (f : Drive → Drive) : (s.modDrive d f).cfg = s.cfg := rfl
@[simp] theorem State.modDrive_desk (d : DriveNo) (f : Drive → Drive) : (s.modDrive d f).desk = s.desk := rfl

-- State.modRing
@[simp] theorem State.modRing_pending (r : Fin 7) (f : PageRing → PageRing) : (s.modRing r f).pending = s.pending := rfl
@[simp] theorem State.modRing_now (r : Fin 7) (f : PageRing → PageRing) : (s.modRing r f).now = s.now := rfl
@[simp] theorem State.modRing_condition (r : Fin 7) (f : PageRing → PageRing) : (s.modRing r f).condition = s.condition := rfl
@[simp] theorem State.modRing_formatMark (r : Fin 7) (f : PageRing → PageRing) : (s.modRing r f).formatMark = s.formatMark := rfl
@[simp] theorem State.modRing_resetHeld (r : Fin 7) (f : PageRing → PageRing) : (s.modRing r f).resetHeld = s.resetHeld := rfl
@[simp] theorem State.modRing_mechReset (r : Fin 7) (f : PageRing → PageRing) : (s.modRing r f).mechReset = s.mechReset := rfl
@[simp] theorem State.modRing_dir (r : Fin 7) (f : PageRing → PageRing) : (s.modRing r f).dir = s.dir := rfl
@[simp] theorem State.modRing_lib (r : Fin 7) (f : PageRing → PageRing) : (s.modRing r f).lib = s.lib := rfl
@[simp] theorem State.modRing_drives (r : Fin 7) (f : PageRing → PageRing) : (s.modRing r f).drives = s.drives := rfl
@[simp] theorem State.modRing_picker (r : Fin 7) (f : PageRing → PageRing) : (s.modRing r f).picker = s.picker := rfl
@[simp] theorem State.modRing_rings (r : Fin 7) (f : PageRing → PageRing) : (s.modRing r f).rings = s.rings.set r.val (f s.rings[r]) r.isLt := rfl
@[simp] theorem State.modRing_staging (r : Fin 7) (f : PageRing → PageRing) : (s.modRing r f).staging = s.staging := rfl
@[simp] theorem State.modRing_fetch (r : Fin 7) (f : PageRing → PageRing) : (s.modRing r f).fetch = s.fetch := rfl
@[simp] theorem State.modRing_filing (r : Fin 7) (f : PageRing → PageRing) : (s.modRing r f).filing = s.filing := rfl
@[simp] theorem State.modRing_fees (r : Fin 7) (f : PageRing → PageRing) : (s.modRing r f).fees = s.fees := rfl
@[simp] theorem State.modRing_line (r : Fin 7) (f : PageRing → PageRing) : (s.modRing r f).line = s.line := rfl
@[simp] theorem State.modRing_link (r : Fin 7) (f : PageRing → PageRing) : (s.modRing r f).link = s.link := rfl
@[simp] theorem State.modRing_cfg (r : Fin 7) (f : PageRing → PageRing) : (s.modRing r f).cfg = s.cfg := rfl
@[simp] theorem State.modRing_desk (r : Fin 7) (f : PageRing → PageRing) : (s.modRing r f).desk = s.desk := rfl

-- State.modAccount
@[simp] theorem State.modAccount_pending (a : Fin 13) (f : Account → Account) : (s.modAccount a f).pending = s.pending := rfl
@[simp] theorem State.modAccount_now (a : Fin 13) (f : Account → Account) : (s.modAccount a f).now = s.now := rfl
@[simp] theorem State.modAccount_condition (a : Fin 13) (f : Account → Account) : (s.modAccount a f).condition = s.condition := rfl
@[simp] theorem State.modAccount_formatMark (a : Fin 13) (f : Account → Account) : (s.modAccount a f).formatMark = s.formatMark := rfl
@[simp] theorem State.modAccount_resetHeld (a : Fin 13) (f : Account → Account) : (s.modAccount a f).resetHeld = s.resetHeld := rfl
@[simp] theorem State.modAccount_mechReset (a : Fin 13) (f : Account → Account) : (s.modAccount a f).mechReset = s.mechReset := rfl
@[simp] theorem State.modAccount_dir (a : Fin 13) (f : Account → Account) : (s.modAccount a f).dir = s.dir := rfl
@[simp] theorem State.modAccount_lib (a : Fin 13) (f : Account → Account) : (s.modAccount a f).lib = s.lib := rfl
@[simp] theorem State.modAccount_drives (a : Fin 13) (f : Account → Account) : (s.modAccount a f).drives = s.drives := rfl
@[simp] theorem State.modAccount_picker (a : Fin 13) (f : Account → Account) : (s.modAccount a f).picker = s.picker := rfl
@[simp] theorem State.modAccount_rings (a : Fin 13) (f : Account → Account) : (s.modAccount a f).rings = s.rings := rfl
@[simp] theorem State.modAccount_staging (a : Fin 13) (f : Account → Account) : (s.modAccount a f).staging = s.staging := rfl
@[simp] theorem State.modAccount_fetch (a : Fin 13) (f : Account → Account) : (s.modAccount a f).fetch = s.fetch := rfl
@[simp] theorem State.modAccount_filing (a : Fin 13) (f : Account → Account) : (s.modAccount a f).filing = s.filing := rfl
@[simp] theorem State.modAccount_fees (a : Fin 13) (f : Account → Account) : (s.modAccount a f).fees = { s.fees with accounts := s.fees.accounts.set a.val (f s.fees.accounts[a]) a.isLt } := rfl
@[simp] theorem State.modAccount_line (a : Fin 13) (f : Account → Account) : (s.modAccount a f).line = s.line := rfl
@[simp] theorem State.modAccount_link (a : Fin 13) (f : Account → Account) : (s.modAccount a f).link = s.link := rfl
@[simp] theorem State.modAccount_cfg (a : Fin 13) (f : Account → Account) : (s.modAccount a f).cfg = s.cfg := rfl

-- State.modCounter
@[simp] theorem State.modCounter_pending (n : CounterNo) (f : Counter → Counter) : (s.modCounter n f).pending = s.pending := rfl
@[simp] theorem State.modCounter_now (n : CounterNo) (f : Counter → Counter) : (s.modCounter n f).now = s.now := rfl
@[simp] theorem State.modCounter_condition (n : CounterNo) (f : Counter → Counter) : (s.modCounter n f).condition = s.condition := rfl
@[simp] theorem State.modCounter_formatMark (n : CounterNo) (f : Counter → Counter) : (s.modCounter n f).formatMark = s.formatMark := rfl
@[simp] theorem State.modCounter_resetHeld (n : CounterNo) (f : Counter → Counter) : (s.modCounter n f).resetHeld = s.resetHeld := rfl
@[simp] theorem State.modCounter_mechReset (n : CounterNo) (f : Counter → Counter) : (s.modCounter n f).mechReset = s.mechReset := rfl
@[simp] theorem State.modCounter_dir (n : CounterNo) (f : Counter → Counter) : (s.modCounter n f).dir = s.dir := rfl
@[simp] theorem State.modCounter_lib (n : CounterNo) (f : Counter → Counter) : (s.modCounter n f).lib = s.lib := rfl
@[simp] theorem State.modCounter_drives (n : CounterNo) (f : Counter → Counter) : (s.modCounter n f).drives = s.drives := rfl
@[simp] theorem State.modCounter_picker (n : CounterNo) (f : Counter → Counter) : (s.modCounter n f).picker = s.picker := rfl
@[simp] theorem State.modCounter_rings (n : CounterNo) (f : Counter → Counter) : (s.modCounter n f).rings = s.rings := rfl
@[simp] theorem State.modCounter_staging (n : CounterNo) (f : Counter → Counter) : (s.modCounter n f).staging = s.staging := rfl
@[simp] theorem State.modCounter_fetch (n : CounterNo) (f : Counter → Counter) : (s.modCounter n f).fetch = s.fetch := rfl
@[simp] theorem State.modCounter_filing (n : CounterNo) (f : Counter → Counter) : (s.modCounter n f).filing = s.filing := rfl
@[simp] theorem State.modCounter_fees (n : CounterNo) (f : Counter → Counter) : (s.modCounter n f).fees = s.fees := rfl
@[simp] theorem State.modCounter_line (n : CounterNo) (f : Counter → Counter) : (s.modCounter n f).line = { s.line with counters := s.line.counters.set n.val (f s.line.counters[n]) n.isLt } := rfl
@[simp] theorem State.modCounter_link (n : CounterNo) (f : Counter → Counter) : (s.modCounter n f).link = s.link := rfl
@[simp] theorem State.modCounter_cfg (n : CounterNo) (f : Counter → Counter) : (s.modCounter n f).cfg = s.cfg := rfl

-- State.modTitle
@[simp] theorem State.modTitle_pending (n : Nat) (f : TitleRecord → TitleRecord) : (s.modTitle n f).pending = s.pending := rfl
@[simp] theorem State.modTitle_now (n : Nat) (f : TitleRecord → TitleRecord) : (s.modTitle n f).now = s.now := rfl
@[simp] theorem State.modTitle_condition (n : Nat) (f : TitleRecord → TitleRecord) : (s.modTitle n f).condition = s.condition := rfl
@[simp] theorem State.modTitle_formatMark (n : Nat) (f : TitleRecord → TitleRecord) : (s.modTitle n f).formatMark = s.formatMark := rfl
@[simp] theorem State.modTitle_resetHeld (n : Nat) (f : TitleRecord → TitleRecord) : (s.modTitle n f).resetHeld = s.resetHeld := rfl
@[simp] theorem State.modTitle_mechReset (n : Nat) (f : TitleRecord → TitleRecord) : (s.modTitle n f).mechReset = s.mechReset := rfl
@[simp] theorem State.modTitle_dir (n : Nat) (f : TitleRecord → TitleRecord) : (s.modTitle n f).dir = { s.dir with titles := s.dir.titles.map fun r => if r.number = n then f r else r } := rfl
@[simp] theorem State.modTitle_lib (n : Nat) (f : TitleRecord → TitleRecord) : (s.modTitle n f).lib = s.lib := rfl
@[simp] theorem State.modTitle_drives (n : Nat) (f : TitleRecord → TitleRecord) : (s.modTitle n f).drives = s.drives := rfl
@[simp] theorem State.modTitle_picker (n : Nat) (f : TitleRecord → TitleRecord) : (s.modTitle n f).picker = s.picker := rfl
@[simp] theorem State.modTitle_rings (n : Nat) (f : TitleRecord → TitleRecord) : (s.modTitle n f).rings = s.rings := rfl
@[simp] theorem State.modTitle_staging (n : Nat) (f : TitleRecord → TitleRecord) : (s.modTitle n f).staging = s.staging := rfl
@[simp] theorem State.modTitle_fetch (n : Nat) (f : TitleRecord → TitleRecord) : (s.modTitle n f).fetch = s.fetch := rfl
@[simp] theorem State.modTitle_filing (n : Nat) (f : TitleRecord → TitleRecord) : (s.modTitle n f).filing = s.filing := rfl
@[simp] theorem State.modTitle_fees (n : Nat) (f : TitleRecord → TitleRecord) : (s.modTitle n f).fees = s.fees := rfl
@[simp] theorem State.modTitle_line (n : Nat) (f : TitleRecord → TitleRecord) : (s.modTitle n f).line = s.line := rfl
@[simp] theorem State.modTitle_link (n : Nat) (f : TitleRecord → TitleRecord) : (s.modTitle n f).link = s.link := rfl
@[simp] theorem State.modTitle_cfg (n : Nat) (f : TitleRecord → TitleRecord) : (s.modTitle n f).cfg = s.cfg := rfl

-- State.modCart
@[simp] theorem State.modCart_pending (c : Nat) (f : Cartridge → Cartridge) : (s.modCart c f).pending = s.pending := rfl
@[simp] theorem State.modCart_now (c : Nat) (f : Cartridge → Cartridge) : (s.modCart c f).now = s.now := rfl
@[simp] theorem State.modCart_condition (c : Nat) (f : Cartridge → Cartridge) : (s.modCart c f).condition = s.condition := rfl
@[simp] theorem State.modCart_formatMark (c : Nat) (f : Cartridge → Cartridge) : (s.modCart c f).formatMark = s.formatMark := rfl
@[simp] theorem State.modCart_resetHeld (c : Nat) (f : Cartridge → Cartridge) : (s.modCart c f).resetHeld = s.resetHeld := rfl
@[simp] theorem State.modCart_mechReset (c : Nat) (f : Cartridge → Cartridge) : (s.modCart c f).mechReset = s.mechReset := rfl
@[simp] theorem State.modCart_dir (c : Nat) (f : Cartridge → Cartridge) : (s.modCart c f).dir = s.dir := rfl
@[simp] theorem State.modCart_lib (c : Nat) (f : Cartridge → Cartridge) : (s.modCart c f).lib = { s.lib with carts := s.lib.carts.map fun r => if r.number = c then f r else r } := rfl
@[simp] theorem State.modCart_drives (c : Nat) (f : Cartridge → Cartridge) : (s.modCart c f).drives = s.drives := rfl
@[simp] theorem State.modCart_picker (c : Nat) (f : Cartridge → Cartridge) : (s.modCart c f).picker = s.picker := rfl
@[simp] theorem State.modCart_rings (c : Nat) (f : Cartridge → Cartridge) : (s.modCart c f).rings = s.rings := rfl
@[simp] theorem State.modCart_staging (c : Nat) (f : Cartridge → Cartridge) : (s.modCart c f).staging = s.staging := rfl
@[simp] theorem State.modCart_fetch (c : Nat) (f : Cartridge → Cartridge) : (s.modCart c f).fetch = s.fetch := rfl
@[simp] theorem State.modCart_filing (c : Nat) (f : Cartridge → Cartridge) : (s.modCart c f).filing = s.filing := rfl
@[simp] theorem State.modCart_fees (c : Nat) (f : Cartridge → Cartridge) : (s.modCart c f).fees = s.fees := rfl
@[simp] theorem State.modCart_line (c : Nat) (f : Cartridge → Cartridge) : (s.modCart c f).line = s.line := rfl
@[simp] theorem State.modCart_link (c : Nat) (f : Cartridge → Cartridge) : (s.modCart c f).link = s.link := rfl
@[simp] theorem State.modCart_cfg (c : Nat) (f : Cartridge → Cartridge) : (s.modCart c f).cfg = s.cfg := rfl
@[simp] theorem State.modCart_desk (c : Nat) (f : Cartridge → Cartridge) : (s.modCart c f).desk = s.desk := rfl

-- State.modOrder
@[simp] theorem State.modOrder_pending (n : Nat) (f : FetchOrder → FetchOrder) : (s.modOrder n f).pending = s.pending := rfl
@[simp] theorem State.modOrder_now (n : Nat) (f : FetchOrder → FetchOrder) : (s.modOrder n f).now = s.now := rfl
@[simp] theorem State.modOrder_condition (n : Nat) (f : FetchOrder → FetchOrder) : (s.modOrder n f).condition = s.condition := rfl
@[simp] theorem State.modOrder_formatMark (n : Nat) (f : FetchOrder → FetchOrder) : (s.modOrder n f).formatMark = s.formatMark := rfl
@[simp] theorem State.modOrder_resetHeld (n : Nat) (f : FetchOrder → FetchOrder) : (s.modOrder n f).resetHeld = s.resetHeld := rfl
@[simp] theorem State.modOrder_mechReset (n : Nat) (f : FetchOrder → FetchOrder) : (s.modOrder n f).mechReset = s.mechReset := rfl
@[simp] theorem State.modOrder_dir (n : Nat) (f : FetchOrder → FetchOrder) : (s.modOrder n f).dir = s.dir := rfl
@[simp] theorem State.modOrder_lib (n : Nat) (f : FetchOrder → FetchOrder) : (s.modOrder n f).lib = s.lib := rfl
@[simp] theorem State.modOrder_drives (n : Nat) (f : FetchOrder → FetchOrder) : (s.modOrder n f).drives = s.drives := rfl
@[simp] theorem State.modOrder_picker (n : Nat) (f : FetchOrder → FetchOrder) : (s.modOrder n f).picker = s.picker := rfl
@[simp] theorem State.modOrder_rings (n : Nat) (f : FetchOrder → FetchOrder) : (s.modOrder n f).rings = s.rings := rfl
@[simp] theorem State.modOrder_staging (n : Nat) (f : FetchOrder → FetchOrder) : (s.modOrder n f).staging = s.staging := rfl
@[simp] theorem State.modOrder_fetch (n : Nat) (f : FetchOrder → FetchOrder) : (s.modOrder n f).fetch = { s.fetch with queue := s.fetch.queue.map fun o => if o.number = n then f o else o } := rfl
@[simp] theorem State.modOrder_filing (n : Nat) (f : FetchOrder → FetchOrder) : (s.modOrder n f).filing = s.filing := rfl
@[simp] theorem State.modOrder_fees (n : Nat) (f : FetchOrder → FetchOrder) : (s.modOrder n f).fees = s.fees := rfl
@[simp] theorem State.modOrder_line (n : Nat) (f : FetchOrder → FetchOrder) : (s.modOrder n f).line = s.line := rfl
@[simp] theorem State.modOrder_link (n : Nat) (f : FetchOrder → FetchOrder) : (s.modOrder n f).link = s.link := rfl
@[simp] theorem State.modOrder_cfg (n : Nat) (f : FetchOrder → FetchOrder) : (s.modOrder n f).cfg = s.cfg := rfl
@[simp] theorem State.modOrder_desk (n : Nat) (f : FetchOrder → FetchOrder) : (s.modOrder n f).desk = s.desk := rfl

-- State.modLodgement
@[simp] theorem State.modLodgement_pending (n : Nat) (f : Lodgement → Lodgement) : (s.modLodgement n f).pending = s.pending := rfl
@[simp] theorem State.modLodgement_now (n : Nat) (f : Lodgement → Lodgement) : (s.modLodgement n f).now = s.now := rfl
@[simp] theorem State.modLodgement_condition (n : Nat) (f : Lodgement → Lodgement) : (s.modLodgement n f).condition = s.condition := rfl
@[simp] theorem State.modLodgement_formatMark (n : Nat) (f : Lodgement → Lodgement) : (s.modLodgement n f).formatMark = s.formatMark := rfl
@[simp] theorem State.modLodgement_resetHeld (n : Nat) (f : Lodgement → Lodgement) : (s.modLodgement n f).resetHeld = s.resetHeld := rfl
@[simp] theorem State.modLodgement_mechReset (n : Nat) (f : Lodgement → Lodgement) : (s.modLodgement n f).mechReset = s.mechReset := rfl
@[simp] theorem State.modLodgement_dir (n : Nat) (f : Lodgement → Lodgement) : (s.modLodgement n f).dir = s.dir := rfl
@[simp] theorem State.modLodgement_lib (n : Nat) (f : Lodgement → Lodgement) : (s.modLodgement n f).lib = s.lib := rfl
@[simp] theorem State.modLodgement_drives (n : Nat) (f : Lodgement → Lodgement) : (s.modLodgement n f).drives = s.drives := rfl
@[simp] theorem State.modLodgement_picker (n : Nat) (f : Lodgement → Lodgement) : (s.modLodgement n f).picker = s.picker := rfl
@[simp] theorem State.modLodgement_rings (n : Nat) (f : Lodgement → Lodgement) : (s.modLodgement n f).rings = s.rings := rfl
@[simp] theorem State.modLodgement_staging (n : Nat) (f : Lodgement → Lodgement) : (s.modLodgement n f).staging = s.staging := rfl
@[simp] theorem State.modLodgement_fetch (n : Nat) (f : Lodgement → Lodgement) : (s.modLodgement n f).fetch = s.fetch := rfl
@[simp] theorem State.modLodgement_filing (n : Nat) (f : Lodgement → Lodgement) : (s.modLodgement n f).filing = { s.filing with table := s.filing.table.map fun l => if l.number = n then f l else l } := rfl
@[simp] theorem State.modLodgement_fees (n : Nat) (f : Lodgement → Lodgement) : (s.modLodgement n f).fees = s.fees := rfl
@[simp] theorem State.modLodgement_line (n : Nat) (f : Lodgement → Lodgement) : (s.modLodgement n f).line = s.line := rfl
@[simp] theorem State.modLodgement_link (n : Nat) (f : Lodgement → Lodgement) : (s.modLodgement n f).link = s.link := rfl
@[simp] theorem State.modLodgement_cfg (n : Nat) (f : Lodgement → Lodgement) : (s.modLodgement n f).cfg = s.cfg := rfl
@[simp] theorem State.modLodgement_desk (n : Nat) (f : Lodgement → Lodgement) : (s.modLodgement n f).desk = s.desk := rfl

-- State.reach
@[simp] theorem State.reach_pending (t : Nat) : (s.reach t).pending = s.pending := rfl
@[simp] theorem State.reach_now (t : Nat) : (s.reach t).now = max s.now t := rfl
@[simp] theorem State.reach_condition (t : Nat) : (s.reach t).condition = s.condition := rfl
@[simp] theorem State.reach_formatMark (t : Nat) : (s.reach t).formatMark = s.formatMark := rfl
@[simp] theorem State.reach_resetHeld (t : Nat) : (s.reach t).resetHeld = s.resetHeld := rfl
@[simp] theorem State.reach_mechReset (t : Nat) : (s.reach t).mechReset = s.mechReset := rfl
@[simp] theorem State.reach_dir (t : Nat) : (s.reach t).dir = s.dir := rfl
@[simp] theorem State.reach_lib (t : Nat) : (s.reach t).lib = s.lib := rfl
@[simp] theorem State.reach_drives (t : Nat) : (s.reach t).drives = s.drives := rfl
@[simp] theorem State.reach_picker (t : Nat) : (s.reach t).picker = s.picker := rfl
@[simp] theorem State.reach_rings (t : Nat) : (s.reach t).rings = s.rings := rfl
@[simp] theorem State.reach_staging (t : Nat) : (s.reach t).staging = s.staging := rfl
@[simp] theorem State.reach_fetch (t : Nat) : (s.reach t).fetch = s.fetch := rfl
@[simp] theorem State.reach_filing (t : Nat) : (s.reach t).filing = s.filing := rfl
@[simp] theorem State.reach_fees (t : Nat) : (s.reach t).fees = s.fees := rfl
@[simp] theorem State.reach_line (t : Nat) : (s.reach t).line = s.line := rfl
@[simp] theorem State.reach_link (t : Nat) : (s.reach t).link = s.link := rfl
@[simp] theorem State.reach_cfg (t : Nat) : (s.reach t).cfg = s.cfg := rfl

-- answer
@[simp] theorem answer_pending (tag : Byte) (a : Answer) : (answer tag a s).pending = s.pending := rfl
@[simp] theorem answer_now (tag : Byte) (a : Answer) : (answer tag a s).now = s.now := rfl
@[simp] theorem answer_condition (tag : Byte) (a : Answer) : (answer tag a s).condition = s.condition := rfl
@[simp] theorem answer_formatMark (tag : Byte) (a : Answer) : (answer tag a s).formatMark = s.formatMark := rfl
@[simp] theorem answer_resetHeld (tag : Byte) (a : Answer) : (answer tag a s).resetHeld = s.resetHeld := rfl
@[simp] theorem answer_mechReset (tag : Byte) (a : Answer) : (answer tag a s).mechReset = s.mechReset := rfl
@[simp] theorem answer_dir (tag : Byte) (a : Answer) : (answer tag a s).dir = s.dir := rfl
@[simp] theorem answer_lib (tag : Byte) (a : Answer) : (answer tag a s).lib = s.lib := rfl
@[simp] theorem answer_drives (tag : Byte) (a : Answer) : (answer tag a s).drives = s.drives := rfl
@[simp] theorem answer_picker (tag : Byte) (a : Answer) : (answer tag a s).picker = s.picker := rfl
@[simp] theorem answer_rings (tag : Byte) (a : Answer) : (answer tag a s).rings = s.rings := rfl
@[simp] theorem answer_staging (tag : Byte) (a : Answer) : (answer tag a s).staging = s.staging := rfl
@[simp] theorem answer_fetch (tag : Byte) (a : Answer) : (answer tag a s).fetch = s.fetch := rfl
@[simp] theorem answer_filing (tag : Byte) (a : Answer) : (answer tag a s).filing = s.filing := rfl
@[simp] theorem answer_fees (tag : Byte) (a : Answer) : (answer tag a s).fees = s.fees := rfl
@[simp] theorem answer_line (tag : Byte) (a : Answer) : (answer tag a s).line = s.line := rfl
@[simp] theorem answer_link (tag : Byte) (a : Answer) : (answer tag a s).link = { s.link with decoder := .placing ⟨tag, a, decide (s.condition = .unformatted), false⟩ } := rfl
@[simp] theorem answer_cfg (tag : Byte) (a : Answer) : (answer tag a s).cfg = s.cfg := rfl
@[simp] theorem answer_desk (tag : Byte) (a : Answer) : (answer tag a s).desk = s.desk := rfl

-- queueNotice
@[simp] theorem queueNotice_pending (n : Notice) : (queueNotice n s).pending = s.pending := rfl
@[simp] theorem queueNotice_now (n : Notice) : (queueNotice n s).now = s.now := rfl
@[simp] theorem queueNotice_condition (n : Notice) : (queueNotice n s).condition = s.condition := rfl
@[simp] theorem queueNotice_formatMark (n : Notice) : (queueNotice n s).formatMark = s.formatMark := rfl
@[simp] theorem queueNotice_resetHeld (n : Notice) : (queueNotice n s).resetHeld = s.resetHeld := rfl
@[simp] theorem queueNotice_mechReset (n : Notice) : (queueNotice n s).mechReset = s.mechReset := rfl
@[simp] theorem queueNotice_dir (n : Notice) : (queueNotice n s).dir = s.dir := rfl
@[simp] theorem queueNotice_lib (n : Notice) : (queueNotice n s).lib = s.lib := rfl
@[simp] theorem queueNotice_drives (n : Notice) : (queueNotice n s).drives = s.drives := rfl
@[simp] theorem queueNotice_picker (n : Notice) : (queueNotice n s).picker = s.picker := rfl
@[simp] theorem queueNotice_rings (n : Notice) : (queueNotice n s).rings = s.rings := rfl
@[simp] theorem queueNotice_staging (n : Notice) : (queueNotice n s).staging = s.staging := rfl
@[simp] theorem queueNotice_fetch (n : Notice) : (queueNotice n s).fetch = s.fetch := rfl
@[simp] theorem queueNotice_filing (n : Notice) : (queueNotice n s).filing = s.filing := rfl
@[simp] theorem queueNotice_fees (n : Notice) : (queueNotice n s).fees = s.fees := rfl
@[simp] theorem queueNotice_line (n : Notice) : (queueNotice n s).line = s.line := rfl
@[simp] theorem queueNotice_cfg (n : Notice) : (queueNotice n s).cfg = s.cfg := rfl
@[simp] theorem queueNotice_desk (n : Notice) : (queueNotice n s).desk = s.desk := rfl

end Sys2Proof.Machine
end

