-- ==== Sys2Proof/Laws/Ops.lean ====
section
/-!
SUPPORT. What the shared operations do, said once each: finding and changing a record by its key, placing a record in order, the
rings, the figures of an account, post queues, notices, what the drives, the picker and the arbiter may begin, and a poll's reply.
-/
namespace Sys2Proof.Machine

-- Records found by a key ------------------------------------------------------------------------------------------

/-- Changing the items of one key changes what that key finds and no other. -/
theorem find?_map_key {α : Type} (key : α → Nat) (f : α → α) (hf : ∀ x, key (f x) = key x) (n m : Nat) (xs : List α) :
    (xs.map fun x => if key x = n then f x else x).find? (fun x => decide (key x = m)) =
      (xs.find? fun x => decide (key x = m)).map fun x => if m = n then f x else x := by
  induction xs with
  | nil => rfl
  | cons x rest ih =>
    by_cases hx : key x = m
    · by_cases hn : m = n
      · subst hn; simp [hx, hf]
      · simp [hx, hn]
    · by_cases hn : key x = n
      · have h : n ≠ m := fun h => hx (hn.trans h)
        simpa [hn, hf, h, hx] using ih
      · simpa [hn, hx] using ih

/-- What a key finds has that key. -/
theorem find?_key {α : Type} {key : α → Nat} {n : Nat} {x : α} {xs : List α}
    (h : xs.find? (fun y => decide (key y = n)) = some x) : key x = n ∧ x ∈ xs :=
  ⟨by simpa using List.find?_some h, List.mem_of_find?_eq_some h⟩

theorem State.title?_spec {s : State} {n : Nat} {r : TitleRecord} (h : s.title? n = some r) :
    r.number = n ∧ r ∈ s.dir.titles := find?_key h

theorem State.cart?_spec {s : State} {n : Nat} {r : Cartridge} (h : s.cart? n = some r) :
    r.number = n ∧ r ∈ s.lib.carts := find?_key h

theorem State.order?_spec {s : State} {n : Nat} {o : FetchOrder} (h : s.order? n = some o) :
    o.number = n ∧ o ∈ s.fetch.queue := find?_key h

theorem State.lodgement?_spec {s : State} {n : Nat} {l : Lodgement} (h : s.lodgement? n = some l) :
    l.number = n ∧ l ∈ s.filing.table := find?_key h

theorem State.title?_modTitle (s : State) (n m : Nat) (f : TitleRecord → TitleRecord)
    (hf : ∀ r, (f r).number = r.number) :
    (s.modTitle n f).title? m = (s.title? m).map fun r => if m = n then f r else r :=
  find?_map_key (fun r : TitleRecord => r.number) f hf n m s.dir.titles

theorem State.cart?_modCart (s : State) (n m : Nat) (f : Cartridge → Cartridge) (hf : ∀ r, (f r).number = r.number) :
    (s.modCart n f).cart? m = (s.cart? m).map fun r => if m = n then f r else r :=
  find?_map_key (fun r : Cartridge => r.number) f hf n m s.lib.carts

theorem State.order?_modOrder (s : State) (n m : Nat) (f : FetchOrder → FetchOrder)
    (hf : ∀ o, (f o).number = o.number) :
    (s.modOrder n f).order? m = (s.order? m).map fun o => if m = n then f o else o :=
  find?_map_key (fun o : FetchOrder => o.number) f hf n m s.fetch.queue

theorem State.lodgement?_modLodgement (s : State) (n m : Nat) (f : Lodgement → Lodgement)
    (hf : ∀ l, (f l).number = l.number) :
    (s.modLodgement n f).lodgement? m = (s.lodgement? m).map fun l => if m = n then f l else l :=
  find?_map_key (fun l : Lodgement => l.number) f hf n m s.filing.table

/-- Changing records by key keeps the list of keys. -/
theorem map_key_map {α : Type} (key : α → Nat) (f : α → α) (hf : ∀ x, key (f x) = key x) (n : Nat) (xs : List α) :
    (xs.map fun x => if key x = n then f x else x).map key = xs.map key := by
  induction xs with
  | nil => rfl
  | cons x rest ih => by_cases h : key x = n <;> simp_all

@[simp] theorem Cartridge.modSide_number (side : Side) (f : SideRecord → SideRecord) (r : Cartridge) :
    (r.modSide side f).number = r.number := by cases side <;> rfl

@[simp] theorem Cartridge.modSide_place (side : Side) (f : SideRecord → SideRecord) (r : Cartridge) :
    (r.modSide side f).place = r.place := by cases side <;> rfl

theorem Cartridge.sideRecord_modSide (a b : Side) (f : SideRecord → SideRecord) (r : Cartridge) :
    (r.modSide a f).sideRecord b = if b = a then f (r.sideRecord b) else r.sideRecord b := by
  cases a <;> cases b <;> rfl

/-- Changing a side record changes what that side reads as and no other. -/
theorem State.side?_modSide (s : State) (sd x : SideId) (f : SideRecord → SideRecord) :
    (s.modSide sd f).side? x = (s.side? x).map fun r => if x = sd then f r else r := by
  obtain ⟨c, a⟩ := sd
  obtain ⟨e, b⟩ := x
  unfold State.side? State.modSide
  rw [State.cart?_modCart _ _ _ _ (by simp)]
  cases h : s.cart? e with
  | none => rfl
  | some r =>
    by_cases hc : e = c
    · by_cases hb : b = a <;> simp [hc, hb, Cartridge.sideRecord_modSide]
    · simp [hc]

-- Records placed in order -----------------------------------------------------------------------------------------

theorem insertTitle_perm (r : TitleRecord) (ts : List TitleRecord) : (insertTitle r ts).Perm (r :: ts) := by
  induction ts with
  | nil => exact .refl _
  | cons q rest ih =>
    simp only [insertTitle]
    split
    · exact .refl _
    · exact (ih.cons q).trans (.swap r q rest)

theorem insertCart_perm (r : Cartridge) (cs : List Cartridge) : (insertCart r cs).Perm (r :: cs) := by
  induction cs with
  | nil => exact .refl _
  | cons q rest ih =>
    simp only [insertCart]
    split
    · exact .refl _
    · exact (ih.cons q).trans (.swap r q rest)

/-- A record of a number not held keeps strictly ascending numbers (R5). -/
theorem insertTitle_ascending (r : TitleRecord) (ts : List TitleRecord) (hn : ∀ q ∈ ts, q.number ≠ r.number)
    (h : (ts.map fun q => q.number).Pairwise (· < ·)) : ((insertTitle r ts).map fun q => q.number).Pairwise (· < ·) := by
  induction ts with
  | nil => simp [insertTitle]
  | cons q rest ih =>
    simp only [List.map_cons, List.pairwise_cons] at h
    have hq : q.number ≠ r.number := hn q (List.mem_cons_self ..)
    simp only [insertTitle]
    split
    · rename_i hlt
      simp only [List.map_cons, List.pairwise_cons, List.mem_cons]
      refine ⟨?_, h.1, h.2⟩
      rintro a (rfl | ha)
      · exact hlt
      · exact hlt.trans (h.1 a ha)
    · rename_i hge
      simp only [List.map_cons, List.pairwise_cons]
      refine ⟨?_, ih (fun x hx => hn x (List.mem_cons_of_mem _ hx)) h.2⟩
      intro a ha
      have := ((insertTitle_perm r rest).map fun q => q.number).mem_iff.mp ha
      simp only [List.map_cons, List.mem_cons] at this
      rcases this with rfl | h'
      · omega
      · exact h.1 a h'

-- Rings -----------------------------------------------------------------------------------------------------------

@[simp] theorem entryBlocks_nil : entryBlocks [] = 0 := rfl

@[simp] theorem entryBlocks_cons (e : PageEntry) (es : List PageEntry) :
    entryBlocks (e :: es) = e.length + entryBlocks es := by simp [entryBlocks]

@[simp] theorem entryBlocks_append (xs ys : List PageEntry) :
    entryBlocks (xs ++ ys) = entryBlocks xs + entryBlocks ys := by simp [entryBlocks]

/-- All that an admission can do (R92). -/
theorem PageRing.admitPage_spec {m owner page length : Nat} {r t : PageRing}
    (h : r.admitPage m owner page length = some t) :
    1 ≤ length ∧ length ≤ Config.maxPageBlocks ∧ r.occupied + length ≤ m ∧ t.drain = r.drain ∧
      t.fill = (r.fill + length) % m ∧ t.occupied = r.occupied + length ∧
      t.entries = r.entries ++ [{ owner := owner, page := page, length := length, start := r.fill, live := true,
                                  filled := false, streaming := false, held := false }] := by
  unfold PageRing.admitPage at h
  split at h
  · rename_i hc
    cases h
    exact ⟨hc.1, hc.2.1, hc.2.2, rfl, rfl, rfl, rfl⟩
  · cases h

/-- A refused admission is one that R92 refuses. -/
theorem PageRing.admitPage_none {m owner page length : Nat} {r : PageRing} :
    r.admitPage m owner page length = none ↔
      ¬ (1 ≤ length ∧ length ≤ Config.maxPageBlocks ∧ r.occupied + length ≤ m) := by
  unfold PageRing.admitPage
  split <;> simp_all

/-- An admission keeps a ring's law (R87, R92). -/
theorem PageRing.admitPage_lawful {m owner page length : Nat} {r t : PageRing} (hr : r.lawful m)
    (h : r.admitPage m owner page length = some t) : t.lawful m := by
  obtain ⟨h1, h2, h3, hd, hf, ho, he⟩ := PageRing.admitPage_spec h
  obtain ⟨o1, o2, o3, o4⟩ := hr
  refine ⟨by simp [ho, he, o1], by omega, ?_, ?_⟩
  · intro e hm
    rw [he, List.mem_append, List.mem_singleton] at hm
    rcases hm with hm | rfl
    · exact o3 e hm
    · exact ⟨h1, h2⟩
  · rw [hf, ho, hd, o4, Nat.mod_add_mod, Nat.add_assoc]

theorem entryBlocks_takeWhile_dropWhile (p : PageEntry → Bool) (es : List PageEntry) :
    entryBlocks (es.takeWhile p) + entryBlocks (es.dropWhile p) = entryBlocks es := by
  rw [← entryBlocks_append, List.takeWhile_append_dropWhile]

/-- All that a reclamation can do (R94): the RELEASED entries at the head leave with their blocks. -/
theorem PageRing.reclaim_spec (m : Nat) (r : PageRing) :
    (r.reclaim m).entries = r.entries.dropWhile (fun e => !e.live) ∧ (r.reclaim m).fill = r.fill ∧
      (r.reclaim m).occupied = r.occupied - entryBlocks (r.entries.takeWhile fun e => !e.live) := by
  unfold PageRing.reclaim
  dsimp only
  split
  · rename_i h
    have hd := List.takeWhile_append_dropWhile (p := fun e : PageEntry => !e.live) (l := r.entries)
    rw [h, List.nil_append] at hd
    simp [h, hd]
  · exact ⟨rfl, rfl, rfl⟩

/-- Reclamation keeps a ring's law (R87, R94). -/
theorem PageRing.reclaim_lawful {m : Nat} {r : PageRing} (hr : r.lawful m) : (r.reclaim m).lawful m := by
  obtain ⟨o1, o2, o3, o4⟩ := hr
  unfold PageRing.reclaim
  dsimp only
  split
  · exact ⟨o1, o2, o3, o4⟩
  · have hs := entryBlocks_takeWhile_dropWhile (fun e => !e.live) r.entries
    refine ⟨by dsimp only; omega, by dsimp only; omega, ?_, ?_⟩
    · intro e he
      exact o3 e (List.dropWhile_sublist _ |>.subset he)
    · dsimp only
      rw [o4, Nat.mod_add_mod]
      congr 1
      omega

/-- The blocks of entries do not change when each keeps its length. -/
theorem entryBlocks_map (f : PageEntry → PageEntry) (hf : ∀ e, (f e).length = e.length) (es : List PageEntry) :
    entryBlocks (es.map f) = entryBlocks es := by
  induction es with
  | nil => rfl
  | cons e rest ih => simp [hf, ih]

/-- Changes to entries that keep their lengths keep a ring's law. -/
theorem PageRing.lawful_map {m : Nat} {r : PageRing} (hr : r.lawful m) (f : PageEntry → PageEntry)
    (hf : ∀ e, (f e).length = e.length) : ({ r with entries := r.entries.map f } : PageRing).lawful m := by
  obtain ⟨o1, o2, o3, o4⟩ := hr
  refine ⟨by simpa [entryBlocks_map f hf] using o1, o2, ?_, o4⟩
  intro e he
  obtain ⟨x, hx, rfl⟩ := List.mem_map.mp he
  simpa [hf] using o3 x hx

@[simp] theorem PageEntry.release_length (e : PageEntry) : e.release.length = e.length := by
  unfold PageEntry.release; split <;> rfl

@[simp] theorem PageEntry.release_owner (e : PageEntry) : e.release.owner = e.owner := by
  unfold PageEntry.release; split <;> rfl

/-- A release keeps a ring's law (R87, R94). -/
theorem PageRing.release_lawful {m : Nat} {r : PageRing} (hr : r.lawful m) (p : PageEntry → Bool) :
    (r.release m p).lawful m :=
  PageRing.reclaim_lawful (PageRing.lawful_map hr _ fun e => by split <;> simp)

/-- A FILLED mark keeps a ring's law (R87, R93). -/
theorem PageRing.fillEntry_lawful {m : Nat} {r : PageRing} (hr : r.lawful m) (owner page : Nat) :
    (r.fillEntry owner page).lawful m :=
  PageRing.lawful_map hr _ fun e => by split <;> rfl

/-- The empty ring is lawful for every modulus. -/
theorem PageRing.initial_lawful (m : Nat) : PageRing.initial.lawful m :=
  ⟨rfl, Nat.zero_le _, by simp [PageRing.initial], (Nat.zero_mod m).symm⟩

-- Accounts --------------------------------------------------------------------------------------------------------

/-- A sum held at its limits lies within them (R168). -/
theorem holdSigned_bounds (x : Int) :
    -(Config.maxSum : Int) ≤ holdSigned x ∧ holdSigned x ≤ (Config.maxSum : Int) := by
  unfold holdSigned; simp only [Config.maxSum]; omega

/-- A sum within its limits is not held (R168). -/
theorem holdSigned_eq {x : Int} (h : -(Config.maxSum : Int) ≤ x) (h' : x ≤ (Config.maxSum : Int)) : holdSigned x = x := by
  unfold holdSigned; omega

/-- A charge keeps an account's law (R168, R171). -/
theorem Account.charge_lawful {a : Account} (h : a.lawful) (fee pages : Nat) : (a.charge fee pages).lawful := by
  obtain ⟨h1, h2, h3, h4, h5, h6, h7, h8, h9, h10, h11⟩ := h
  have hb := holdSigned_bounds (a.pending + fee)
  refine ⟨h1, h2, Nat.mod_lt _ (by omega), hb.1, hb.2, h6, h7, Nat.min_le_left .., h9, Nat.min_le_left .., ?_⟩
  intro hc
  simp only [Account.charge, Bool.or_eq_false_iff, decide_eq_false_iff_not, ne_eq, not_not, Nat.not_lt] at hc
  obtain ⟨⟨⟨c1, c2⟩, c3⟩, -⟩ := hc
  have := h11 c1
  simp only [Account.charge, c2, Nat.min_eq_right c3]
  omega

/-- A settlement keeps an account's law (R168, R172). -/
theorem Account.settleBy_lawful {a : Account} (h : a.lawful) (amount : Nat) : (a.settleBy amount).lawful := by
  obtain ⟨h1, h2, h3, h4, h5, h6, h7, h8, h9, h10, h11⟩ := h
  have hb := holdSigned_bounds (a.pending - amountApplied amount)
  refine ⟨h1, h2, h3, hb.1, hb.2, h6, h7, h8, Nat.min_le_left .., h10, ?_⟩
  intro hc
  simp only [Account.settleBy, Bool.or_eq_false_iff, decide_eq_false_iff_not, ne_eq, not_not, Nat.not_lt] at hc
  obtain ⟨⟨⟨c1, -⟩, c2⟩, c3⟩ := hc
  have := h11 c1
  simp only [Account.settleBy, c2, Nat.min_eq_right c3]
  omega

/-- DAY_CLOSE keeps an account's law (R168, R173). -/
theorem Account.closeDay_lawful {a : Account} (h : a.lawful) : a.closeDay.lawful := by
  obtain ⟨h1, h2, h3, h4, h5, h6, h7, -, -, -, -⟩ := h
  exact ⟨h1, h2, h3, h4, h5, h4, h5, by simp [Account.closeDay], by simp [Account.closeDay],
    by simp [Account.closeDay], by simp [Account.closeDay]⟩

-- Post queues and notices -----------------------------------------------------------------------------------------

/-- A post queue never passes four items (R180). -/
theorem offerTo_length (item : PostItem) (posts : List PostItem) (h : posts.length ≤ Config.maxPosts) :
    (offerTo item posts).length ≤ Config.maxPosts := by
  unfold offerTo
  split
  · simp; omega
  · split
    · rename_i last hl
      have : posts ≠ [] := by rintro rfl; simp at hl
      have := List.length_pos_iff.mpr this
      simp; omega
    · simp [Config.maxPosts]

/-- The fees of a post queue after an item is offered, where no merge is held at its limit (R180). -/
theorem offerTo_fees (item : PostItem) (posts : List PostItem)
    (h : ∀ q ∈ posts, q.fee + item.fee ≤ Config.maxPostFee) :
    ((offerTo item posts).map fun q => q.fee).sum = (posts.map fun q => q.fee).sum + item.fee := by
  unfold offerTo
  split
  · simp
  · split
    · rename_i last hl
      have hm : posts = posts.dropLast ++ [last] := by
        rw [List.getLast?_eq_some_iff] at hl
        obtain ⟨xs, rfl⟩ := hl
        simp
      have hf := h last (by rw [hm]; simp)
      conv_rhs => rw [hm]
      simp [PostItem.merge, Nat.min_eq_right hf, Nat.add_assoc]
    · rename_i hl
      simp [List.getLast?_eq_none_iff.mp hl]

theorem Notice.sameSubject_self (n : Notice) : n.sameSubject n = true := by cases n <;> simp [Notice.sameSubject]

/-- A notice that is queued is there or was lost with the flag set (R194). -/
theorem queueNotice_noted (n : Notice) (s : State) : (queueNotice n s).noted n := by
  unfold queueNotice State.noted
  simp only [State.modLink_link]
  split
  · rename_i h
    obtain ⟨m, hm, hs⟩ := List.any_eq_true.mp h
    exact .inl (List.mem_map.mpr ⟨m, hm, by simp [hs]⟩)
  · split
    · exact .inl (by simp)
    · exact .inr rfl

/-- The notice queue never passes 64 notices (R194). -/
theorem queueNotice_length (n : Notice) (s : State) (h : s.link.notices.length ≤ Config.maxNotices) :
    (queueNotice n s).link.notices.length ≤ Config.maxNotices := by
  unfold queueNotice
  simp only [State.modLink_link]
  split
  · simpa using h
  · split
    · simp; omega
    · exact h

/-- The notices-lost flag is not cleared by a notice (R194). -/
theorem queueNotice_lost (n : Notice) (s : State) (h : s.link.lost = true) : (queueNotice n s).link.lost = true := by
  unfold queueNotice
  simp only [State.modLink_link]
  split
  · exact h
  · split
    · exact h
    · rfl

-- The requests' common path ---------------------------------------------------------------------------------------

/-- A free decoder hands a request to its owner at once, and the arbiter chooses at this event (R187, R189). -/
theorem offer_free {i : Instr} {take : State → State} {s : State} (h : s.decoderFree = true) :
    offer i take s = arbitrate (take s) := if_pos h

/-- In READY the screen of R14 passes a request on. -/
theorem screened_ready {tag : Byte} {take : State → State} {s : State} (h : s.condition = .ready) :
    screened tag take s = take s := by simp [screened, h]

/-- In UNFORMATTED the screen of R14 answers NOT_FORMATTED. -/
theorem screened_unformatted {tag : Byte} {take : State → State} {s : State} (h : s.condition = .unformatted) :
    screened tag take s = refuse tag .notFormatted s := by simp [screened, h]

-- What a drive and the picker may begin -----------------------------------------------------------------------------

/-- The entry an arriving page fills is a LIVE AWAITING entry of its lodgement. -/
theorem State.arriving_spec {s : State} {n : Nat} {e : PageEntry} (h : s.arriving n = some e) :
    e.owner = n ∧ e.live = true ∧ e.filled = false ∧ e ∈ (s.rings[filingRing]).entries := by
  have hp := List.find?_some h
  simp only [Bool.and_eq_true, decide_eq_true_eq, Bool.not_eq_true'] at hp
  exact ⟨hp.1.1, hp.1.2, hp.2, List.mem_of_find?_eq_some h⟩

/-- Write work is ready on a drive exactly for the lodgement in hand in step READY, over its extent, where the drive mounts the
active filing side with that work in its list. -/
theorem State.readyWrite_iff {s : State} {d : DriveNo} {n : Nat} {e : Location} :
    s.readyWrite d = some (n, e) ↔ s.filing.hand = some (n, .ready) ∧ s.extentOf n = some e ∧
      (s.drives[d]).work.contains (.write n) = true ∧
      ∃ sd, s.lib.active = some sd ∧ (s.drives[d]).mountsSide sd = true := by
  unfold State.readyWrite
  split
  · next m sd hm hs =>
    simp only [hm, hs, Option.some.injEq, Prod.mk.injEq, and_true, exists_eq_left']
    split
    · next hc =>
      rw [Bool.and_eq_true] at hc
      simp only [Option.map_eq_some_iff, Prod.mk.injEq]
      constructor
      · rintro ⟨x, hx, rfl, rfl⟩; exact ⟨rfl, hx, hc⟩
      · rintro ⟨rfl, hx, -⟩; exact ⟨e, hx, rfl, rfl⟩
    · next hc =>
      rw [Bool.and_eq_true] at hc
      constructor
      · nofun
      · rintro ⟨rfl, -, hw⟩; exact absurd hw hc
  · next hno =>
    constructor
    · nofun
    · rintro ⟨hm, -, -, sd, hs, -⟩; exact absurd hs (hno n sd hm)

/-- A task the picker can begin has the destination of Table 4-3, and does not pick while the grip holds a cartridge. -/
theorem State.taskTarget_eq_some {s : State} {t : Task} {p : PickPoint} :
    s.taskTarget t = some p ↔ s.destination t = some p ∧ (s.gripHeld = false ∨ t.fromGrip = true) := by
  unfold State.taskTarget
  cases s.gripHeld <;> cases t.fromGrip <;> simp

-- The arbiter and the counter line ----------------------------------------------------------------------------------

/-- Whatever each of the arbiter's placings keeps, the arbiter keeps. -/
theorem arbiterChoose_kept {P : State → Prop} {s : State} (hs : P s) (ha : P (placeAnswer s)) (hn : P (placeNotice s))
    (hp : P (beginPageOut s)) : P (arbiterChoose s) := by
  simp only [arbiterChoose]
  repeat' split
  all_goals assumption

/-- Whatever a choice of the arbiter keeps, the end of an event keeps. -/
theorem arbitrate_kept {P : State → Prop} (h : ∀ s, P s → P (arbiterChoose s)) {s : State} (hs : P s) :
    P (arbitrate s) := by
  have run : ∀ n t, P t → P (arbiterRun n t) := by
    intro n
    induction n with
    | zero => exact fun _ ht => ht
    | succ n ih => exact fun t ht => ih _ (h t ht)
  exact run _ _ hs

/-- While a PAGE_OUT streams, nothing else is placed (R189). -/
theorem arbitrate_streaming {s : State} {st : Stream} (h : s.link.streaming = some st) : arbitrate s = s :=
  arbitrate_kept (P := fun t => t = s) (fun t ht => by subst ht; simp only [arbiterChoose, h]) rfl

theorem levelFell_idle {s : State} (h : s.link.streaming = none) : levelFell s = arbitrate s := by
  simp only [levelFell, h]

theorem arbiterChoose_placing {s : State} {p : Placing} (h : s.link.streaming = none) (hp : s.link.decoder = .placing p) :
    arbiterChoose s = placeAnswer s := by
  simp only [arbiterChoose, h, hp, Decoder.isPlacing, if_true]

/-- A choice that places nothing is the last: where the arbiter leaves the state as it is, so does the whole run. -/
theorem arbitrate_idle {s : State} (h : arbiterChoose s = s) : arbitrate s = s :=
  arbitrate_kept (P := fun t => t = s) (fun t ht => by subst ht; exact h) rfl

@[simp] theorem pollReply_none (n : CounterNo) (s : State) : pollReply n [0] s = attemptGood n s := rfl

@[simp] theorem pollReply_settlement (n : CounterNo) (a b c d : Byte) (s : State) :
    pollReply n [1, a, b, c, d] s = settleCounter n (fromBe [a, b, c, d]) (attemptGood n s) := rfl

-- The counter line ---------------------------------------------------------------------------------------------

/-- A clock held low bars every transaction (R178). -/
theorem lineChoose_held (s : State) (h : s.line.clockHeld = true) : lineChoose s = s := by
  simp [lineChoose, h]

/-- The controller's choice leaves a transaction in progress (R175). -/
theorem lineChoose_busy (s : State) (h : s.line.trans ≠ none) : lineChoose s = s := by
  simp [lineChoose, h]

-- Message bytes ------------------------------------------------------------------------------------------------

/-- A number of queued tasks up to 255 is sent as it is (R84, Table 11-7). -/
theorem queuedByte_small (n : Nat) (h : n ≤ 255) : queuedByte n = BitVec.ofNat 8 n := if_pos h

end Sys2Proof.Machine
end

