-- ==== Sys2Proof/Laws/Frames.lean ====
section
/-!
SUPPORT. The frames of the shared operations: the mechanics, the fetch scheduler and the write engine leave the desk (directory,
fees, counter line, configuration, staging memory, time base, conditions) and the link's port (all of the link but its notice queue)
as they were. One lemma for each operation, about `State.shell`.
-/
namespace Sys2Proof.Machine

/-- The desk and the link's port together. -/
def State.shell (s : State) : Desk × Link := (s.desk, s.link.port)

theorem desk_of_shell {s t : State} (h : t.shell = s.shell) : t.desk = s.desk := congrArg Prod.fst h
theorem port_of_shell {s t : State} (h : t.shell = s.shell) : t.link.port = s.link.port := congrArg Prod.snd h

/-- The end of an event that leaves the desk and the port to the arbiter alone: it leaves both as in `s`, or the arbiter chooses in
a state that has both as in `s`. -/
inductive EndsIn (s : State) : State → Prop where
  | same {t : State} : t.shell = s.shell → EndsIn s t
  | chosen {t : State} : t.shell = s.shell → EndsIn s (arbitrate t)

variable (s : State)

-- Updates of one group ----------------------------------------------------------------------------------------

@[simp] theorem State.modLib_shell (f : Library → Library) : (s.modLib f).shell = s.shell := rfl
@[simp] theorem State.modPicker_shell (f : Picker → Picker) : (s.modPicker f).shell = s.shell := rfl
@[simp] theorem State.modFetch_shell (f : Fetch → Fetch) : (s.modFetch f).shell = s.shell := rfl
@[simp] theorem State.modFiling_shell (f : Filing → Filing) : (s.modFiling f).shell = s.shell := rfl
@[simp] theorem State.modRings_shell (f) : (s.modRings f).shell = s.shell := rfl
@[simp] theorem State.modDrives_shell (f) : (s.modDrives f).shell = s.shell := rfl
@[simp] theorem State.modDrive_shell (d : DriveNo) (f : Drive → Drive) : (s.modDrive d f).shell = s.shell := rfl
@[simp] theorem State.modRing_shell (r : Fin 7) (f : PageRing → PageRing) : (s.modRing r f).shell = s.shell := rfl
@[simp] theorem State.modCart_shell (c : Nat) (f : Cartridge → Cartridge) : (s.modCart c f).shell = s.shell := rfl
@[simp] theorem State.modSide_shell (sd : SideId) (f : SideRecord → SideRecord) : (s.modSide sd f).shell = s.shell := rfl
@[simp] theorem State.modOrder_shell (n : Nat) (f : FetchOrder → FetchOrder) : (s.modOrder n f).shell = s.shell := rfl
@[simp] theorem State.modLodgement_shell (n : Nat) (f : Lodgement → Lodgement) :
    (s.modLodgement n f).shell = s.shell := rfl

@[simp] theorem queueNotice_port (n : Notice) : (queueNotice n s).link.port = s.link.port := by
  simp only [queueNotice, State.modLink]
  repeat' split
  all_goals rfl

@[simp] theorem queueNotice_shell (n : Notice) : (queueNotice n s).shell = s.shell := by
  simp [State.shell]

-- Folds -------------------------------------------------------------------------------------------------------

/-- What each drive's turn keeps, a round of the six drives keeps. -/
theorem forDrives_kept {P : State → Prop} {f : DriveNo → State → State} (h : ∀ d t, P t → P (f d t)) (hs : P s) :
    P (s.forDrives f) := by
  simp only [State.forDrives, allDrives, List.foldl]
  exact h _ _ (h _ _ (h _ _ (h _ _ (h _ _ (h _ _ hs)))))

/-- What each counter's turn keeps, a round of the twelve counters keeps. -/
theorem forCounters_kept {P : State → Prop} {f : CounterNo → State → State} (h : ∀ n t, P t → P (f n t)) (hs : P s) :
    P (s.forCounters f) := by
  simp only [State.forCounters, allCounters, List.foldl]
  exact h _ _ (h _ _ (h _ _ (h _ _ (h _ _ (h _ _ (h _ _ (h _ _ (h _ _ (h _ _ (h _ _ (h _ _ hs)))))))))))

/-- What each item's turn keeps, a fold keeps. -/
theorem foldl_kept {α : Type} {P : State → Prop} {f : State → α → State} (h : ∀ t x, P t → P (f t x)) :
    ∀ (xs : List α) (s : State), P s → P (xs.foldl f s)
  | [], _, hs => hs
  | x :: xs, s, hs => foldl_kept h xs (f s x) (h s x hs)

theorem forDrives_shell {f : DriveNo → State → State} (h : ∀ d t, (f d t).shell = t.shell) :
    (s.forDrives f).shell = s.shell :=
  forDrives_kept s (P := fun t => t.shell = s.shell) (fun d t ht => (h d t).trans ht) rfl

theorem foldl_shell {α : Type} {f : State → α → State} (h : ∀ t x, (f t x).shell = t.shell) (xs : List α) :
    (xs.foldl f s).shell = s.shell :=
  foldl_kept (P := fun t => t.shell = s.shell) (fun t x ht => (h t x).trans ht) xs s rfl

-- Rings -------------------------------------------------------------------------------------------------------

@[simp] theorem releaseIn_shell (r : Fin 7) (p : PageEntry → Bool) : (releaseIn r p s).shell = s.shell := rfl
@[simp] theorem releaseOrder_shell (n : Nat) : (releaseOrder n s).shell = s.shell :=
  forDrives_shell _ fun _ t => releaseIn_shell t _ _
@[simp] theorem releaseLodgement_shell (n : Nat) : (releaseLodgement n s).shell = s.shell := rfl

-- Picker ------------------------------------------------------------------------------------------------------

@[simp] theorem setReopening_shell : (setReopening s).shell = s.shell := rfl
@[simp] theorem recordStart_shell : (recordStart s).shell = s.shell := rfl
@[simp] theorem setActive_shell (t : Task) (p : PickPoint) : (setActive t p s).shell = s.shell := rfl
@[simp] theorem enqueue_shell (t : Task) : (enqueue t s).shell = s.shell := rfl
@[simp] theorem endTask_shell : (endTask s).shell = s.shell := rfl
@[simp] theorem dropReservation_shell (d : DriveNo) : (dropReservation d s).shell = s.shell := rfl

@[simp] theorem setHome_shell (c : Option Nat) (n : Nat) : (setHome c n s).shell = s.shell := by
  cases c <;> rfl

@[simp] theorem beginTask_shell (t : Task) (p : PickPoint) : (beginTask t p s).shell = s.shell := by
  simp only [beginTask]
  split <;> simp

@[simp] theorem pickerChoose_shell : (pickerChoose s).shell = s.shell := by
  simp only [pickerChoose]
  repeat' split
  all_goals simp

-- Drives and allocator ----------------------------------------------------------------------------------------

@[simp] theorem lingerJudge_shell (d : DriveNo) : (lingerJudge d s).shell = s.shell := rfl

@[simp] theorem askRelease_shell (d : DriveNo) : (askRelease d s).shell = s.shell := by
  simp only [askRelease]
  repeat' split
  all_goals simp

@[simp] theorem releaseUnrecorded_shell (d : DriveNo) : (releaseUnrecorded d s).shell = s.shell := by
  simp only [releaseUnrecorded]
  split <;> simp

@[simp] theorem retarget_shell : (retarget s).shell = s.shell := by
  simp only [retarget]
  repeat' split
  all_goals simp

@[simp] theorem slotOpened_shell : (slotOpened s).shell = s.shell := by
  rw [slotOpened, pickerChoose_shell, forDrives_shell _ fun d t => releaseUnrecorded_shell t d, retarget_shell]

@[simp] theorem allocate_shell (d : DriveNo) (sd : SideId) : (allocate d sd s).shell = s.shell := by
  simp [allocate]

@[simp] theorem allocateSide_shell (sd : SideId) : (allocateSide s sd).shell = s.shell := by
  simp only [allocateSide]
  repeat' split
  all_goals simp

@[simp] theorem runAllocator_shell : (runAllocator s).shell = s.shell := by
  simp only [runAllocator]
  repeat' split
  all_goals simp [foldl_shell _ allocateSide_shell]

@[simp] theorem workJoin_shell (d : DriveNo) (w : Work) : (workJoin d w s).shell = s.shell := by
  simp only [workJoin]
  repeat' split
  all_goals simp

@[simp] theorem withdrawLoad_shell (sd : SideId) : (withdrawLoad sd s).shell = s.shell := by
  simp only [withdrawLoad]
  repeat' split
  all_goals simp [foldl_shell _ fun t d => dropReservation_shell t d]

@[simp] theorem judgePin_shell (d : DriveNo) : (judgePin d s).shell = s.shell := by
  simp only [judgePin]
  repeat' split
  all_goals simp

@[simp] theorem judgePins_shell : (judgePins s).shell = s.shell := forDrives_shell _ fun d t => judgePin_shell t d

-- Runs and choices --------------------------------------------------------------------------------------------

@[simp] theorem beginWrite_shell (d : DriveNo) (n : Nat) (e : Location) : (beginWrite d n e s).shell = s.shell := rfl

@[simp] theorem settleIdle_shell (d : DriveNo) : (settleIdle d s).shell = s.shell := by
  simp only [settleIdle]
  repeat' split
  all_goals simp

@[simp] theorem holdRead_shell (d : DriveNo) : (holdRead d s).shell = s.shell := by
  simp only [holdRead]
  split <;> simp

@[simp] theorem beginIndexRead_shell (d : DriveNo) (o : FetchOrder) : (beginIndexRead d o s).shell = s.shell := rfl

@[simp] theorem beginPageRead_shell (d : DriveNo) (o : FetchOrder) (ls : List Nat) :
    (beginPageRead d o ls s).shell = s.shell := by
  simp only [beginPageRead]
  repeat' split
  all_goals simp

@[simp] theorem chooseRead_shell (d : DriveNo) (o : FetchOrder) : (chooseRead d o s).shell = s.shell := by
  simp only [chooseRead]
  split <;> simp

@[simp] theorem choose_shell (d : DriveNo) : (choose d s).shell = s.shell := by
  simp only [choose]
  repeat' split
  all_goals simp

@[simp] theorem chooseIfFree_shell (d : DriveNo) : (chooseIfFree d s).shell = s.shell := by
  simp only [chooseIfFree]
  split <;> simp

@[simp] theorem chooseIfStalled_shell (d : DriveNo) : (chooseIfStalled d s).shell = s.shell := by
  simp only [chooseIfStalled]
  split <;> simp

@[simp] theorem endRun_shell (d : DriveNo) : (endRun d s).shell = s.shell := rfl

@[simp] theorem discardEnding_shell (d : DriveNo) : (discardEnding d s).shell = s.shell := by simp [discardEnding]

@[simp] theorem wakeLowered_shell (before : State) : (wakeLowered before s).shell = s.shell :=
  forDrives_shell _ fun d t => by
    split <;> simp

@[simp] theorem removeOrder_shell (n : Nat) : (removeOrder n s).shell = s.shell := by
  rw [removeOrder, forDrives_shell _ fun d t => State.modDrive_shell t d _, State.modFetch_shell]

@[simp] theorem failOrder_shell (n : Nat) (r : FailReason) : (failOrder n r s).shell = s.shell := by
  simp only [failOrder]
  split <;> simp

@[simp] theorem failOrders_shell (ns : List Nat) (r : FailReason) : (failOrders ns r s).shell = s.shell :=
  foldl_shell _ (fun t n => failOrder_shell t n r) ns

-- The arbiter --------------------------------------------------------------------------------------------------

@[simp] theorem judgeOut_desk : (judgeOut s).desk = s.desk := by
  simp only [judgeOut]
  split
  · exact forDrives_kept _ (P := fun t => t.desk = s.desk) (fun d t ht => (desk_of_shell (chooseIfStalled_shell t d)).trans ht)
      rfl
  · rfl

@[simp] theorem putOut_desk (bs : List OutByte) : (putOut bs s).desk = s.desk := by simp [putOut]

@[simp] theorem pump_desk : (pump s).desk = s.desk := by
  simp only [pump]
  repeat' split
  all_goals simp

@[simp] theorem detectOverflow_desk : (detectOverflow s).desk = s.desk := by
  simp only [detectOverflow, State.modLink_desk, endRequest]
  split <;> rfl

@[simp] theorem noticeOverflow_desk : (noticeOverflow s).desk = s.desk := by
  simp only [noticeOverflow]
  split <;> simp

@[simp] theorem placeAnswer_desk : (placeAnswer s).desk = s.desk := by
  simp only [placeAnswer]
  repeat' split
  all_goals simp [putAnswer]

@[simp] theorem placeNotice_desk : (placeNotice s).desk = s.desk := by
  simp only [placeNotice]
  repeat' split
  all_goals simp [putNotice]

@[simp] theorem beginPageOut_desk : (beginPageOut s).desk = s.desk := by
  simp only [beginPageOut, startPageOut]
  repeat' split
  all_goals simp [markStreaming]

/-- The arbiter leaves the desk as it is. -/
@[simp] theorem arbitrate_desk : (arbitrate s).desk = s.desk :=
  arbitrate_kept (P := fun t => t.desk = s.desk) (fun t ht => arbiterChoose_kept (P := fun t => t.desk = s.desk) ht ((placeAnswer_desk t).trans ht)
    ((placeNotice_desk t).trans ht) ((beginPageOut_desk t).trans ht)) rfl

-- The write engine --------------------------------------------------------------------------------------------

@[simp] theorem setStep_shell (n : Nat) (k : EngineStep) : (setStep n k s).shell = s.shell := rfl
@[simp] theorem removeWrite_shell (n : Nat) : (removeWrite n s).shell = s.shell :=
  forDrives_shell _ fun d t => State.modDrive_shell t d _
@[simp] theorem recordExtent_shell (n : Nat) (e : Location) : (recordExtent n e s).shell = s.shell := rfl
@[simp] theorem overflowSide_shell (sd : SideId) : (overflowSide sd s).shell = s.shell := rfl
@[simp] theorem joinReady_shell (n : Nat) (d : DriveNo) : (joinReady n d s).shell = s.shell := by simp [joinReady]

@[simp] theorem seekDrive_shell (n : Nat) (sd : SideId) : (seekDrive n sd s).shell = s.shell := by
  simp only [seekDrive]
  split <;> simp

@[simp] theorem wantSpace_shell : (wantSpace s).shell = s.shell := by
  simp only [wantSpace]
  split <;> simp

@[simp] theorem askSide_shell (passes : Nat) : (askSide passes s).shell = s.shell := by
  induction passes generalizing s with
  | zero => rfl
  | succ passes ih =>
    simp only [askSide]
    repeat' split
    all_goals simp [ih]

@[simp] theorem engineAsk_shell : (engineAsk s).shell = s.shell := askSide_shell s _

@[simp] theorem engineTake_shell : (engineTake s).shell = s.shell := by
  simp only [engineTake]
  repeat' split
  all_goals simp

@[simp] theorem engineMounted_shell (d : DriveNo) : (engineMounted d s).shell = s.shell := by
  simp only [engineMounted]
  repeat' split
  all_goals simp

@[simp] theorem dropExtent_shell (n : Nat) : (dropExtent n s).shell = s.shell := by simp [dropExtent]

@[simp] theorem activeLost_shell : (activeLost s).shell = s.shell := by
  simp only [activeLost]
  repeat' split
  all_goals simp

@[simp] theorem leaveTable_shell (n : Nat) : (leaveTable n s).shell = s.shell := rfl

@[simp] theorem letGo_shell (n : Nat) : (letGo n s).shell = s.shell := by
  simp only [letGo]
  split <;> simp

@[simp] theorem retireSide_shell (sd : SideId) : (retireSide sd s).shell = s.shell := rfl

@[simp] theorem sideError_shell (sd : SideId) : (sideError sd s).shell = s.shell := by
  simp only [sideError]
  repeat' split
  all_goals simp

@[simp] theorem warnSpace_shell (sd : SideId) : (warnSpace sd s).shell = s.shell := by
  simp only [warnSpace]
  repeat' split
  all_goals simp

@[simp] theorem giveUp_shell (e : Location) : (giveUp e s).shell = s.shell := rfl
@[simp] theorem stopRuns_shell (n : Nat) : (stopRuns n s).shell = s.shell :=
  forDrives_shell _ fun d t => State.modDrive_shell t d _

@[simp] theorem meetDrives_shell : (meetDrives s).shell = s.shell :=
  forDrives_shell _ fun d t => by
    split <;> simp

-- The library -------------------------------------------------------------------------------------------------

@[simp] theorem clearActiveOf_shell (c : Nat) : (clearActiveOf c s).shell = s.shell := rfl
@[simp] theorem clearLeaving_shell (c : Nat) : (clearLeaving c s).shell = s.shell := rfl
@[simp] theorem blockSlot_shell (n : Nat) : (blockSlot n s).shell = s.shell := rfl
@[simp] theorem resetMailCarts_shell : (resetMailCarts s).shell = s.shell := rfl
@[simp] theorem freeMail_shell : (freeMail s).shell = s.shell := rfl
@[simp] theorem afterTask_shell : (afterTask s).shell = s.shell := by simp [afterTask]

@[simp] theorem modCartOf_shell (c : Option Nat) (f : Cartridge → Cartridge) : (modCartOf c f s).shell = s.shell := by
  cases c <;> rfl

@[simp] theorem enterCart_shell (c : Nat) (a b : Role) : (enterCart c a b s).shell = s.shell := by
  simp only [enterCart]
  split <;> simp

@[simp] theorem holdForMail_shell : (holdForMail s).shell = s.shell := rfl

@[simp] theorem acceptImport_shell (c : Nat) (a b : Role) (n : Nat) : (acceptImport c a b n s).shell = s.shell := by
  simp [acceptImport]

@[simp] theorem releaseFor_shell (p : Place) : (releaseFor p s).shell = s.shell := by
  cases p <;> simp [releaseFor]

@[simp] theorem acceptExport_shell (c : Nat) (p : Place) : (acceptExport c p s).shell = s.shell := by
  simp only [acceptExport, pickerChoose_shell, releaseFor_shell, enqueue_shell, judgePins_shell, clearActiveOf_shell,
    State.modLib_shell]

@[simp] theorem changeRole_shell (sd : SideId) (r : Role) : (changeRole sd r s).shell = s.shell := by
  unfold changeRole
  cases r
  · exact (runAllocator_shell _).trans ((judgePins_shell _).trans (by rw [State.modLib_shell, State.modSide_shell]))
  · exact (engineAsk_shell _).trans (by rw [State.modSide_shell])
  · exact (runAllocator_shell _).trans ((judgePins_shell _).trans (by rw [State.modLib_shell, State.modSide_shell]))

@[simp] theorem attach_shell (d : DriveNo) (n : Nat) : (attach d n s).shell = s.shell := by simp [attach]

@[simp] theorem enterOrder_shell (o : FetchOrder) : (enterOrder o s).shell = s.shell := rfl

@[simp] theorem placeOrder_shell (o : FetchOrder) : (placeOrder o s).shell = s.shell := by
  simp only [placeOrder]
  repeat' split
  all_goals simp

@[simp] theorem cancelOrder_shell (o : FetchOrder) : (cancelOrder o s).shell = s.shell := by
  simp only [cancelOrder]
  repeat' split
  all_goals simp

@[simp] theorem stageLodgement_shell (n : Nat) : (stageLodgement n s).shell = s.shell := by simp [stageLodgement]

@[simp] theorem countPage_shell (l : Lodgement) (n : Nat) : (countPage l n s).shell = s.shell := rfl

@[simp] theorem startIdle_shell (n : Nat) : (startIdle n s).shell = s.shell := rfl

@[simp] theorem admitPage_shell (l : Lodgement) (n : Nat) (g : PageRing) : (admitPage l n g s).shell = s.shell := rfl

-- Mechanism events --------------------------------------------------------------------------------------------

@[simp] theorem dropTask_shell (t : Task) : (dropTask t s).shell = s.shell := by
  simp only [dropTask]
  split <;> simp

@[simp] theorem endDriveTask_shell (a : Active) : (endDriveTask a s).shell = s.shell := by
  simp only [endDriveTask]
  split <;> simp

@[simp] theorem pickerFaults_shell : (pickerFaults s).shell = s.shell := by
  simp only [pickerFaults]
  rw [failOrders_shell, foldl_shell _ fun t k => dropTask_shell t k, forDrives_shell _ fun d t => State.modDrive_shell t d _]
  split <;> simp

@[simp] theorem leavePoint_shell (p : PickPoint) : (leavePoint p s).shell = s.shell := by
  cases p <;> simp [leavePoint]

@[simp] theorem pickDone_shell (p : PickPoint) (a : Active) : (pickDone p a s).shell = s.shell := by simp [pickDone]

@[simp] theorem picked_shell (p : PickPoint) : (picked p s).shell = s.shell := by
  simp only [picked]
  repeat' split
  all_goals simp

@[simp] theorem emptyDrive_shell (a : Active) : (emptyDrive a s).shell = s.shell := by
  simp only [emptyDrive]
  split <;> simp

@[simp] theorem importPlaced_shell (a : Active) (n : Nat) : (importPlaced a n s).shell = s.shell := by
  simp only [importPlaced]
  split <;> simp

@[simp] theorem trapPlaced_shell (d : DriveNo) (c : Option Nat) : (trapPlaced d c s).shell = s.shell := by
  simp only [trapPlaced]
  repeat' split
  all_goals simp

@[simp] theorem mailNotice_shell (a : Active) : (mailNotice a s).shell = s.shell := by
  simp only [mailNotice]
  split <;> simp

@[simp] theorem placeInSlot_shell (n : Nat) (a : Active) : (placeInSlot n a s).shell = s.shell := by simp [placeInSlot]

@[simp] theorem placeInDrive_shell (d : DriveNo) (a : Active) : (placeInDrive d a s).shell = s.shell := by
  simp only [placeInDrive]
  split <;> simp

@[simp] theorem placeInMail_shell (a : Active) : (placeInMail a s).shell = s.shell := by simp [placeInMail]

@[simp] theorem placeDone_shell (p : PickPoint) (a : Active) : (placeDone p a s).shell = s.shell := by
  cases p <;> simp [placeDone]

theorem placed_endsIn (p : PickPoint) : EndsIn s (placed p s) := by
  simp only [placed]
  repeat' split
  · exact .chosen (by simp)
  all_goals exact .same rfl

@[simp] theorem retargetTask_shell (a : Active) : (retargetTask a s).shell = s.shell := by
  simp only [retargetTask]
  split <;> simp

@[simp] theorem slotOccupied_shell (n : Nat) : (slotOccupied n s).shell = s.shell := by
  simp only [slotOccupied]
  repeat' split
  all_goals simp

@[simp] theorem removeImport_shell (c : Nat) : (removeImport c s).shell = s.shell := by
  simp only [removeImport]
  split <;> simp

@[simp] theorem takeOut_shell : (takeOut s).shell = s.shell := by
  simp only [takeOut]
  repeat' split
  all_goals simp

theorem mailEmptied_endsIn : EndsIn s (mailEmptied s) := by
  simp only [mailEmptied]
  split
  · exact .chosen (by simp)
  · exact .same rfl

-- Drive events ------------------------------------------------------------------------------------------------

@[simp] theorem attachWaiting_shell (d : DriveNo) : (attachWaiting d s).shell = s.shell := by
  simp only [attachWaiting]
  repeat' split
  all_goals simp [foldl_shell _ fun t n => attach_shell t d n]

@[simp] theorem spinUp_shell (d : DriveNo) : (spinUp d s).shell = s.shell := by
  simp only [spinUp]
  split <;> simp

@[simp] theorem spinDown_shell (d : DriveNo) : (spinDown d s).shell = s.shell := by
  simp only [spinDown]
  repeat' split
  all_goals simp

theorem indexRead_endsIn (d : DriveNo) (n : Nat) (ls : List Nat) : EndsIn s (indexRead d n ls s) := by
  simp only [indexRead]
  repeat' split
  · exact .same (by simp)
  · exact .chosen (by simp)
  · exact .same (by simp)

@[simp] theorem countRead_shell (d : DriveNo) (n : Nat) : (countRead d n s).shell = s.shell := by
  simp only [countRead]
  repeat' split
  all_goals simp

theorem readError_endsIn (d : DriveNo) (n : Nat) : EndsIn s (readError d n s) := by
  simp only [readError, secondError]
  repeat' split
  · exact .chosen (by simp)
  all_goals exact .same (by simp)

@[simp] theorem clearTrapped_shell (c : Option Nat) : (clearTrapped c s).shell = s.shell := by
  cases c <;> simp [clearTrapped]

@[simp] theorem turnLoad_shell (a : Active) : (turnLoad a s).shell = s.shell := by
  simp only [turnLoad]
  repeat' split
  all_goals simp

@[simp] theorem endTasksOf_shell (d : DriveNo) : (endTasksOf d s).shell = s.shell := by
  simp only [endTasksOf]
  repeat' split
  all_goals simp

@[simp] theorem failForFault_shell (r : Drive) (c : Option Nat) : (failForFault r c s).shell = s.shell := by
  simp only [failForFault]
  split <;> simp

end Sys2Proof.Machine
end

