-- ==== Sys2Proof/Laws/Memory.lean ====
section
/-!
SUPPORT. Staging memory: reads after writes, that every operation keeps the canonical form, and that a page's bytes go to its
blocks alone (R87, R91, R93).
-/
namespace Sys2Proof.Machine

@[simp] theorem Memory.read_nil (a : Nat) : Memory.read [] a = 0 := rfl

@[simp] theorem Memory.wf_nil : Memory.wf [] = true := rfl

theorem Memory.wf_cons (k : Nat) (v : Byte) (m : Memory) :
    Memory.wf ((k, v) :: m) = true ↔ v ≠ 0 ∧ (∀ c ∈ m, k < c.1) ∧ Memory.wf m = true := by
  simp [Memory.wf, and_assoc]

/-- Every address a write lists was listed or is the one written. -/
theorem Memory.write_mem (m : Memory) (a : Nat) (b : Byte) : ∀ c ∈ m.write a b, c = (a, b) ∨ c ∈ m := by
  induction m with
  | nil => intro c hc; simp only [Memory.write] at hc; split at hc <;> simp_all
  | cons p rest ih =>
    obtain ⟨k, v⟩ := p
    intro c hc
    simp only [Memory.write] at hc
    split at hc
    · split at hc <;> simp_all
    · split at hc
      · split at hc <;> simp_all <;> tauto
      · rcases List.mem_cons.mp hc with h | h
        · exact .inr (by simp [h])
        · rcases ih c h with h' | h'
          · exact .inl h'
          · exact .inr (List.mem_cons_of_mem _ h')

/-- A write keeps the canonical form. -/
theorem Memory.write_wf (m : Memory) (a : Nat) (b : Byte) (h : m.wf = true) : (m.write a b).wf = true := by
  induction m with
  | nil => simp only [Memory.write]; split <;> simp_all [Memory.wf]
  | cons p rest ih =>
    obtain ⟨k, v⟩ := p
    have hs := h
    rw [Memory.wf_cons] at h
    obtain ⟨hv, hk, hr⟩ := h
    simp only [Memory.write]
    split
    · split
      · exact hs
      · rename_i hak hb
        refine (Memory.wf_cons ..).mpr ⟨hb, fun c hc => ?_, hs⟩
        rcases List.mem_cons.mp hc with rfl | hc
        · exact hak
        · exact Nat.lt_trans hak (hk c hc)
    · split
      · rename_i hka
        subst hka
        split
        · exact hr
        · rename_i hb; exact (Memory.wf_cons ..).mpr ⟨hb, hk, hr⟩
      · refine (Memory.wf_cons ..).mpr ⟨hv, fun c hc => ?_, ih hr⟩
        rcases Memory.write_mem rest a b c hc with rfl | hc
        · simp only; omega
        · exact hk c hc

/-- An address below every listed one reads 0. -/
theorem Memory.read_below (m : Memory) (a : Nat) (h : ∀ c ∈ m, a < c.1) : m.read a = 0 := by
  cases m with
  | nil => rfl
  | cons p rest => simp [Memory.read, h p (by simp)]

/-- An address reads the byte last written to it. -/
theorem Memory.read_write (m : Memory) (a : Nat) (b : Byte) (h : m.wf = true) : (m.write a b).read a = b := by
  induction m with
  | nil => simp only [Memory.write]; split <;> simp_all [Memory.read]
  | cons p rest ih =>
    obtain ⟨k, v⟩ := p
    obtain ⟨hv, hk, hr⟩ := (Memory.wf_cons ..).mp h
    simp only [Memory.write]
    split
    · split <;> simp_all [Memory.read]
    · split
      · rename_i hka
        subst hka
        split
        · rename_i hb; rw [Memory.read_below rest a hk, hb]
        · simp [Memory.read]
      · rename_i h1 h2; simp [Memory.read, h1, h2, ih hr]

/-- A write leaves every other address as it was. -/
theorem Memory.read_write_other (m : Memory) (a x : Nat) (b : Byte) (hx : x ≠ a) (h : m.wf = true) :
    (m.write a b).read x = m.read x := by
  induction m with
  | nil =>
    simp only [Memory.write]
    split
    · rfl
    · simp [Memory.read, hx]
  | cons p rest ih =>
    obtain ⟨k, v⟩ := p
    obtain ⟨hv, hk, hr⟩ := (Memory.wf_cons ..).mp h
    simp only [Memory.write]
    split
    · split
      · rfl
      · rename_i hak hb
        by_cases hxa : x < a
        · have : x < k := by omega
          simp [Memory.read, hxa, this]
        · simp [Memory.read, hxa, hx]
    · split
      · rename_i hka
        subst hka
        split
        · by_cases hxa : x < a
          · rw [Memory.read_below rest x (fun c hc => Nat.lt_trans hxa (hk c hc))]; simp [Memory.read, hxa]
          · simp [Memory.read, hxa, hx]
        · simp [Memory.read, hx]
      · simp [Memory.read, ih hr]

/-- Storing bytes of a page keeps the canonical form. -/
theorem Memory.storePage_wf (shape : RingShape) (start : Nat) :
    ∀ (bs : List Byte) (j : Nat) (m : Memory), m.wf = true → (Memory.storePage shape start j bs m).wf = true
  | [], _, _, h => h
  | _ :: bs, j, m, h => Memory.storePage_wf shape start bs (j + 1) _ (Memory.write_wf m _ _ h)

/-- Storing bytes of a page leaves every address outside the page's addresses as it was. -/
theorem Memory.storePage_other (shape : RingShape) (start x : Nat) :
    ∀ (bs : List Byte) (j : Nat) (m : Memory), m.wf = true →
      (∀ i, j ≤ i → i < j + bs.length → x ≠ pageAddress shape start i) →
      (Memory.storePage shape start j bs m).read x = m.read x
  | [], _, _, _, _ => rfl
  | b :: bs, j, m, h, hx => by
    rw [Memory.storePage, Memory.storePage_other shape start x bs (j + 1) _ (Memory.write_wf m _ _ h)
      (fun i h1 h2 => hx i (by omega) (by simp only [List.length_cons]; omega)),
      Memory.read_write_other m _ x b (hx j (Nat.le_refl j) (by simp only [List.length_cons]; omega)) h]

/-- Two bytes of one page stand at two addresses, when the page is no longer than its ring and the span lies within staging
memory. -/
theorem pageAddress_injective (shape : RingShape) (start i j : Nat) (hm : 1 ≤ shape.modulus)
    (hs : shape.base + shape.modulus ≤ Config.stagingBlocks) (hi : i < shape.modulus * 1024) (hj : j < shape.modulus * 1024)
    (h : pageAddress shape start i = pageAddress shape start j) : i = j := by
  simp only [pageAddress, Config.blockBytes, Config.stagingBlocks] at h hs
  have lt : ∀ k, shape.base + (start + k / 1024) % shape.modulus < 8192 := fun k => by
    have := Nat.mod_lt (start + k / 1024) hm; omega
  rw [Nat.mod_eq_of_lt (lt i), Nat.mod_eq_of_lt (lt j)] at h
  have hr : i % 1024 = j % 1024 := by omega
  have hb : (start + i / 1024) % shape.modulus = (start + j / 1024) % shape.modulus := by omega
  have hq : i / 1024 = j / 1024 := by
    have h1 : i / 1024 < shape.modulus := by omega
    have h2 : j / 1024 < shape.modulus := by omega
    have := Nat.ModEq.add_left_cancel' start hb
    rwa [Nat.ModEq, Nat.mod_eq_of_lt h1, Nat.mod_eq_of_lt h2] at this
  omega

/-- The bytes of a page read back as they were stored. -/
theorem Memory.loadPage_storePage (shape : RingShape) (start : Nat) (hm : 1 ≤ shape.modulus)
    (hs : shape.base + shape.modulus ≤ Config.stagingBlocks) :
    ∀ (bs : List Byte) (j : Nat) (m : Memory), m.wf = true → j + bs.length ≤ shape.modulus * 1024 →
      (Memory.storePage shape start j bs m).loadPage shape start j bs.length = bs
  | [], _, _, _, _ => rfl
  | b :: bs, j, m, h, hl => by
    simp only [List.length_cons] at hl
    simp only [Memory.storePage, List.length_cons, Memory.loadPage]
    rw [Memory.storePage_other shape start _ bs (j + 1) _ (Memory.write_wf m _ _ h)
        (fun i h1 h2 he => by
          have := pageAddress_injective shape start j i hm hs (by omega) (by omega) he
          omega),
      Memory.read_write m _ b h,
      Memory.loadPage_storePage shape start hm hs bs (j + 1) _ (Memory.write_wf m _ _ h) (by omega)]

/-- Staging memory right after reset is in its canonical form. -/
theorem reset_memory_wf : State.reset.staging.wf = true := rfl

end Sys2Proof.Machine
end

