-- ==== Sys2Proof/Laws/PerInstr.lean ====
section
/-!
SUPPORT. One law for each command: what the decoder's header check (R186) makes of the header a well-formed request carries.
-/
namespace Sys2Proof.Laws

open Sys2Proof.Machine

/-- What the header check answers for a command's kind and body length: no kind for UNKNOWN_KIND, a wrong length for BAD_FRAME, and
for every other request of the table a length its kind admits (R186, Table 11-3). -/
def HeaderCheck.verdict : Instr → Option Bool
  | .unknownKind _ _ _ => none
  | .badFrame _ _ _ => some false
  | _ => some true

/-- A well-formed request's header passes the check it is sent to meet. A command that is no request has no header. -/
def HeaderCheck.Statement (i : Instr) : Prop :=
  i.wellFormed = true → ∀ (kind tag : Byte) (n : Nat) (body : List Byte), requestFields i = some (kind, tag, n, body) →
    lengthAllowed kind n = HeaderCheck.verdict i

theorem HeaderCheck.format (tag : Byte) : HeaderCheck.Statement (.format tag) := by
  intro _ _ _ _ _ e
  simp only [requestFields, Option.some.injEq, Prod.mk.injEq] at e
  obtain ⟨rfl, -, rfl, -⟩ := e
  rfl

theorem HeaderCheck.lookup (tag : Byte) (title : Word24) : HeaderCheck.Statement (.lookup tag title) := by
  intro _ _ _ _ _ e
  simp only [requestFields, Option.some.injEq, Prod.mk.injEq] at e
  obtain ⟨rfl, -, rfl, -⟩ := e
  rfl

theorem HeaderCheck.list (tag : Byte) (first last : Word24) : HeaderCheck.Statement (.list tag first last) := by
  intro _ _ _ _ _ e
  simp only [requestFields, Option.some.injEq, Prod.mk.injEq] at e
  obtain ⟨rfl, -, rfl, -⟩ := e
  rfl

theorem HeaderCheck.newTitle (tag : Byte) (title : Word24) (feeClass : Byte) :
    HeaderCheck.Statement (.newTitle tag title feeClass) := by
  intro _ _ _ _ _ e
  simp only [requestFields, Option.some.injEq, Prod.mk.injEq] at e
  obtain ⟨rfl, -, rfl, -⟩ := e
  rfl

theorem HeaderCheck.setClass (tag : Byte) (title : Word24) (feeClass : Byte) :
    HeaderCheck.Statement (.setClass tag title feeClass) := by
  intro _ _ _ _ _ e
  simp only [requestFields, Option.some.injEq, Prod.mk.injEq] at e
  obtain ⟨rfl, -, rfl, -⟩ := e
  rfl

theorem HeaderCheck.retire (tag : Byte) (title : Word24) (count : Byte) (successors : List Word24) (stray : List Byte) :
    HeaderCheck.Statement (.retire tag title count successors stray) := by
  intro h kind _ n _ e
  simp only [Instr.wellFormed, Bool.and_eq_true, decide_eq_true_eq] at h
  simp only [requestFields, Option.some.injEq, Prod.mk.injEq] at e
  obtain ⟨rfl, -, rfl, -⟩ := e
  simp [lengthAllowed, HeaderCheck.verdict]
  omega

theorem HeaderCheck.importCart (tag : Byte) (cart : Word16) (roleA roleB : Byte) :
    HeaderCheck.Statement (.importCart tag cart roleA roleB) := by
  intro _ _ _ _ _ e
  simp only [requestFields, Option.some.injEq, Prod.mk.injEq] at e
  obtain ⟨rfl, -, rfl, -⟩ := e
  rfl

theorem HeaderCheck.exportCart (tag : Byte) (cart : Word16) : HeaderCheck.Statement (.exportCart tag cart) := by
  intro _ _ _ _ _ e
  simp only [requestFields, Option.some.injEq, Prod.mk.injEq] at e
  obtain ⟨rfl, -, rfl, -⟩ := e
  rfl

theorem HeaderCheck.sideRole (tag : Byte) (cart : Word16) (side role : Byte) :
    HeaderCheck.Statement (.sideRole tag cart side role) := by
  intro _ _ _ _ _ e
  simp only [requestFields, Option.some.injEq, Prod.mk.injEq] at e
  obtain ⟨rfl, -, rfl, -⟩ := e
  rfl

theorem HeaderCheck.shelfQuery (tag : Byte) (cart : Word16) : HeaderCheck.Statement (.shelfQuery tag cart) := by
  intro _ _ _ _ _ e
  simp only [requestFields, Option.some.injEq, Prod.mk.injEq] at e
  obtain ⟨rfl, -, rfl, -⟩ := e
  rfl

theorem HeaderCheck.timing (tag : Byte) (hold linger window promotion idle poll : SentSetting) :
    HeaderCheck.Statement (.timing tag hold linger window promotion idle poll) := by
  intro _ _ _ _ _ e
  simp only [requestFields, Option.some.injEq, Prod.mk.injEq] at e
  obtain ⟨rfl, -, rfl, -⟩ := e
  rfl

theorem HeaderCheck.driveQuery (tag : Byte) : HeaderCheck.Statement (.driveQuery tag) := by
  intro _ _ _ _ _ e
  simp only [requestFields, Option.some.injEq, Prod.mk.injEq] at e
  obtain ⟨rfl, -, rfl, -⟩ := e
  rfl

theorem HeaderCheck.ring (tag : Byte) (number : Byte) (base modulus : Word16) :
    HeaderCheck.Statement (.ring tag number base modulus) := by
  intro _ _ _ _ _ e
  simp only [requestFields, Option.some.injEq, Prod.mk.injEq] at e
  obtain ⟨rfl, -, rfl, -⟩ := e
  rfl

theorem HeaderCheck.order (tag : Byte) (title : Word24) (edition : Word16) (account kind : Byte) :
    HeaderCheck.Statement (.order tag title edition account kind) := by
  intro _ _ _ _ _ e
  simp only [requestFields, Option.some.injEq, Prod.mk.injEq] at e
  obtain ⟨rfl, -, rfl, -⟩ := e
  rfl

theorem HeaderCheck.cancel (tag : Byte) (number : Word16) : HeaderCheck.Statement (.cancel tag number) := by
  intro _ _ _ _ _ e
  simp only [requestFields, Option.some.injEq, Prod.mk.injEq] at e
  obtain ⟨rfl, -, rfl, -⟩ := e
  rfl

theorem HeaderCheck.orderQuery (tag : Byte) (number : Word16) : HeaderCheck.Statement (.orderQuery tag number) := by
  intro _ _ _ _ _ e
  simp only [requestFields, Option.some.injEq, Prod.mk.injEq] at e
  obtain ⟨rfl, -, rfl, -⟩ := e
  rfl

theorem HeaderCheck.lodge (tag : Byte) (title : Word24) (kind pages entry : Byte) :
    HeaderCheck.Statement (.lodge tag title kind pages entry) := by
  intro _ _ _ _ _ e
  simp only [requestFields, Option.some.injEq, Prod.mk.injEq] at e
  obtain ⟨rfl, -, rfl, -⟩ := e
  rfl

theorem HeaderCheck.pageIn (tag : Byte) (lodgement : Word16) (length : Byte) (bodyBytes : Nat) :
    HeaderCheck.Statement (.pageIn tag lodgement length bodyBytes) := by
  intro h kind _ n _ e
  have h : bodyBytes ≤ 64 * 1024 := of_decide_eq_true h
  simp only [requestFields, pageInFields, Option.some.injEq, Prod.mk.injEq] at e
  obtain ⟨rfl, -, rfl, -⟩ := e
  simp [lengthAllowed, HeaderCheck.verdict]
  omega

theorem HeaderCheck.pageInBodyEnd (data : List Byte) : HeaderCheck.Statement (.pageInBodyEnd data) := fun _ _ _ _ _ e => nomatch e

theorem HeaderCheck.abandon (tag : Byte) (number : Word16) : HeaderCheck.Statement (.abandon tag number) := by
  intro _ _ _ _ _ e
  simp only [requestFields, Option.some.injEq, Prod.mk.injEq] at e
  obtain ⟨rfl, -, rfl, -⟩ := e
  rfl

theorem HeaderCheck.lodgeQuery (tag : Byte) (number : Word16) : HeaderCheck.Statement (.lodgeQuery tag number) := by
  intro _ _ _ _ _ e
  simp only [requestFields, Option.some.injEq, Prod.mk.injEq] at e
  obtain ⟨rfl, -, rfl, -⟩ := e
  rfl

theorem HeaderCheck.feeClass (tag : Byte) (cls : Byte) (document rate certified historical : Word16) :
    HeaderCheck.Statement (.feeClass tag cls document rate certified historical) := by
  intro _ _ _ _ _ e
  simp only [requestFields, Option.some.injEq, Prod.mk.injEq] at e
  obtain ⟨rfl, -, rfl, -⟩ := e
  rfl

theorem HeaderCheck.duty (tag : Byte) (rate : Word16) : HeaderCheck.Statement (.duty tag rate) := by
  intro _ _ _ _ _ e
  simp only [requestFields, Option.some.injEq, Prod.mk.injEq] at e
  obtain ⟨rfl, -, rfl, -⟩ := e
  rfl

theorem HeaderCheck.account (tag : Byte) (number kind : Byte) (discount : Word16) :
    HeaderCheck.Statement (.account tag number kind discount) := by
  intro _ _ _ _ _ e
  simp only [requestFields, Option.some.injEq, Prod.mk.injEq] at e
  obtain ⟨rfl, -, rfl, -⟩ := e
  rfl

theorem HeaderCheck.accountQuery (tag : Byte) (number : Byte) : HeaderCheck.Statement (.accountQuery tag number) := by
  intro _ _ _ _ _ e
  simp only [requestFields, Option.some.injEq, Prod.mk.injEq] at e
  obtain ⟨rfl, -, rfl, -⟩ := e
  rfl

theorem HeaderCheck.settle (tag : Byte) (number : Byte) (amount : Word32) :
    HeaderCheck.Statement (.settle tag number amount) := by
  intro _ _ _ _ _ e
  simp only [requestFields, Option.some.injEq, Prod.mk.injEq] at e
  obtain ⟨rfl, -, rfl, -⟩ := e
  rfl

theorem HeaderCheck.dayClose (tag : Byte) : HeaderCheck.Statement (.dayClose tag) := by
  intro _ _ _ _ _ e
  simp only [requestFields, Option.some.injEq, Prod.mk.injEq] at e
  obtain ⟨rfl, -, rfl, -⟩ := e
  rfl

theorem HeaderCheck.counterLine (tag : Byte) (addrPrefix rate : Byte) :
    HeaderCheck.Statement (.counterLine tag addrPrefix rate) := by
  intro _ _ _ _ _ e
  simp only [requestFields, Option.some.injEq, Prod.mk.injEq] at e
  obtain ⟨rfl, -, rfl, -⟩ := e
  rfl

theorem HeaderCheck.linkLevels (tag : Byte) (hold resume halt haltResume trigger : Word16) :
    HeaderCheck.Statement (.linkLevels tag hold resume halt haltResume trigger) := by
  intro _ _ _ _ _ e
  simp only [requestFields, Option.some.injEq, Prod.mk.injEq] at e
  obtain ⟨rfl, -, rfl, -⟩ := e
  rfl

theorem HeaderCheck.queueReset (tag : Byte) : HeaderCheck.Statement (.queueReset tag) := by
  intro _ _ _ _ _ e
  simp only [requestFields, Option.some.injEq, Prod.mk.injEq] at e
  obtain ⟨rfl, -, rfl, -⟩ := e
  rfl

theorem HeaderCheck.unknownKind (tag kind : Byte) (body : List Byte) :
    HeaderCheck.Statement (.unknownKind tag kind body) := by
  intro h kind _ n _ e
  simp only [Instr.wellFormed, Bool.and_eq_true, decide_eq_true_eq] at h
  simp only [requestFields, Option.some.injEq, Prod.mk.injEq] at e
  obtain ⟨rfl, -, rfl, -⟩ := e
  exact h.1

theorem HeaderCheck.badFrame (tag kind : Byte) (body : List Byte) : HeaderCheck.Statement (.badFrame tag kind body) := by
  intro h kind _ n _ e
  simp only [Instr.wellFormed, Bool.and_eq_true, decide_eq_true_eq] at h
  simp only [requestFields, Option.some.injEq, Prod.mk.injEq] at e
  obtain ⟨rfl, -, rfl, -⟩ := e
  exact h.1

theorem HeaderCheck.wrStrobe (data : Byte) : HeaderCheck.Statement (.wrStrobe data) := fun _ _ _ _ _ e => nomatch e

theorem HeaderCheck.rdStrobe : HeaderCheck.Statement .rdStrobe := fun _ _ _ _ _ e => nomatch e

theorem HeaderCheck.answerPlaced : HeaderCheck.Statement .answerPlaced := fun _ _ _ _ _ e => nomatch e

theorem HeaderCheck.noticePlaced : HeaderCheck.Statement .noticePlaced := fun _ _ _ _ _ e => nomatch e

theorem HeaderCheck.pageOutBegin : HeaderCheck.Statement .pageOutBegin := fun _ _ _ _ _ e => nomatch e

theorem HeaderCheck.pageOutEnd : HeaderCheck.Statement .pageOutEnd := fun _ _ _ _ _ e => nomatch e

theorem HeaderCheck.fullReset (cause : ResetCause) (memoryKept : Bool) :
    HeaderCheck.Statement (.fullReset cause memoryKept) := fun _ _ _ _ _ e => nomatch e

theorem HeaderCheck.resetRelease : HeaderCheck.Statement .resetRelease := fun _ _ _ _ _ e => nomatch e

theorem HeaderCheck.mechanismResetCompletion (report : MechReport) :
    HeaderCheck.Statement (.mechanismResetCompletion report) := fun _ _ _ _ _ e => nomatch e

theorem HeaderCheck.pickCompletion (point : PickPoint) : HeaderCheck.Statement (.pickCompletion point) := fun _ _ _ _ _ e => nomatch e

theorem HeaderCheck.placementCompletion (point : PickPoint) : HeaderCheck.Statement (.placementCompletion point) := fun _ _ _ _ _ e => nomatch e

theorem HeaderCheck.targetSlotOccupied (slot : Nat) : HeaderCheck.Statement (.targetSlotOccupied slot) := fun _ _ _ _ _ e => nomatch e

theorem HeaderCheck.mailSlotPlaced : HeaderCheck.Statement .mailSlotPlaced := fun _ _ _ _ _ e => nomatch e

theorem HeaderCheck.mailSlotEmptied : HeaderCheck.Statement .mailSlotEmptied := fun _ _ _ _ _ e => nomatch e

theorem HeaderCheck.spinUpCompletion (d : DriveNo) : HeaderCheck.Statement (.spinUpCompletion d) := fun _ _ _ _ _ e => nomatch e

theorem HeaderCheck.spinDownCompletion (d : DriveNo) : HeaderCheck.Statement (.spinDownCompletion d) := fun _ _ _ _ _ e => nomatch e

theorem HeaderCheck.indexReadCompletion (d : DriveNo) (lengths : List Nat) :
    HeaderCheck.Statement (.indexReadCompletion d lengths) := fun _ _ _ _ _ e => nomatch e

theorem HeaderCheck.pageReadCompletion (d : DriveNo) (data : List Byte) :
    HeaderCheck.Statement (.pageReadCompletion d data) := fun _ _ _ _ _ e => nomatch e

theorem HeaderCheck.mediaError (d : DriveNo) : HeaderCheck.Statement (.mediaError d) := fun _ _ _ _ _ e => nomatch e

theorem HeaderCheck.writeRunCompletion (d : DriveNo) : HeaderCheck.Statement (.writeRunCompletion d) := fun _ _ _ _ _ e => nomatch e

theorem HeaderCheck.writeMediaError (d : DriveNo) : HeaderCheck.Statement (.writeMediaError d) := fun _ _ _ _ _ e => nomatch e

theorem HeaderCheck.verifyRunCompletion (d : DriveNo) (readBack : ReadBack) :
    HeaderCheck.Statement (.verifyRunCompletion d readBack) := fun _ _ _ _ _ e => nomatch e

theorem HeaderCheck.stopCompletion (d : DriveNo) : HeaderCheck.Statement (.stopCompletion d) := fun _ _ _ _ _ e => nomatch e

theorem HeaderCheck.driveFault (d : DriveNo) : HeaderCheck.Statement (.driveFault d) := fun _ _ _ _ _ e => nomatch e

theorem HeaderCheck.pickerFault : HeaderCheck.Statement .pickerFault := fun _ _ _ _ _ e => nomatch e

theorem HeaderCheck.holdExpiry (d : DriveNo) : HeaderCheck.Statement (.holdExpiry d) := fun _ _ _ _ _ e => nomatch e

theorem HeaderCheck.lingerExpiry (d : DriveNo) : HeaderCheck.Statement (.lingerExpiry d) := fun _ _ _ _ _ e => nomatch e

theorem HeaderCheck.reopeningExpiry : HeaderCheck.Statement .reopeningExpiry := fun _ _ _ _ _ e => nomatch e

theorem HeaderCheck.idleTimeout (lodgement : Word16) : HeaderCheck.Statement (.idleTimeout lodgement) := fun _ _ _ _ _ e => nomatch e

theorem HeaderCheck.pollIntervalExpiry : HeaderCheck.Statement .pollIntervalExpiry := fun _ _ _ _ _ e => nomatch e

theorem HeaderCheck.post (ending : PostEnd) : HeaderCheck.Statement (.post ending) := fun _ _ _ _ _ e => nomatch e

theorem HeaderCheck.poll (ending : PollEnd) : HeaderCheck.Statement (.poll ending) := fun _ _ _ _ _ e => nomatch e

theorem HeaderCheck.clockStretchTimeout : HeaderCheck.Statement .clockStretchTimeout := fun _ _ _ _ _ e => nomatch e

theorem HeaderCheck.clockRelease : HeaderCheck.Statement .clockRelease := fun _ _ _ _ _ e => nomatch e

theorem HeaderCheck.pollAddressAcknowledged : HeaderCheck.Statement .pollAddressAcknowledged := fun _ _ _ _ _ e => nomatch e

theorem HeaderCheck.clockHeldLow : HeaderCheck.Statement .clockHeldLow := fun _ _ _ _ _ e => nomatch e

end Sys2Proof.Laws
end

