-- ==== Sys2Proof/Tests/Slice0.lean ====
section
/-!
SUPPORT. Tests: ill-formed commands refused by each check, figures worked in the manual or by hand from it, and for every
obligation with hypotheses a state and operands that meet them.
-/
namespace Sys2Proof.Tests

open Sys2Proof Machine

-- Small states --------------------------------------------------------------------------------------------------

/-- The state after a command. -/
def after (c : Instr) (s : State) : State :=
  match exec c s with
  | .next t => t
  | _ => s

/-- The state after a command that finds a PAGE_OUT streaming from an empty ring, so that the arbiter chooses nothing and what the command
composed is seen (R189). -/
def held (c : Instr) (s : State) : State := after c { s with link := { s.link with streaming := some ⟨5, 0⟩ } }

/-- The bytes waiting to be read. -/
def sent (s : State) : List Byte := s.link.outbound.map fun b => b.value

/-- The answer waiting in PLACING. -/
def answered (s : State) : Option Answer :=
  match s.link.decoder with
  | .placing p => some p.answer
  | _ => none

/-- A READY part with nothing in it. -/
def ready : State := { State.reset with condition := .ready, formatMark := true }

def deedA : Location := ⟨3, .A, 0, 4, 2⟩
def deedB : Location := ⟨3, .A, 4, 3, 1⟩
def title5 : TitleRecord := TitleRecord.fresh 5 1
def title7 : TitleRecord :=
  { number := 7, status := .active, feeClass := 2, edition := 2, current := some deedB, priors := [⟨1, deedA⟩],
    entries := [⟨1, .charge, 1⟩, ⟨2, .caution, 2⟩], nextEntry := 3, successors := [], copies := 65535 }
def title9 : TitleRecord :=
  { number := 9, status := .closed, feeClass := 0, edition := 1, current := some ⟨3, .A, 7, 2, 1⟩, priors := [],
    entries := [], nextEntry := 1, successors := [5], copies := 0 }
def cart3 : Cartridge :=
  { number := 3, place := .slot 1, home := some 1, former := none, sideA := ⟨.filing, 9, 0, 7⟩, sideB := ⟨.archive, 0, 0, 0⟩ }
def cart4 : Cartridge :=
  { number := 4, place := .drive 0, home := some 2, former := some 9, sideA := ⟨.filing, 262141, 0, 255⟩,
    sideB := ⟨.full, 262144, 0, 8⟩ }

/-- Three titles, two cartridges, and drive 1 idle with cartridge 4. -/
def shelved : State := { ready with
  dir := { titles := [title5, title7, title9], count := 3, inUse := 2, reserved := 0 }
  lib := { ready.lib with carts := [cart3, cart4] }
  drives := ready.drives.set 0 { Drive.initial with state := .idle, mounted := some ⟨4, .A⟩ } }

/-- Title 7 free of its CAUTION, and the shelved state with it. -/
def title7c : TitleRecord := { title7 with entries := [⟨1, .charge, 1⟩] }
def clear7 : State := shelved.modTitle 7 fun _ => title7c

/-- An order of title 7's current deed, one page of two blocks. -/
def order1 : FetchOrder :=
  { number := 1, title := 7, edition := 2, loc := deedB, feeClass := 2, historical := false, pending := false,
    priority := .counter, account := 1, kind := .plain, takeIn := 0, state := .reading, drive := some 1, lengths := none,
    read := 0, delivered := 0, erred := false }

/-- Drive 2 mounts cartridge 3 and reads for order 1 a run of the given kind. -/
def reading (kind : RunKind) (page : Nat) (o : FetchOrder) : State := { shelved with
  drives := shelved.drives.set 1 { Drive.initial with
    state := .reading, mounted := some ⟨3, .A⟩, work := [.order 1], run := some ⟨kind, 1, page, deedB.region, .live⟩ }
  fetch := { queue := [o], last := 1 } }

/-- A lodgement of one page of one block on title 5. -/
def lodged (st : LodgeState) (received : Nat) (attempts : Nat) (extent : Option Location) : Lodgement :=
  { number := 2, title := 5, kind := .first, named := none, declared := 1, received := received, lengths := [1],
    held := received, state := st, staging := none, stagedNo := 0, attempts := attempts, extent := extent,
    lastActivity := 0, idle := none }

/-- The page of lodgement 2 in the filing ring. -/
def scan (filled : Bool) : PageEntry :=
  { owner := 2, page := 1, length := 1, start := 0, live := true, filled := filled, streaming := false, held := false }

/-- Lodgement 2 in the table, its page in the filing ring. -/
def filing (l : Lodgement) (filled : Bool) : State := { shelved with
  rings := shelved.rings.set 6 { drain := 0, fill := 1, occupied := 1, entries := [scan filled] }
  filing := { table := [l], last := 2, hand := none, wanting := false, stagedCount := 0 } }

/-- The verify run of lodgement 2 over two blocks of cartridge 4. -/
def verifyRun (start : Nat) : Run := ⟨.verify, 2, 0, ⟨⟨4, .A⟩, start, 2⟩, .live⟩

/-- Drive 1 writes or verifies lodgement 2 at the end of its side, in its first or second attempt. -/
def writing (st : DriveState) (l : LodgeState) (attempts : Nat) : State :=
  let s := filing (lodged l 1 attempts (some ⟨4, .A, 262141, 2, 1⟩)) true
  { s with
    filing := { s.filing with hand := some (2, .run) }
    lib := { s.lib with active := some ⟨4, .A⟩ }
    drives := s.drives.set 0 { Drive.initial with
      state := st, mounted := some ⟨4, .A⟩, run := some (verifyRun 262141), work := [.write 2], pin := true } }

/-- The picker carries out a task. -/
def picking (a : Active) : State := { shelved with picker := { shelved.picker with state := .busy, active := some a } }

/-- Drive 6 in a given state with cartridge 3. -/
def driven (st : DriveState) (hold : Option Nat) (pending : Bool) : State := { shelved with
  drives := shelved.drives.set 5 { Drive.initial with
    state := st, mounted := some ⟨3, .A⟩, hold := hold, releasePending := pending, linger := some 8 } }

/-- A LOAD of cartridge 3 into drive 6, and an EXPORT of it, each about to place. -/
def loading : Active :=
  { task := ⟨.load, some 3, .A, some 5⟩, picked := true, source := some (.slot 1), target := .drive 5, waiting := false,
    wasMounted := none }
def exporting : Active :=
  { task := ⟨.exportTask, some 3, .A, none⟩, picked := true, source := some (.slot 1), target := .mail, waiting := false,
    wasMounted := none }

/-- A part whose page halt is in force. -/
def halted : State := { ready with link := { ready.link with halt := true } }

/-- Bytes waiting to be read, the last of them the last of a message. -/
def unread (n : Nat) : List OutByte := List.replicate n ⟨0, false, false⟩ ++ [⟨7, true, false⟩]

/-- The answer DONE waiting to be placed. -/
def waitingAnswer : State := { ready with link := { ready.link with decoder := .placing ⟨1, .done, false, false⟩ } }

/-- Drive 1 streams the page at its ring's head for order 1, its last byte to come. -/
def streaming (st : OrderState) : State := { shelved with
  rings := shelved.rings.set 0 { drain := 0, fill := 1, occupied := 1, entries := [
    { owner := 1, page := 1, length := 1, start := 0, live := true, filled := true, streaming := true, held := false }] }
  fetch := { queue := [{ order1 with state := st, drive := none, read := 1 }], last := 1 }
  link := { shelved.link with streaming := some ⟨0, 1023⟩ } }

/-- Counter 1 has one item and a transaction is in progress. -/
def ringing (x : Transaction) (failures : Nat) : State := { ready with line := { ready.line with
  trans := some x
  counters := ready.line.counters.set 0 { present := true, failures := failures, due := false, posts := [⟨1, 100, 100⟩] } } }

-- The well-formedness checks ------------------------------------------------------------------------------------

theorem test_illFormed_retire_stray : (Instr.retire 0 7 1 [5] [1, 2, 3]).wellFormed = false := by decide
theorem test_illFormed_retire_long : (Instr.retire 0 7 8 (List.replicate 8 5) [1]).wellFormed = false := by decide
theorem test_illFormed_pageIn : (Instr.pageIn 0 1 64 65537).wellFormed = false := by decide
theorem test_illFormed_pageInBodyEnd (data : List Byte) (h : 65536 < data.length) :
    (Instr.pageInBodyEnd data).wellFormed = false := decide_eq_false (Nat.not_le.mpr h)
theorem test_illFormed_unknownKind : (Instr.unknownKind 0 0x1D []).wellFormed = false := by decide
theorem test_illFormed_unknownKind_long (body : List Byte) (h : 16777216 ≤ body.length) :
    (Instr.unknownKind 0 0x40 body).wellFormed = false := by
  simp only [Instr.wellFormed, bodyFits, Bool.and_eq_false_iff, decide_eq_false_iff_not]; omega
theorem test_illFormed_badFrame : (Instr.badFrame 0 0x02 [1, 2, 3]).wellFormed = false := by decide
theorem test_illFormed_badFrame_kind : (Instr.badFrame 0 0x40 []).wellFormed = false := by decide
theorem test_illFormed_pick : (Instr.pickCompletion (.slot 0)).wellFormed = false := by decide
theorem test_illFormed_placement : (Instr.placementCompletion (.slot 241)).wellFormed = false := by decide
theorem test_illFormed_occupied : (Instr.targetSlotOccupied 241).wellFormed = false := by decide
theorem test_illFormed_pageRead : (Instr.pageReadCompletion 0 [1]).wellFormed = false := by decide
theorem test_illFormed_pageRead_empty : (Instr.pageReadCompletion 0 []).wellFormed = false := by decide
theorem test_illFormed_pageRead_long (data : List Byte) (h : 65536 < data.length) :
    (Instr.pageReadCompletion 0 data).wellFormed = false := by
  have : ¬ data.length ≤ 64 * 1024 := by omega
  simp [Instr.wellFormed, pageData, Config.maxPageBlocks, Config.blockBytes, this]
theorem test_illFormed_idleTimeout : (Instr.idleTimeout 0).wellFormed = false := by decide
theorem test_illFormed_post : (Instr.post (.notAcknowledged 10)).wellFormed = false := by decide
theorem test_illFormed_poll_one : (Instr.poll (.reply [1])).wellFormed = false := by decide
theorem test_illFormed_poll_short : (Instr.poll (.reply [1, 0, 9])).wellFormed = false := by decide
theorem test_illFormed_poll_amount : (Instr.poll (.reply [2, 0, 0, 9, 0x60])).wellFormed = false := by decide
theorem test_illFormed_poll_empty : (Instr.poll (.reply [])).wellFormed = false := by decide

-- No row of the table gives bits --------------------------------------------------------------------------------

theorem test_no_table_word : decodeTableWord 8 0 = none := rfl

-- Requests as their bytes (Table 11-3, written out by hand) -----------------------------------------------------

theorem test_bytes_lookup : requestBytes (.lookup 0x11 0x015961) = [0x02, 0x11, 0, 0, 3, 0, 0x01, 0x59, 0x61] := by decide
theorem test_decode_retire : decodeRequest 0x06 1 10 [0, 0, 7, 2, 0, 0, 5, 0, 1, 0] = some (.retire 1 7 2 [5, 256] []) := by
  decide
theorem test_decode_settle : decodeRequest 0x19 9 5 [5, 0, 0, 0x09, 0x60] = some (.settle 9 5 2400) := by decide
theorem test_decode_pageIn : decodeRequest 0x12 3 1027 [0, 1, 1] = some (.pageIn 3 1 1 1024) := by decide

-- Fees: the worked cases of chapter 8 ---------------------------------------------------------------------------

theorem test_fee_certified_credit : feeOf ⟨300, 100, 450, 0⟩ 1750 1000 6 13 .certified false = 966 := by decide
theorem test_fee_tie_up : feeOf ⟨300, 100, 450, 0⟩ 1750 0 0 16 .plain false = 588 := by decide
theorem test_fee_tie_down : feeOf ⟨500, 100, 450, 0⟩ 1750 0 0 16 .plain false = 822 := by decide
theorem test_fee_historical : feeOf ⟨240, 37, 0, 600⟩ 1750 2500 3 5 .plain true = 759 := by decide
theorem test_fee_historical_phase0 : feeOf ⟨240, 37, 0, 600⟩ 1750 2500 0 5 .plain true = 761 := by decide
theorem test_fee_zero : feeOf ⟨0, 0, 0, 0⟩ 1750 0 5 9 .plain false = 0 := by decide
theorem test_fee_before_change : feeOf ⟨200, 96, 0, 0⟩ 1750 0 2 3 .plain false = 277 := by decide
theorem test_fee_after_change : feeOf ⟨200, 104, 0, 0⟩ 1750 0 5 3 .plain false = 281 := by decide

-- The settlement race of chapter 9, posting taken first ---------------------------------------------------------

def account5 : Account :=
  { kind := .credit, discount := 1000, phase := 6, pending := 2400, dayOpen := 1000, posted := 1900, settled := 500,
    charged := 3, clamp := false }

theorem test_posting_966 : (account5.charge 966 13).pending = 3366 ∧ (account5.charge 966 13).posted = 2866 ∧
    (account5.charge 966 13).phase = 3 := by decide
theorem test_settling_2400 : ((account5.charge 966 13).settleBy 2400).pending = 966 ∧
    ((account5.charge 966 13).settleBy 2400).settled = 2900 ∧ ((account5.charge 966 13).settleBy 2400).clamp = false := by
  decide

-- The counter line's bytes (section 11.6) -----------------------------------------------------------------------

theorem test_post_bytes : (Transaction.post 4 ⟨9301, 966, 3366⟩ false 5 1).bytesSent =
    [0xAA, 0x24, 0x55, 0x00, 0x03, 0xC6, 0x00, 0x00, 0x0D, 0x26] := by decide
theorem test_post_negative : beSigned (-150) = [0xFF, 0xFF, 0xFF, 0x6A] := by decide
theorem test_poll_bytes_counter1 : (Transaction.poll 0 false 5 1).bytesSent = [0xA2, 1, 0xA3] := by decide
theorem test_poll_reply_2400 : fromBe [0, 0, 0x09, 0x60] = 2400 := by decide
theorem test_poll_bytes_counter12 : (Transaction.poll 11 false 5 1).bytesSent = [0xB8, 1, 0xB9] := by decide

-- Reshaping the rings (the worked example of chapter 5) ---------------------------------------------------------

theorem test_ring_overlap : answered (held (.ring 1 3 2500 1500) ready) = some (.refused .ringOverlap) := by decide
theorem test_ring_overlap_filing : answered (held (.ring 1 4 7000 30) ready) = some (.refused .ringOverlap) := by decide
theorem test_ring_done : answered (held (.ring 1 7 6144 1024) ready) = some (.ring 7 6144 1024 1024) := by decide

-- The hypotheses of the obligations are met ---------------------------------------------------------------------

theorem meets_StepRunsFrontCommand : ({ ready with pending := [.rdStrobe] } : State).pending = .rdStrobe :: [] := rfl

/-- A reading decoder and an inbound FIFO that the request's nine bytes fill exactly. -/
def nearlyFull : State := { ready with link := { ready.link with
  decoder := .header [2], inbound := List.replicate 1015 0, hold := true } }

theorem meets_HeldRequestJoinsTheFifo : (requestFields (.lookup 1 7)).isSome = true ∧ nearlyFull.decoderFree = false ∧
    nearlyFull.resetHeld = false ∧ nearlyFull.link.recovering = false ∧ nearlyFull.link.discarding = false ∧
    nearlyFull.link.inbound.length + (requestBytes (.lookup 1 7)).length ≤ 1024 := by
  refine ⟨rfl, rfl, rfl, rfl, rfl, ?_⟩
  rw [show nearlyFull.link.inbound = List.replicate 1015 0 from rfl, List.length_replicate]; decide

theorem meets_RequestsAreScreenedBeforeTheirOwner : State.reset.decoderFree = true ∧ ready.decoderFree = true ∧
    24 < 3 * (List.replicate 8 (5 : Word24)).length + [(1 : Byte)].length ∧ 65536 < 65537 ∧ (1 ≤ 65536 ∧ 65536 ≤ 65536) ∧
    State.reset.condition = .unformatted ∧ (Instr.lookup 1 7).wellFormed = true ∧
    requestFields (.lookup 1 7) = some (0x02, 1, 3, [0, 0, 7]) ∧ lengthAllowed 0x02 3 = some true ∧
    (0x02 : Byte) ≠ 0x01 ∧ (0x02 : Byte) ≠ 0x1C ∧ (0x02 : Byte) ≠ 0x1D ∧ (0x02 : Byte) ≠ pageInKind := by decide

theorem meets_RequestFieldsRoundTrip : (Instr.retire 1 7 2 [5, 256] []).wellFormed = true ∧
    requestFields (.retire 1 7 2 [5, 256] []) = some (0x06, 1, 10, [0, 0, 7, 2, 0, 0, 5, 0, 1, 0]) ∧
    lengthAllowed 0x06 10 = some true := by decide

theorem meets_BytesOfARequestTakeTheRequest : (Instr.lookup 1 7).wellFormed = true ∧
    requestFields (.lookup 1 7) = some (0x02, 1, 3, [0, 0, 7]) ∧ lengthAllowed 0x02 3 = some true ∧
    (0x02 : Byte) ≠ pageInKind ∧ shelved.decoderFree = true ∧ shelved.link.hold = false ∧ shelved.cfg.levels.lawful := by
  decide

-- A part at work: drive 1 verifies lodgement 2, whose page stands in the filing ring, and a command waits.
def working : State :=
  { writing .verifying .verifying 1 with
    pending := [.verifyRunCompletion 0 ⟨[1], List.replicate 1024 0⟩] }

theorem working_memory : working.memoryLaw ∧ working.ringLaw := by decide
theorem working_settings : working.layoutLaw ∧ working.settingsLaw := by decide
theorem working_directory : working.directoryLaw := by decide
theorem working_pool : working.poolLaw ∧ working.inUseLaw := by decide
theorem working_titles : working.titleLaw ∧ working.limitLaw := by decide
theorem working_accounts : working.accountLaw ∧ working.scheduleLaw := by decide
theorem working_sides : working.activeLaw ∧ working.sideLaw ∧ working.holdLaw := by decide
theorem working_capacities : working.capacityLaw ∧ working.loadLaw := by decide
theorem working_link : working.linkLaw := by decide
/-- The picker carries cartridge 3 from its slot to drive 6, and the placement is reported. -/
def carrying : State :=
  let s := (shelved.modCart 3 fun r => { r with place := .picker }).modDrive 5 fun r =>
    { r with state := .loading, reserved := some ⟨3, .A⟩ }
  { s with picker := { s.picker with state := .busy, active := some loading }, pending := [.placementCompletion (.drive 5)] }

theorem carrying_places : carrying.placeLaw := by decide
theorem carrying_task : carrying.activeTaskLaw := by
  intro a ha
  obtain rfl : loading = a := by simpa [carrying] using ha
  refine ⟨rfl, by decide, by decide, ⟨by decide, by decide⟩, ⟨rfl, rfl, ?_⟩, ⟨rfl, .inl ⟨rfl, rfl⟩⟩⟩
  decide
theorem carrying_carry : carrying.carryLaw :=
  ⟨by decide, by decide, by decide, nofun, carrying_task, by decide,
   fun _ _ r hr hm => absurd hm ((by decide : ∀ r ∈ carrying.lib.carts, r.place ≠ .mail) r hr)⟩
theorem meets_StepKeepsOneCartridgeAPlace : carrying.placeLaw ∧ carrying.carryLaw ∧ ∃ t, step carrying = .next t :=
  ⟨carrying_places, carrying_carry, _, rfl⟩

theorem working_locations : working.filingLaw ∧ working.locationLaw := by decide
theorem working_steps : ∃ t, step working = .next t := ⟨_, rfl⟩

theorem meets_StepKeepsStagingMemoryAndRings : working.memoryLaw ∧ working.ringLaw ∧ ∃ t, step working = .next t :=
  ⟨working_memory.1, working_memory.2, working_steps⟩
theorem meets_StepKeepsSettingsLawful : working.layoutLaw ∧ working.settingsLaw ∧ ∃ t, step working = .next t :=
  ⟨working_settings.1, working_settings.2, working_steps⟩
theorem meets_StepKeepsDirectoryLaw : working.directoryLaw ∧ ∃ t, step working = .next t :=
  ⟨working_directory, working_steps⟩
theorem meets_StepKeepsPoolLaws : working.ringLaw ∧ working.layoutLaw ∧ working.directoryLaw ∧ working.titleLaw ∧ working.poolLaw ∧ working.inUseLaw ∧
    ∃ t, step working = .next t :=
  ⟨working_memory.2, working_settings.1, working_directory, working_titles.1, working_pool.1, working_pool.2, working_steps⟩
theorem meets_StepKeepsTitleRecordsLawful : working.directoryLaw ∧ working.titleLaw ∧ working.limitLaw ∧
    ∃ t, step working = .next t :=
  ⟨working_directory, working_titles.1, working_titles.2, working_steps⟩
theorem meets_StepKeepsAccountsLawful : working.accountLaw ∧ working.scheduleLaw ∧ ∃ t, step working = .next t :=
  ⟨working_accounts.1, working_accounts.2, working_steps⟩
theorem meets_StepKeepsSidesAndHolds : working.activeLaw ∧ working.sideLaw ∧ working.holdLaw ∧
    ∃ t, step working = .next t :=
  ⟨working_sides.1, working_sides.2.1, working_sides.2.2, working_steps⟩
theorem meets_StepKeepsCapacities : working.capacityLaw ∧ working.loadLaw ∧ ∃ t, step working = .next t :=
  ⟨working_capacities.1, working_capacities.2, working_steps⟩
theorem meets_StepKeepsHeldLocationsApart : working.ringLaw ∧ working.layoutLaw ∧ working.directoryLaw ∧ working.filingLaw ∧
    working.locationLaw ∧ ∃ t, step working = .next t :=
  ⟨working_memory.2, working_settings.1, working_directory, working_locations.1, working_locations.2, working_steps⟩
theorem meets_StepKeepsLinkOutputsJudged : working.linkLaw ∧ ∃ t, step working = .next t := ⟨working_link, working_steps⟩

theorem shelved_serves : shelved.serves = true := by decide

theorem meets_LookupAnswersTheRecord : State.reset.decoderFree = true ∧ State.reset.condition = .unformatted ∧
    shelved.decoderFree = true ∧ shelved.condition = .ready ∧ (6 : Word24) ≠ 0 ∧ shelved.title? 6 = none ∧
    shelved.title? 7 = some title7 := by decide

theorem meets_ListAnswersTheRange : shelved.serves = true ∧ shelved.directoryLaw ∧ (6 : Word24) < 7 ∧
    (0 : Word24) ≤ 16777215 ∧ (7 : Word24) ≤ 7 := by decide

theorem meets_TitlesAreOpenedAndReclassed : shelved.serves = true ∧ 8 ≤ (8 : Byte).toNat ∧ (7 : Byte).toNat < 8 ∧
    (shelved.title? 7).isSome = true ∧ shelved.title? 16777215 = none ∧ (16777215 : Word24) ≠ 0 ∧
    131072 ≤ ({ shelved with dir := { shelved.dir with count := 131072 } } : State).dir.count ∧
    shelved.dir.count < 131072 ∧ (7 : Byte).toNat = (7 : Fin 8).val ∧
    shelved.title? 9 = some title9 ∧ title9.status = .closed ∧ shelved.title? 7 = some title7 ∧ title7.status = .active := by
  decide

theorem meets_RetireClosesTheTitle : shelved.serves = true ∧ [(5 : Word24)].length ≤ 8 ∧ (1 : Byte).toNat = 1 ∧
    shelved.title? 6 = none ∧ shelved.title? 9 = some title9 ∧ title9.status = .closed ∧
    (filing (lodged .receiving 0 0 none) false).title? 5 = some title5 ∧
    (filing (lodged .receiving 0 0 none) false).isPending 5 = true ∧ title5.status = .active ∧
    shelved.title? 7 = some title7 ∧ (∃ e ∈ title7.entries, e.kind = .caution) ∧
    clear7.title? 7 = some { title7 with entries := [⟨1, .charge, 1⟩] } ∧ clear7.isPending 7 = false ∧
    (∀ e ∈ [Entry.mk 1 .charge 1], e.kind ≠ .caution) ∧
    [(5 : Word24), 9].map (fun w => w.toNat) = [5] ++ 9 :: [] := by decide

/-- Title 9 is a faulty successor of title 7 after the good title 5, and title 5 a good one. -/
theorem meets_RetireClosesTheTitle_successors : clear7.goodSuccessor 7 [] 5 ∧ ¬ clear7.goodSuccessor 7 [5] 9 ∧
    ∀ (a : List Nat) (x : Nat) (b : List Nat), [5] = a ++ x :: b → clear7.goodSuccessor 7 a x := by
  have good : clear7.goodSuccessor 7 [] 5 := ⟨by decide, ⟨title5, by decide, by decide⟩, by decide⟩
  refine ⟨good, ?_, ?_⟩
  · rintro ⟨-, ⟨r, hr, ha⟩, -⟩
    rw [show clear7.title? 9 = some title9 by decide, Option.some.injEq] at hr
    subst hr
    exact absurd ha (by decide)
  · rintro a x b h
    cases a with
    | nil => simp only [List.nil_append, List.cons.injEq] at h; rw [← h.1]; exact good
    | cons y ys => simp at h

/-- Cartridge 5 has come into the mail slot. -/
def delivered : State := { shelved with lib := { shelved.lib with mail := true } }

/-- It is cartridge 4, which had been taken out and whose former slot is 9. -/
def withOffline : State := delivered.modCart 4 fun r => { r with place := .offline, home := none }

/-- Cartridge 3 lies in the mail slot. -/
def mailTaken : State := delivered.modCart 3 fun r => { r with place := .mail, home := none }

/-- The picker has been reported in fault. -/
def pickerless : State := { shelved with picker := { shelved.picker with state := .fault } }

theorem meets_ImportEntersTheCartridge : delivered.serves = true ∧ roleOf 1 = some .filing ∧ roleOf 2 = some .full ∧
    1 ≤ (4095 : Word16).toNat ∧ (4095 : Word16).toNat ≤ 4095 ∧ delivered.lib.mail = true ∧
    (∀ r ∈ delivered.lib.carts, r.number ≠ 4095 → r.place ≠ .mail) ∧ delivered.cart? 4095 = none ∧
    delivered.lib.carts.length < 1024 ∧ delivered.picker.state ≠ .fault ∧ 1 ≤ 3 ∧ 3 ≤ 240 ∧
    delivered.lib.slotOpen 3 = true ∧ (∀ m ∈ List.range' 1 2, delivered.lib.slotOpen m = false) ∧
    (∀ k ∈ delivered.picker.queue, k.kind = .unload → k.cart ≠ some 4095) ∧
    (withOffline.cart? 4).map (fun r => (r.place, r.former)) = some (.offline, some 9) ∧
    withOffline.lib.slotOpen 9 = true ∧ withOffline.serves = true := by decide

theorem meets_ImportEntersTheCartridge_refused : roleOf 3 = none ∧ 4095 < (4096 : Word16).toNat ∧
    shelved.lib.mail = false ∧ shelved.serves = true ∧ delivered.cart? 4 = some cart4 ∧ cart4.place ≠ .offline ∧
    mailTaken.serves = true ∧ mailTaken.lib.mail = true ∧ mailTaken.cart? 5 = none ∧
    (∃ r ∈ mailTaken.lib.carts, r.number ≠ 5 ∧ r.place = .mail) ∧
    ({ pickerless with lib := delivered.lib } : State).picker.state = .fault ∧
    ({ pickerless with lib := delivered.lib } : State).serves = true := by decide

/-- The cartridge table is full. -/
def tableFull : State := { delivered with lib := { delivered.lib with
  carts := List.replicate 1024 { cart3 with place := .offline, home := none } } }

theorem meets_ImportEntersTheCartridge_tableFull : tableFull.serves = true ∧ tableFull.cart? 5 = none ∧
    1024 ≤ tableFull.lib.carts.length ∧ ∀ r ∈ tableFull.lib.carts, r.number ≠ 5 → r.place ≠ .mail := by
  refine ⟨rfl, List.find?_eq_none.mpr fun r hr => ?_, Nat.le_of_eq List.length_replicate.symm, fun r hr _ => ?_⟩ <;>
    rw [List.eq_of_mem_replicate hr] <;> decide

/-- Every shelf slot is blocked. -/
def shelfBlocked : State := { delivered with lib := { delivered.lib with blocked := List.range' 1 240 } }

theorem meets_ImportEntersTheCartridge_noFreeSlot : shelfBlocked.serves = true ∧ shelfBlocked.cart? 5 = none ∧
    ∀ m, 1 ≤ m → m ≤ 240 → shelfBlocked.lib.slotOpen m = false := by
  refine ⟨rfl, by decide, fun m h1 h2 => ?_⟩
  have : m ∈ List.range' 1 240 := List.mem_range'_1.mpr ⟨h1, by omega⟩
  simp only [Library.slotOpen, shelfBlocked, List.contains_eq_mem, this, decide_true, Bool.not_true, Bool.false_and]

theorem meets_ExportMarksTheCartridge : shelved.serves = true ∧ shelved.cart? 4 = some cart4 ∧ cart4.place ≠ .offline ∧
    cart4.place ≠ .mail ∧ (∀ d : DriveNo, cart4.place = .drive d → (shelved.drives[d]).state ≠ .fault) ∧
    (∀ o ∈ shelved.fetch.queue, o.loc.cart ≠ 4) ∧ shelved.filing.table = [] ∧ shelved.lib.leaving = [] ∧
    shelved.lib.mail = false ∧ shelved.picker.state ≠ .fault := by decide

theorem meets_ExportMarksTheCartridge_refused : shelved.cart? 5 = none ∧ withOffline.serves = true ∧
    (withOffline.cart? 4).map (fun r => r.place) = some .offline ∧
    (mailTaken.cart? 3).map (fun r => r.place) = some .mail ∧
    ((driven .fault none false).modCart 4 fun r => { r with place := .drive 5 }).serves = true ∧
    ((driven .fault none false).drives[(5 : DriveNo)]).state = .fault ∧
    (reading .index 0 order1).serves = true ∧ (∃ o ∈ (reading .index 0 order1).fetch.queue, o.loc.cart = 3) ∧
    (writing .writing .writing 1).serves = true ∧
    (∃ l ∈ (writing .writing .writing 1).filing.table, l.extent = some ⟨4, .A, 262141, 2, 1⟩ ∧ l.state ≠ .receiving) ∧
    (writing .writing .writing 1).lib.active = some ⟨4, .A⟩ ∧ delivered.lib.mail = true ∧ pickerless.serves = true := by
  decide

theorem meets_SideRoleChangesTheRole : shelved.serves = true ∧ sideOf 1 = some .B ∧ roleOf 0 = some .archive ∧
    roleOf 1 = some .filing ∧ roleOf 2 = some .full ∧ shelved.side? ⟨3, .B⟩ = some ⟨.archive, 0, 0, 0⟩ ∧
    shelved.side? ⟨4, .B⟩ = some ⟨.full, 262144, 0, 8⟩ ∧ shelved.side? ⟨4, .A⟩ = some ⟨.filing, 262141, 0, 255⟩ ∧
    shelved.extentOn ⟨4, .A⟩ = false ∧ (writing .writing .writing 1).serves = true ∧
    (writing .writing .writing 1).side? ⟨4, .A⟩ = some ⟨.filing, 262141, 0, 255⟩ ∧
    (writing .writing .writing 1).extentOn ⟨4, .A⟩ = true := by decide

/-- Lodgement 2 is in hand and no side is usable: cartridge 5, on the shelf, has two ARCHIVE sides. -/
def sideless : State :=
  let s := filing (lodged .staged 1 0 none) true
  { s with lib := { s.lib with carts := [{ cart3 with number := 5, sideA := ⟨.archive, 262142, 0, 0⟩ }] }
           filing := { s.filing with hand := some (2, .side), wanting := true } }

theorem meets_SideRoleChangesTheRole_side : sideless.serves = true ∧ sideless.side? ⟨5, .A⟩ = some ⟨.archive, 262142, 0, 0⟩ ∧
    sideless.filing.hand = some (2, .side) ∧ sideless.lodgement? 2 = some (lodged .staged 1 0 none) ∧
    sideless.lib.active = none ∧ (sideless.cart? 5).map (fun c => c.place) = some (.slot 1) ∧
    sideless.trapped 5 = false ∧ sideless.isLeaving 5 = false ∧ 262142 + 1 + (lodged .staged 1 0 none).held ≤ 262144 := by
  decide

theorem meets_SideRoleChangesTheRole_unusable : ∀ x, sideless.usable x = false := by
  rintro ⟨c, sd⟩
  by_cases h : c = 5
  · subst h; cases sd <;> decide
  · have : sideless.cart? c = none := by
      simp only [State.cart?, sideless, List.find?_cons, List.find?_nil, decide_eq_false (Ne.symm h)]
    simp only [State.usable, this]

theorem meets_RingAndTimingSettings : shelved.serves = true ∧ 7 < (8 : Byte).toNat ∧ (7 : Byte).toNat = (6 : Fin 7).val + 1 ∧
    min 4096 (max 64 (0 : Word16).toNat) = 64 ∧ (6207 : Word16).toNat / alignment 64 * alignment 64 = 6144 ∧
    (filing (lodged .receiving 0 0 none) false).serves = true ∧
    ((filing (lodged .receiving 0 0 none) false).rings[(6 : Fin 7)]).entries ≠ [] ∧
    (∀ q : Fin 7, (shelved.rings[q]).entries = []) ∧ 6144 + 64 ≤ 8192 ∧
    (∀ q : Fin 7, 1 ≤ (shelved.cfg.layout[q]).modulus) ∧
    8192 < (8191 : Word16).toNat / alignment 64 * alignment 64 + 128 := by decide

theorem spans_below_filing : ∀ q : Fin 7, q ≠ 6 →
    (shelved.cfg.layout[q]).base + (shelved.cfg.layout[q]).modulus ≤ 6144 := by decide

/-- The 64 blocks from 6,144 meet no ring but ring 7, and those from 5,120 meet ring 6. -/
theorem meets_RingAndTimingSettings_spans :
    (∀ (q : Fin 7) (x : Nat), q ≠ 6 → 6144 ≤ x → x < 6144 + 64 →
      x < (shelved.cfg.layout[q]).base ∨ (shelved.cfg.layout[q]).base + (shelved.cfg.layout[q]).modulus ≤ x) ∧
    (5 : Fin 7) ≠ 6 ∧ (shelved.cfg.layout[(5 : Fin 7)]).base ≤ 5120 ∧
    5120 < (shelved.cfg.layout[(5 : Fin 7)]).base + (shelved.cfg.layout[(5 : Fin 7)]).modulus := by
  refine ⟨fun q x hq h1 _ => .inr (Nat.le_trans (spans_below_filing q hq) h1), by decide, by decide, by decide⟩

theorem meets_RingAndTimingSettings_timing : shelved.serves = true ∧
    (∃ x ∈ [SentSetting.mk 0 0, ⟨1, 4⟩], 3 < x.base.toNat) ∧ (∀ x ∈ [SentSetting.mk 0 0, ⟨255, 3⟩], x.base.toNat ≤ 3) ∧
    (writing .writing .writing 1).serves = true ∧
    ((writing .writing .writing 1).drives[(0 : DriveNo)]).state ∈ [.reading, .stalled, .writing, .verifying] ∧
    shelved.picker.state = .idle ∧
    (∀ d : DriveNo, (shelved.drives[d]).state ∉ [.reading, .stalled, .writing, .verifying]) := by decide

theorem meets_QueriesAnswerAndChangeNothing : shelved.serves = true ∧ 1 ≤ (4 : Word16).toNat ∧ (4 : Word16).toNat ≤ 4095 ∧
    shelved.cart? 4 = some cart4 ∧ (reading .index 0 order1).order? 1 = some order1 ∧
    (reading .index 0 order1).serves = true ∧ shelved.order? 0 = none ∧ (2 : Word16) ≠ 0 ∧
    (filing (lodged .receiving 0 0 none) false).lodgement? 2 = some (lodged .receiving 0 0 none) ∧
    shelved.lodgement? 65535 = none ∧ 4095 < (4096 : Word16).toNat ∧ shelved.cart? 5 = none := by decide

theorem meets_OrderFreezesItsSnapshot : shelved.serves = true ∧ (7 : Word24) ≠ 0 ∧ shelved.title? 7 = some title7 ∧
    title7.status = .active ∧ 1 ≤ title7.edition ∧ (0 : Word16).toNat = 0 ∧ title7.current = some deedB ∧
    (1 : Word16).toNat ≠ 0 ∧ (1 : Word16).toNat ≠ title7.edition ∧
    (title7.priors.find? fun p => p.edition = 1) = some ⟨1, deedA⟩ ∧ shelved.cart? deedB.cart = some cart3 ∧
    cart3.place ≠ .offline ∧ cart3.place ≠ .mail ∧ 3 ∉ shelved.lib.leaving ∧
    (∀ d : DriveNo, cart3.place = .drive d → (shelved.drives[d]).state ≠ .fault) ∧
    (12 : Byte).toNat = (12 : Fin 13).val ∧ orderKindOf 1 = some .certified ∧ shelved.fetch.queue.length < 64 ∧
    pickerless.mountedOn deedB.sideId = none ∧ pickerless.picker.state = .fault := by decide

theorem meets_OrderFreezesItsSnapshot_refused : shelved.title? 6 = none ∧ shelved.title? 9 = some title9 ∧
    title9.status = .closed ∧ shelved.title? 5 = some title5 ∧ title5.edition = 0 ∧ title5.status = .active ∧
    (3 : Word16).toNat ≠ title7.edition ∧ (∀ p ∈ title7.priors, p.edition ≠ (3 : Word16).toNat) ∧
    mailTaken.serves = true ∧ (mailTaken.cart? deedB.cart).map (fun c => c.place) = some .mail ∧
    ({ shelved with lib := { shelved.lib with leaving := [3] } } : State).lib.leaving = [deedB.cart] ∧
    ((driven .fault none false).modCart 3 fun r => { r with place := .drive 5 }).serves = true ∧
    ((driven .fault none false).drives[(5 : DriveNo)]).state = .fault ∧ 12 < (13 : Byte).toNat ∧ 1 < (2 : Byte).toNat := by
  decide

theorem meets_OrderFreezesItsSnapshot_queueFull :
    64 ≤ ({ shelved with fetch := { shelved.fetch with queue := List.replicate 64 order1 } } : State).fetch.queue.length ∧
    ({ shelved with fetch := { shelved.fetch with queue := List.replicate 64 order1 } } : State).serves = true :=
  ⟨by simp, rfl⟩

/-- Order 65,535 is in the queue and has a page of its own in ring 2; an ORDER waits, and 1 is the next number. -/
def numbering : State :=
  let o : FetchOrder := { order1 with number := 65535, lengths := some [2] }
  let s := (reading .page 1 o).modDrive 1 fun r => { r with work := [.order 65535], run := r.run.map fun u => { u with owner := 65535 } }
  { s with
    pending := [.order 1 7 0 12 0]
    fetch := { s.fetch with last := 65534 }
    filing := { s.filing with last := 65535 }
    rings := s.rings.set 1 { drain := 0, fill := 2, occupied := 2, entries := [
      { owner := 65535, page := 1, length := 2, start := 0, live := true, filled := false, streaming := false, held := false }] } }

theorem meets_NextNumberIsTheFirstFree : numbering.capacityLaw ∧ numbering.ringLaw ∧ numbering.layoutLaw ∧
    numbering.fetch.last ≤ 65535 ∧ numbering.filing.last ≤ 65535 ∧ numbering.ordersDistinct ∧
    numbering.nextOrder = 1 ∧ numbering.nextLodgement = 1 := by decide
theorem meets_NextNumberIsTheFirstFree_step : ∃ t, step numbering = .next t := ⟨_, rfl⟩

theorem meets_CancelRemovesTheOrder : (reading .page 1 order1).serves = true ∧ shelved.order? 65535 = none ∧
    (1 : Word16) ≠ 0 ∧ (reading .page 1 order1).order? 1 = some order1 := by decide

/-- The pool has no free place. -/
def poolFull : State := { clear7 with dir := { clear7.dir with reserved := 65534 } }

/-- The lodgement table has no free record. -/
def crowded : State := { clear7 with
  filing := { clear7.filing with table := List.replicate 16 (lodged .receiving 0 0 none) } }

theorem meets_LodgeEntersTheLodgement : clear7.serves = true ∧ lodgeKindOf 2 = some .charge ∧ (7 : Word24) ≠ 0 ∧
    clear7.title? 7 = some title7c ∧ title7c.status = .active ∧ clear7.isPending title7c.number = false ∧
    (LodgeKind.charge = .first ↔ title7c.edition = 0) ∧ title7c.edition < 65535 ∧
    (∀ e ∈ title7c.entries, e.kind ≠ .caution) ∧ title7c.entries.length < 24 ∧ title7c.nextEntry < 256 ∧
    clear7.dir.inUse + clear7.dir.reserved < 65536 ∧ clear7.filing.table.length < 16 ∧ 250 < (251 : Byte).toNat ∧
    (250 : Byte).toNat ≤ 250 := by decide

theorem meets_LodgeEntersTheLodgement_refused : shelved.title? 9 = some title9 ∧ title9.status = .closed ∧
    (filing (lodged .receiving 0 0 none) false).serves = true ∧
    (filing (lodged .receiving 0 0 none) false).title? 5 = some title5 ∧ title5.status = .active ∧
    (filing (lodged .receiving 0 0 none) false).isPending title5.number = true ∧ lodgeKindOf 0 = some .first ∧
    title5.edition = 0 ∧ poolFull.serves = true ∧ 65536 ≤ poolFull.dir.inUse + poolFull.dir.reserved ∧
    16 ≤ (crowded.filing.table).length ∧ crowded.isPending 7 = false ∧ crowded.serves = true ∧
    lodgeKindOf 6 = some .discharge ∧ lodgeKindOf 7 = some .withdrawal ∧
    (∃ e ∈ title7.entries, e.number = (1 : Byte).toNat ∧ e.kind ≠ .caution) ∧
    (∃ e ∈ title7.entries, e.number = (2 : Byte).toNat ∧ e.kind = .caution) := by decide

/-- Checks 0 and 1 and 4 to 9 of Table 7-2 fail for titles 7, 5 and 6 and for two records at their limits. -/
theorem meets_LodgeEntersTheLodgement_kinds : 7 < (8 : Byte).toNat ∧ shelved.title? 6 = none ∧ title7.edition ≠ 0 ∧
    title7.status = .active ∧ shelved.isPending 7 = false ∧ LodgeKind.charge ≠ .first ∧
    65535 ≤ ({ title7 with edition := 65535 } : TitleRecord).edition ∧ lodgeKindOf 1 = some .transfer ∧
    (∃ e ∈ title7.entries, e.kind = .caution) ∧ 256 ≤ ({ title7c with nextEntry := 256 } : TitleRecord).nextEntry ∧
    LodgeKind.covenant.adds.isSome = true ∧ lodgeKindOf 4 = some .covenant ∧
    (¬ ∃ e ∈ title7.entries, e.number = (1 : Byte).toNat ∧ e.kind = .caution) ∧
    (shelved.modTitle 7 fun _ => { title7 with edition := 65535 }).title? 7 = some { title7 with edition := 65535 } ∧
    (shelved.modTitle 7 fun _ => { title7c with nextEntry := 256 }).title? 7 = some { title7c with nextEntry := 256 } := by
  decide

theorem meets_PageInAdmitsThePage : (filing { lodged .receiving 0 0 none with declared := 250 } true).serves = true ∧
    (filing (lodged .receiving 0 0 none) true).lodgement? 2 = some (lodged .receiving 0 0 none) ∧
    (filing (lodged .staged 1 0 none) true).lodgement? 2 = some (lodged .staged 1 0 none) ∧
    (lodged .staged 1 0 none).state ≠ .receiving ∧ 64 < (65 : Byte).toNat ∧ 65536 = (64 : Byte).toNat * 1024 ∧
    1024 = (1 : Byte).toNat * 1024 ∧ 1 ≠ (1 : Byte).toNat * 1024 ∧ 0 ≠ (1 : Byte).toNat * 1024 ∧
    ((filing (lodged .receiving 0 0 none) true).rings[filingRing]).occupied + 64 ≤
      (filing (lodged .receiving 0 0 none) true).modulus filingRing ∧
    ({ shelved with cfg := { shelved.cfg with layout := shelved.cfg.layout.set 6 ⟨6144, 64⟩ }
                    rings := shelved.rings.set 6 { drain := 0, fill := 1, occupied := 1, entries := [scan true] } } :
      State).modulus filingRing < 1 + 64 := by decide

/-- The body of lodgement 2's page is being read: of its last two bytes one waits in the FIFO. -/
def arriving : State :=
  let s := filing (lodged .receiving 0 0 none) false
  { s with link := { s.link with decoder := .body 9 (.admitted 2 1) 2, inbound := [5] } }

theorem meets_PageInBodyFillsTheRing : 1 ≤ [(6 : Byte)].length ∧ 2 = arriving.link.inbound.length + [(6 : Byte)].length ∧
    arriving.link.decoder = .body 9 (.admitted 2 1) 2 ∧ 2 ≤ 1 * 1024 ∧ (scan false).length = 1 ∧
    ((arriving.rings[filingRing]).entries.find? fun x => decide (x.owner = 2) && x.live && !x.filled) =
      some (scan false) ∧ (scan false).page = (lodged .receiving 0 0 none).received + 1 ∧
    arriving.lodgement? 2 = some (lodged .receiving 0 0 none) ∧ arriving.memoryLaw ∧ 64 ≤ arriving.modulus filingRing ∧
    (arriving.cfg.layout[filingRing]).base + arriving.modulus filingRing ≤ 8192 ∧
    (lodged .receiving 0 0 none).declared ≤ (lodged .receiving 0 0 none).received + 1 ∧
    ({ lodged .receiving 0 0 none with declared := 2 } : Lodgement).received + 1 < 2 ∧
    ({ arriving with link := { arriving.link with decoder := .body 9 (.refused (.refused .badField)) 2 } } :
      State).link.decoder = .body 9 (.refused (.refused .badField)) 2 := by decide

theorem meets_LodgementEndsWithoutCommit :
    (filing { lodged .receiving 0 0 none with idle := some 240 } true).lodgement? 2 =
      some { lodged .receiving 0 0 none with idle := some 240 } ∧
    (filing { lodged .receiving 0 0 none with idle := some 240 } true).serves = true ∧ (2 : Word16) ≠ 0 := by decide

theorem meets_VerifyCommitsTheDeed : ∃ (s : State) (u : Run) (l : Lodgement) (e : Location) (sr : SideRecord)
    (readBack : ReadBack), (s.drives[(0 : DriveNo)]).state = .verifying ∧ (s.drives[(0 : DriveNo)]).run = some u ∧
      u.mark = .live ∧ s.lodgement? u.owner = some l ∧ l.extent = some e ∧ readBack.lengths = l.lengths ∧
      readBack.data = s.pagesOf l.number ∧ s.title? l.title = some title5 ∧ s.side? e.sideId = some sr ∧
      s.filing.hand.map (fun h => h.1) = some l.number ∧
      (∀ m ∈ s.filing.table, m.number ≠ l.number → m.state ≠ .staged) ∧ 262144 - (e.start + e.blocks) < 16001 :=
  ⟨writing .verifying .verifying 1, verifyRun 262141, lodged .verifying 1 1 (some ⟨4, .A, 262141, 2, 1⟩),
    ⟨4, .A, 262141, 2, 1⟩, ⟨.filing, 262141, 0, 255⟩, ⟨[1], (writing .verifying .verifying 1).pagesOf 2⟩,
    by decide, by decide, by decide, by decide, by decide, by decide, rfl, by decide, by decide, by decide, by decide, by decide⟩

theorem meets_FailedAttemptGivesUpTheRegion : ∀ attempts ∈ [1, 2],
    ((writing .verifying .verifying attempts).drives[(0 : DriveNo)]).run = some (verifyRun 262141) ∧
    ((writing .verifying .verifying attempts).drives[(0 : DriveNo)]).state = .verifying ∧
    (writing .verifying .verifying attempts).lodgement? 2 =
      some (lodged .verifying 1 attempts (some ⟨4, .A, 262141, 2, 1⟩)) ∧
    (writing .verifying .verifying attempts).side? ⟨4, .A⟩ = some ⟨.filing, 262141, 0, 255⟩ ∧ 7 ≤ 255 ∧
    [2] ≠ (lodged .verifying 1 attempts none).lengths ∧ (1 < 2 ∧ 2 ≤ 2) := by decide

theorem meets_FeeLineAndAccountSettings : shelved.serves = true ∧ 8 ≤ (8 : Byte).toNat ∧
    (7 : Byte).toNat = (7 : Fin 8).val ∧ 7 < (8 : Byte).toNat ∧ 3 < (4 : Byte).toNat ∧ (7 : Byte).toNat ≤ 7 ∧
    (3 : Byte).toNat ≤ 3 := by decide

theorem meets_FeeLineAndAccountSettings_account : shelved.serves = true ∧ 12 < (13 : Byte).toNat ∧ 1 < (2 : Byte).toNat ∧
    (12 : Byte).toNat = (12 : Fin 13).val ∧ (0 : Byte).toNat = 0 ∧ (1 : Byte).toNat = 1 ∧
    min 2500 (2501 : Word16).toNat = 2500 ∧ (12 : Fin 13).val = (11 : CounterNo).val + 1 := by decide

/-- Counter 1's post queue is full. -/
def mergingLine : State := ready.modCounter 0 fun c =>
  { c with posts := [⟨1, 5, 5⟩, ⟨2, 5, 10⟩, ⟨3, 5, 15⟩, ⟨4, 16777216, 20⟩] }

theorem meets_SettleAppliesTheAmount : mergingLine.serves = true ∧ 12 < (13 : Byte).toNat ∧
    (1 : Byte).toNat = (1 : Fin 13).val ∧ 999999999 = min 999999999 (1000000000 : Word32).toNat ∧
    (-999999999 : Int) = max (-999999999) (min 999999999 ((mergingLine.fees.accounts[(1 : Fin 13)]).pending - (999999999 : Nat))) ∧
    999999999 = min 999999999 ((mergingLine.fees.accounts[(1 : Fin 13)]).settled + 999999999) ∧
    (1 : Fin 13).val = (0 : CounterNo).val + 1 ∧
    (mergingLine.line.counters[(0 : CounterNo)]).posts = [⟨1, 5, 5⟩, ⟨2, 5, 10⟩, ⟨3, 5, 15⟩] ++ [⟨4, 16777216, 20⟩] ∧
    3 ≤ [PostItem.mk 1 5 5, ⟨2, 5, 10⟩, ⟨3, 5, 15⟩].length ∧ (mergingLine.line.counters[(1 : CounterNo)]).posts.length < 4 := by
  decide

theorem meets_DayCloseClosesEveryAccount : shelved.serves = true := shelved_serves

theorem meets_FeesSpreadAndRound : 7 < 8 ∧ 15000 % 10000 = 5000 ∧ 65535 ≤ 65535 ∧ 8191 ≤ 8191 ∧ 3000 ≤ 3000 ∧
    2500 ≤ 2500 ∧ 250 ≤ 250 := by decide

theorem meets_LinkLevelsAreJudgedAtOnce : State.reset.decoderFree = true ∧ ready.decoderFree = true ∧
    clampLevels 0 0 0 0 0 = { hold := 64, resume := 0, halt := 64, haltResume := 0, trigger := 64 } ∧
    halted.decoderFree = true ∧ halted.link.halt = true ∧ halted.link.streaming = none ∧
    decide (0 < halted.link.outbound.length) = false := by decide

theorem meets_QueueResetEmptiesTheQueues : State.reset.decoderFree = true ∧
    (reading .page 1 order1).decoderFree = true := by decide

theorem meets_StrobesMoveOneByte : ({ ready with resetHeld := true } : State).resetHeld = true ∧ ready.resetHeld = false ∧
    ready.link.recovering = false ∧ ready.link.discarding = false ∧ ready.link.inbound.length < 1024 ∧
    ready.link.outbound = [] ∧ ({ ready with link := { ready.link with outbound := unread 0 } } : State).link.outbound =
      ⟨7, true, false⟩ :: [] ∧ waitingAnswer.link.decoder = .placing ⟨1, .done, false, false⟩ := by decide

/-- Drive 1 streams its ring's head, with one byte to be read. -/
def readout : State :=
  let s := streaming .reading
  { s with link := { s.link with outbound := unread 0, streaming := some ⟨0, 5⟩ } }

theorem meets_StrobesMoveOneByte_read : readout.resetHeld = false ∧ readout.link.outbound = ⟨7, true, false⟩ :: [] ∧
    readout.link.streaming = some ⟨0, 5⟩ ∧ (readout.rings[driveRing 0]).entries ≠ [] ∧ readout.link.halt = false ∧
    readout.cfg.levels.lawful ∧
    ({ waitingAnswer with link := { waitingAnswer.link with outbound := unread 0 } } : State).link.decoder =
      .placing ⟨1, .done, false, false⟩ ∧
    ({ ready with link := { ready.link with outbound := unread 0, notices := [.counterAbsent 12] } } :
      State).link.notices ≠ [] ∧ ready.link.streaming = none := by decide

theorem meets_StrobesMoveOneByte_full : 1024 ≤ (List.replicate 1024 (0 : Byte)).length ∧
    ∀ p, ready.link.decoder ≠ .placing p := ⟨by rw [List.length_replicate], fun _ => nofun⟩

/-- Drive 6 offers a page of order 1 and ring 5 was served last. -/
def offering : State := { ready with
  rings := ready.rings.set 5 { drain := 0, fill := 1, occupied := 1, entries := [{ scan true with owner := 1 }] }
  link := { ready.link with lastRing := 5 } }

theorem meets_AnswersAndNoticesArePlacedWhole : waitingAnswer.link.streaming = none ∧
    waitingAnswer.link.decoder = .placing ⟨1, .done, false, false⟩ ∧
    waitingAnswer.link.outbound.length + (Placing.bytes ⟨1, .done, false, false⟩ waitingAnswer.link.lost).length ≤ 4096 ∧
    4096 < 4090 + (Placing.bytes ⟨1, .done, false, false⟩ false).length ∧
    waitingAnswer.link.overflow = false ∧ (Notice.counterAbsent 12).bytes.length ≤ 4096 := by decide

/-- What the arbiter is asked of: a streaming PAGE_OUT, an ANSWER, a notice, a page that a ring offers, and nothing at all. -/
theorem meets_AnswersAndNoticesArePlacedWhole_arbiter : readout.link.streaming ≠ none ∧
    waitingAnswer.cfg.levels.lawful ∧ waitingAnswer.link.outLaw waitingAnswer.cfg.levels ∧
    (arbitrate waitingAnswer).link.streaming = none ∧ (arbitrate waitingAnswer).link.decoder = .header [] ∧
    offering.link.streaming = none ∧ offering.link.notices = [] ∧ offering.link.outLaw offering.cfg.levels ∧
    (ready.link.streaming = none ∧ ready.link.halt = false) := by decide

theorem meets_AnswersAndNoticesArePlacedWhole_notice : (∀ p, ready.link.decoder ≠ .placing p) ∧
    ({ ready with link := { ready.link with notices := [.counterAbsent 12] } } : State).link.notices =
      .counterAbsent 12 :: [] := ⟨fun _ => nofun, rfl⟩

theorem meets_PageOutBeginsForTheNextRing : offering.link.streaming = none ∧ offering.link.notices = [] ∧
    offering.link.halt = false ∧ (offering.rings[driveRing 5]).entries = { scan true with owner := 1 } :: [] ∧
    (scan true).live = true ∧ (scan true).filled = true ∧ offering.link.lastRing ≤ 6 ∧
    (∀ x : DriveNo, (x.val + 6 - offering.link.lastRing) % 6 < ((5 : DriveNo).val + 6 - offering.link.lastRing) % 6 →
      (offering.rings[driveRing x]).offered = none) ∧
    offering.link.outbound.length + 11 ≤ 4096 ∧ offering.cfg.levels.lawful := by decide
theorem meets_PageOutBeginsForTheNextRing_decoder : ∀ p, offering.link.decoder ≠ .placing p := fun _ => nofun

theorem meets_PageOutEndCompletesTheOrder : ∀ st ∈ [OrderState.delivering, .reading],
    (streaming st).link.streaming = some ⟨0, 1023⟩ ∧
    ((streaming st).rings[driveRing 0]).entries.map (fun e => e.bytes - 1023) = [1] ∧ 1 ≤ (streaming st).link.room ∧
    (streaming st).order? 1 = some { order1 with state := st, drive := none, read := 1 } ∧
    (streaming st).ordersDistinct ∧
    (∀ d : DriveNo, Work.order 1 ∉ ((streaming st).drives[d]).work) ∧ order1.delivered + 1 = order1.loc.pages ∧
    order1.account.val = (0 : CounterNo).val + 1 ∧
    ((streaming st).line.counters[(0 : CounterNo)]).posts.length < 4 := by decide

/-- Order 1, of two pages with their lengths known, is still READING as its first page streams. -/
theorem meets_PageOutEndCompletesTheOrder_reading :
    let o : FetchOrder := { order1 with loc := { deedB with blocks := 4, pages := 2 }, lengths := some [1, 2], read := 1 }
    let s := (streaming .reading).modFetch fun q => { q with queue := [o] }
    let t := s.modDrive 1 fun r => { r with work := [.order 1] }
    t.order? 1 = some o ∧ o.lengths.isSome = true ∧ (Work.order 1 ∈ (t.drives[(1 : DriveNo)]).work) ∧
      o.state ≠ .delivering ∧ t.ordersDistinct ∧ t.link.streaming = some ⟨0, 1023⟩ := by decide

theorem meets_PageOutEndCompletesTheOrder_full : (mergingLine.line.counters[(0 : CounterNo)]).posts =
    [⟨1, 5, 5⟩, ⟨2, 5, 10⟩, ⟨3, 5, 15⟩] ++ [⟨4, 16777216, 20⟩] ∧
    3 ≤ [PostItem.mk 1 5 5, ⟨2, 5, 10⟩, ⟨3, 5, 15⟩].length := by decide

theorem meets_FormatWritesTheInitialState : State.reset.decoderFree = true ∧ State.reset.condition = .unformatted ∧
    shelved.decoderFree = true ∧ shelved.condition = .ready ∧ shelved.fetch.queue = [] ∧ shelved.filing.table = [] ∧
    shelved.picker.state = .idle ∧ shelved.picker.active = none ∧ shelved.picker.queue = [] ∧
    (∀ r : Fin 7, (shelved.rings[r]).entries = []) ∧
    (∀ d : DriveNo, (shelved.drives[d]).state = .empty ∨ (shelved.drives[d]).state = .idle ∨
      (shelved.drives[d]).fitted = false) ∧ (∀ d : DriveNo, (shelved.drives[d]).state ≠ .stalled) ∧
    (filing (lodged .receiving 0 0 none) true).condition = .ready ∧
    (filing (lodged .receiving 0 0 none) true).filing.table ≠ [] ∧ halted.decoderFree = true ∧ halted.link.halt = true ∧
    halted.link.streaming = none ∧ halted.fetch.queue = [] := by decide

theorem meets_FullResetKeepsLastingState : shelved.formatMark = true ∧ State.reset.formatMark = false := by decide

/-- A mechanism reset under way: it finds cartridge 4 in its drive, drive 2 absent and the picker in fault. -/
def report : MechReport where
  drives := #v[.holding .A, .absent, .fault .B, .vacant, .vacant, .vacant]
  picker := .fault

def sweeping : State := { shelved with mechReset := true }

theorem meets_MechanismResetTakesTheReport : shelved.mechReset = false ∧ sweeping.mechReset = true ∧
    sweeping.picker.active = none ∧ (sweeping.lib.carts.map fun c => c.number).Pairwise (· ≠ ·) ∧
    report.drives[(0 : DriveNo)] = .holding .A ∧ report.drives[(1 : DriveNo)] = .absent ∧
    report.drives[(2 : DriveNo)] = .fault .B ∧ report.drives[(5 : DriveNo)] = .vacant ∧ report.picker = .fault ∧
    ({ report with picker := .vacant } : MechReport).picker ≠ .fault ∧
    sweeping.lib.carts.find? (fun x => decide (x.place = .drive 0)) = some cart4 := by decide

/-- The active filing side names a cartridge whose drive is found in fault, one the picker has lost, or one gone from the mail
slot. -/
theorem meets_MechanismResetTakesTheReport_active : (∀ f, DriveReport.fault .B ≠ .holding f) ∧
    ({ sweeping with lib := { sweeping.lib with active := some ⟨4, .A⟩ } } : State).lib.active = some ⟨4, .A⟩ ∧
    cart4 ∈ sweeping.lib.carts ∧
    (sweeping.modCart 3 fun r => { r with place := .picker }).lib.carts.find? (fun x => decide (x.place = .picker)) =
      some { cart3 with place := .picker } ∧
    (sweeping.modCart 3 fun r => { r with place := .mail, home := none }).lib.mail = false ∧
    sweeping.importQueued 3 = false := ⟨fun _ => nofun, by decide⟩

/-- A task that returns cartridge 4 from drive 1 to slot 240. -/
def unloading (picked : Bool) : Active :=
  { task := ⟨.unload, some 4, .A, some 0⟩, picked := picked, source := some (.drive 0), target := .slot 240,
    waiting := false, wasMounted := some ⟨4, .A⟩ }

theorem meets_PickerMovesAndMailSlot : (picking (unloading false)).picker.active = some (unloading false) ∧
    (unloading false).picked = false ∧ (unloading false).source = some (.drive 0) ∧ (unloading true).picked = true ∧
    (unloading true).waiting = false ∧ (unloading true).target = .slot 240 ∧
    (picking (unloading true)).lib.slotOpen 3 = true ∧ (picking (unloading true)).lib.slotOpen 1 = false ∧
    (picking (unloading true)).lib.slotOpen 2 = false ∧ shelved.lib.mail = false ∧ delivered.lib.mail = true ∧
    ({ delivered with lib := { delivered.lib with carts := [{ cart3 with place := .mail }] } } :
      State).lib.carts.find? (fun x => decide (x.place = .mail)) = some { cart3 with place := .mail } ∧
    delivered.inGrip 3 = false := by decide

theorem meets_PlacementEndsTheTask : (picking loading).picker.active = some loading ∧ loading.picked = true ∧
    loading.waiting = false ∧ (picking loading).picker.state = .busy ∧ loading.target = .drive 5 ∧
    (unloading true).target = .slot 240 ∧ (unloading true).task.kind = .unload ∧ exporting.task.kind = .exportTask ∧
    exporting.target = .mail ∧ (picking exporting).cart? 3 = some cart3 ∧ cart3.home = some 1 ∧
    (∀ k ∈ (picking exporting).picker.queue, k.kind = .unload → k.cart ≠ some 3) := by decide

/-- Cartridge 4 goes back to its drive, whole or in FAULT, and cartridge 3's IMPORT back to the mail slot. -/
theorem meets_PlacementEndsTheTask_return :
    let a : Active := { unloading true with target := .drive 5 }
    let b : Active := { exporting with task := ⟨.importTask, some 3, .A, none⟩, source := some .mail }
    a.task.kind = .unload ∧ a.picked = true ∧ a.waiting = false ∧ ((picking a).drives[(5 : DriveNo)]).state ≠ .fault ∧
      ((driven .fault none false).drives[(5 : DriveNo)]).state = .fault ∧ (picking a).picker.state = .busy ∧
      b.task.kind = .importTask ∧ b.target = .mail ∧ b.picked = true ∧ (picking b).cart? 3 = some cart3 := by decide

theorem meets_SpinCompletionsMoveTheDrive : ((driven .spinup none false).drives[(5 : DriveNo)]).state = .spinup ∧
    ((driven .spindown none false).drives[(5 : DriveNo)]).state = .spindown ∧
    ((driven .idle none false).drives[(5 : DriveNo)]).state ≠ .spinup ∧ (driven .spindown none false).picker.state ≠ .fault ∧
    pickerless.picker.state = .fault ∧ ((driven .spinup none false).drives[(5 : DriveNo)]).unrecorded = false := by decide

/-- Order 1's page is admitted in ring 2 and awaits its data. -/
def awaitingPage : State :=
  let s := reading .page 1 { order1 with lengths := some [2] }
  { s with rings := s.rings.set 1 { drain := 0, fill := 2, occupied := 2, entries := [
      { owner := 1, page := 1, length := 2, start := 0, live := true, filled := false, streaming := false, held := false }] } }

theorem meets_ReadCompletionsServeTheOrder : ((reading .index 0 order1).drives[(1 : DriveNo)]).state = .reading ∧
    ((reading .index 0 order1).drives[(1 : DriveNo)]).run = some ⟨.index, 1, 0, deedB.region, .live⟩ ∧
    (reading .index 0 order1).order? 1 = some order1 ∧ [2].length = order1.loc.pages ∧
    (∀ x ∈ [2], 1 ≤ x ∧ x ≤ 64) ∧ [2].sum + 1 = order1.loc.blocks ∧ [1].sum + 1 ≠ order1.loc.blocks ∧
    (awaitingPage.drives[(1 : DriveNo)]).run = some ⟨.page, 1, 1, deedB.region, .live⟩ ∧
    (awaitingPage.awaiting 1 1 1).map (fun e => e.length) = some 2 ∧ awaitingPage.memoryLaw ∧
    2 ≤ awaitingPage.modulus (driveRing 1) ∧
    (awaitingPage.cfg.layout[driveRing 1]).base + awaitingPage.modulus (driveRing 1) ≤ 8192 ∧
    order1.loc.pages ≤ order1.read + 1 := by decide

theorem meets_SecondMediaErrorFailsTheOrder : ∀ erred ∈ [true, false],
    ((reading .index 0 { order1 with erred := erred }).drives[(1 : DriveNo)]).state = .reading ∧
    ((reading .index 0 { order1 with erred := erred }).drives[(1 : DriveNo)]).run = some ⟨.index, 1, 0, deedB.region, .live⟩ ∧
    (reading .index 0 { order1 with erred := erred }).order? 1 = some { order1 with erred := erred } ∧
    (reading .index 0 { order1 with erred := erred }).side? deedB.sideId = some ⟨.filing, 9, 0, 7⟩ ∧ 7 ≤ 7 := by decide

/-- The write run of lodgement 2 on drive 1, live or stopped, beside an index read that waits in the work list. -/
def stopping (m : RunMark) (work : List Work) : State :=
  let s := (writing .writing .writing 1).modDrive 0 fun r =>
    { r with run := some { verifyRun 262141 with kind := .write, mark := m }, work := work }
  s.modFetch fun q => { q with queue := [order1] }

theorem meets_WriteAndStopCompletionsEndTheRun : ∀ m ∈ [RunMark.live, .stopped], ∀ w ∈ [[], [Work.order 1]],
    ((stopping m w).drives[(0 : DriveNo)]).state = .writing ∧
    ((stopping m w).drives[(0 : DriveNo)]).run = some { verifyRun 262141 with kind := .write, mark := m } ∧
    ((stopping m w).drives[(0 : DriveNo)]).work = w ∧ order1.lengths = none ∧
    ((writing .verifying .verifying 1).drives[(0 : DriveNo)]).state = .verifying := by decide

theorem meets_WriteAndStopCompletionsEndTheRun_read :
    ((stopping .stopped [.order 1]).fetch.queue.find? fun p => decide (p.priority = .counter) &&
      decide (Work.order p.number ∈ ((stopping .stopped [.order 1]).drives[(0 : DriveNo)]).work)) = some order1 := by decide

theorem meets_WriteAndStopCompletionsEndTheRun_stray : (shelved.drives[(5 : DriveNo)]).state ≠ .writing ∧
    ∀ u, (shelved.drives[(5 : DriveNo)]).run = some u → u.mark ≠ .stopped := ⟨by decide, fun _ => nofun⟩

theorem meets_FaultsClearTheMechanics : State.reset.condition = .unformatted ∧ shelved.condition = .ready ∧
    (shelved.drives[(0 : DriveNo)]).state ≠ .fault ∧ (shelved.drives[(0 : DriveNo)]).mounted = some ⟨4, .A⟩ ∧
    shelved.lib.carts.find? (fun x => decide (x.place = .drive 0)) = some cart4 ∧ shelved.cart? 4 = some cart4 ∧
    shelved.lib.carts.find? (fun x => decide (x.place = .drive 1)) = none ∧
    (∀ sd, (sweeping.drives[(1 : DriveNo)]).mounted = some sd → sd.cart ≠ 4) ∧
    shelved.picker.state ≠ .fault ∧ pickerless.picker.state = .fault := by decide

/-- Drive 1, with the write run of lodgement 2 on cartridge 4, faults in the first or the second attempt. -/
theorem meets_FaultsClearTheMechanics_attempt : ∀ attempts ∈ [1, 2],
    (writing .writing .writing attempts).condition = .ready ∧
    ((writing .writing .writing attempts).drives[(0 : DriveNo)]).state ≠ .fault ∧
    (writing .writing .writing attempts).lib.carts.find? (fun x => decide (x.place = .drive 0)) = some cart4 ∧
    (writing .writing .writing attempts).cart? 4 = some cart4 ∧
    ((writing .writing .writing attempts).drives[(0 : DriveNo)]).run = some (verifyRun 262141) ∧
    (verifyRun 262141).kind = .verify ∧ (verifyRun 262141).mark = .live ∧
    (writing .writing .writing attempts).lodgement? 2 = some (lodged .writing 1 attempts (some ⟨4, .A, 262141, 2, 1⟩)) ∧
    (writing .writing .writing attempts).filing.hand = some (2, .run) ∧ (1 < 2 ∧ 2 ≤ 2) := by decide

theorem meets_MechanicsTimersExpire : ((driven .idle (some 3) true).drives[(5 : DriveNo)]).hold = some 3 ∧
    ((driven .idle (some 3) true).drives[(5 : DriveNo)]).releasePending = true ∧
    ((driven .idle (some 3) false).drives[(5 : DriveNo)]).releasePending = false ∧
    ((driven .idle none false).drives[(5 : DriveNo)]).hold = none ∧
    ((driven .idle none false).drives[(5 : DriveNo)]).linger = some 8 ∧
    ((driven .idle none false).drives[(5 : DriveNo)]).state = .idle ∧ (shelved.drives[(5 : DriveNo)]).linger = none ∧
    shelved.picker.reopening = some 120 ∧ (∀ k ∈ shelved.picker.queue, k.kind ≠ .load) ∧
    ({ shelved with picker := { shelved.picker with reopening := none } } : State).picker.reopening = none := by decide

/-- A LOAD of cartridge 3 into drive 6 waits for the load window. -/
def windowed : State :=
  let s := shelved.modDrive 5 fun r => { r with reserved := some ⟨3, .B⟩ }
  { s with picker := { s.picker with queue := [⟨.load, some 3, .B, some 5⟩] } }

theorem meets_MechanicsTimersExpire_load : windowed.picker.reopening = some 120 ∧ windowed.picker.state = .idle ∧
    windowed.mechReset = false ∧ windowed.picker.queue = [⟨.load, some cart3.number, .B, some 5⟩] ∧
    windowed.cart? cart3.number = some cart3 ∧ cart3.home = some 1 ∧ cart3.place = .slot 1 ∧
    (∀ r ∈ windowed.lib.carts, r.place ≠ .picker) ∧ (windowed.drives[(5 : DriveNo)]).state = .empty ∧
    (windowed.drives[(5 : DriveNo)]).reserved = some ⟨cart3.number, .B⟩ ∧
    (windowed.picker.starts.filter fun y => max windowed.now 120 - y < windowed.window).length < 4 := by decide

theorem meets_PostEndsTakeOrKeepTheItem : ∀ failures ∈ [1, 2],
    let s := ringing (.post 0 ⟨1, 100, 100⟩ false 5 1) failures
    s.line.trans = some (.post 0 ⟨1, 100, 100⟩ false 5 1) ∧ s.line.clockHeld = false ∧
      (s.line.counters[(0 : CounterNo)]).present = true ∧ (s.line.counters[(0 : CounterNo)]).failures = failures := by decide

theorem meets_PollCollectsTheSettlement :
    let s := ringing (.poll 0 false 5 1) 2
    s.line.trans = some (.poll 0 false 5 1) ∧ s.line.clockHeld = false ∧ (1 : Fin 13).val = (0 : CounterNo).val + 1 ∧
      2400 = min 999999999 ((0 : Byte).toNat * 16777216 + (0 : Byte).toNat * 65536 + (9 : Byte).toNat * 256 +
        (0x60 : Byte).toNat) ∧
      (-2400 : Int) = max (-999999999) (min 999999999 ((s.fees.accounts[(1 : Fin 13)]).pending - (2400 : Nat))) ∧
      (s.line.counters[(0 : CounterNo)]).posts.length < 4 ∧
      ((s.modCounter 0 fun c => { c with present := false }).line.counters[(0 : CounterNo)]).present = false ∧
      (s.line.counters[(0 : CounterNo)]).present = true ∧ 2 ≤ (s.line.counters[(0 : CounterNo)]).failures := by decide

/-- Counter 1's post queue is full as its settlement comes. -/
theorem meets_PollCollectsTheSettlement_full :
    let s := (ringing (.poll 0 false 5 1) 0).modCounter 0 fun c => { c with posts := (mergingLine.line.counters[(0 : CounterNo)]).posts }
    s.line.trans = some (.poll 0 false 5 1) ∧ s.line.clockHeld = false ∧
      (s.line.counters[(0 : CounterNo)]).posts = [⟨1, 5, 5⟩, ⟨2, 5, 10⟩, ⟨3, 5, 15⟩] ++ [⟨4, 16777216, 20⟩] ∧
      3 ≤ [PostItem.mk 1 5 5, ⟨2, 5, 10⟩, ⟨3, 5, 15⟩].length := by decide

theorem meets_PollCollectsTheSettlement_bad : [(1 : Byte), 2] ≠ [0] ∧
    ∀ b0 b1 b2 b3 : Byte, [(1 : Byte), 2] ≠ [1, b0, b1, b2, b3] := ⟨by decide, fun _ _ _ _ => nofun⟩

theorem meets_PollIntervalMarksEveryCounterDue : State.reset.line.poll = none ∧
    ∀ served ∈ [0, 12], let s := { ringing (.poll 0 false 5 1) 0 with
                                   line := { (ringing (.poll 0 false 5 1) 0).line with
                                     trans := none, poll := some 2, lastServed := served } }
      s.line.poll = some 2 ∧ s.line.trans = none ∧ s.line.clockHeld = false ∧ s.condition = .ready ∧
        (s.line.counters[(0 : CounterNo)]).present = true ∧
        (s.line.counters[(0 : CounterNo)]).posts = ⟨1, 100, 100⟩ :: [] ∧
        (∀ m : CounterNo, (m.val + 12 - served) % 12 < ((0 : CounterNo).val + 12 - served) % 12 →
          (s.line.counters[m]).present = false ∨ (s.line.counters[m]).posts = []) ∧
        ∀ n : CounterNo, (ready.line.counters[n]).present = false ∨ (ready.line.counters[n]).posts = [] := by decide

/-- A cash unit holds the clock low while counter 1 has an item to post. -/
def barred : State :=
  let s := ringing (.poll 0 false 5 1) 0
  { s with line := { s.line with trans := none, clockHeld := true } }

theorem meets_ClockAndAddressEvents : Instr.format 1 ≠ .clockRelease ∧ ready.line.trans = none ∧ ready.condition = .ready ∧
    barred.line.clockHeld = true ∧ barred.line.trans = none ∧ barred.condition = .ready ∧ barred.line.lastServed ≤ 12 ∧
    (barred.line.counters[(0 : CounterNo)]).present = true ∧
    (barred.line.counters[(0 : CounterNo)]).posts = ⟨1, 100, 100⟩ :: [] ∧
    (∀ m : CounterNo, (m.val + 12 - 0) % 12 < ((0 : CounterNo).val + 12 - 0) % 12 →
      (barred.line.counters[m]).present = false ∨ (barred.line.counters[m]).posts = []) ∧
    (∀ n : CounterNo, (ready.line.counters[n]).present = false ∨ (ready.line.counters[n]).posts = []) ∧
    (∀ n : CounterNo, (ready.line.counters[n]).due = false) ∧
    ((ready.modCounter 11 fun c => { c with due := true }).line.counters[(11 : CounterNo)]).due = true ∧
    State.reset.condition = .unformatted ∧
    (ringing (.poll 0 false 5 1) 0).line.trans = some (.poll 0 false 5 1) ∧
    (ringing (.poll 0 false 5 1) 0).line.clockHeld = false ∧
    ({ ringing (.poll 0 false 5 1) 0 with line := { (ringing (.poll 0 false 5 1) 0).line with clockHeld := true } } :
      State).line.clockHeld = true := by decide
/-- The bar at a full reset of a READY part that finds its format mark and refreshes the counter line (notes/assumptions/26.md). -/
theorem meets_ClockAndAddressEvents_fullReset : Instr.fullReset .powerOn true ≠ .clockRelease ∧ barred.line.clockHeld = true ∧
    barred.line.trans = none ∧ barred.condition = .ready ∧ barred.formatMark = true ∧
    (after (.fullReset .powerOn true) barred).condition = .ready ∧
    ((after (.fullReset .powerOn true) barred).line.counters[(0 : CounterNo)]).posts = [⟨0, 0, 0⟩] := by decide
theorem meets_ClockAndAddressEvents_noPoll : ∀ n acked p r, ready.line.trans ≠ some (.poll n acked p r) :=
  fun _ _ _ _ => nofun

-- One step of each command, the expected figures taken from the rules named -------------------------------------

theorem test_format : answered (held (.format 1) State.reset) = some .done ∧
    (after (.format 1) State.reset).condition = .ready ∧ (after (.format 1) State.reset).mechReset = true := by decide -- R18
theorem test_format_busy : answered (held (.format 1) (reading .index 0 order1)) = some (.refused .libraryBusy) := by
  decide -- R15
theorem test_lookup : answered (held (.lookup 1 7) shelved) = some (.lookup title7 0) := by decide -- R19
theorem test_list : answered (held (.list 1 6 9) shelved) =
    some (.list [⟨7, .active, 2, false⟩, ⟨9, .closed, 1, false⟩] false 0) := by decide -- R20
theorem test_newTitle : (after (.newTitle 1 6 3) shelved).dir.titles.map (fun r => r.number) = [5, 6, 7, 9] := by decide -- R24
theorem test_newTitle_exists : answered (held (.newTitle 1 9 3) shelved) = some (.refused .titleExists) := by decide -- R23
theorem test_setClass : answered (held (.setClass 1 7 6) shelved) = some (.setClass 2 6) := by decide -- R25
theorem test_retire : answered (held (.retire 1 7 1 [5] []) clear7) = some (.retire 1 65535) := by decide -- R30
theorem test_retire_self : answered (held (.retire 1 7 2 [5, 7] []) clear7) = some (.badSuccessor 2 .self) := by decide -- R29
theorem test_import : answered (held (.importCart 1 4095 1 2) delivered) = some (.importCart 4095 3) := by decide -- R51
theorem test_export : (after (.exportCart 1 3) shelved).lib.leaving = [3] ∧
    ((after (.exportCart 1 3) shelved).picker.active.map fun a => a.target) = some .mail := by decide -- R55, R73
theorem test_sideRole : answered (held (.sideRole 1 4 1 0) shelved) = some (.sideRole .full .archive) := by decide -- R57
theorem test_shelfQuery : answered (held (.shelfQuery 1 4) shelved) = some (.shelf cart4 false false false false) := by
  decide -- R58
theorem test_timing : (after (.timing 1 ⟨0, 0⟩ ⟨64, 3⟩ ⟨1, 1⟩ ⟨1, 1⟩ ⟨1, 1⟩ ⟨1, 1⟩) shelved).cfg.timing.linger = ⟨63, 3⟩ ∧
    (after (.timing 1 ⟨0, 0⟩ ⟨64, 3⟩ ⟨1, 1⟩ ⟨1, 1⟩ ⟨1, 1⟩ ⟨1, 1⟩) shelved).cfg.timing.hold = ⟨1, 0⟩ := by decide -- R83
theorem test_driveQuery : (shelved.driveItem 0).mounted = some ⟨4, .A⟩ ∧ (shelved.driveItem 5).state = .empty ∧
    shelved.pickerItem.starts = 4 ∧ answered (held (.driveQuery 1) shelved) =
      some (.drives (allDrives.map shelved.driveItem) shelved.pickerItem) := by decide -- R84
theorem test_order : answered (held (.order 1 7 0 12 0) shelved) = some (.order 1 2 1 false false) := by decide -- R103
theorem test_order_historical : answered (held (.order 1 7 1 12 0) shelved) = some (.order 1 1 2 true false) := by decide
theorem test_cancel : (after (.cancel 1 1) (reading .page 1 order1)).fetch.queue = [] ∧
    ((after (.cancel 1 1) (reading .page 1 order1)).drives[(1 : DriveNo)]).run = some ⟨.page, 1, 1, deedB.region, .discard⟩ := by
  decide -- R121, R65
theorem test_orderQuery : answered (held (.orderQuery 1 1) (reading .page 1 order1)) =
    some (.orderQuery 1 .reading .counter 2 1 0 0 false) := by decide -- R122
theorem test_lodge : answered (held (.lodge 1 7 3 250 0) clear7) = some (.lodge 1 3 true 65533) := by decide -- R128
theorem test_lodge_cautioned : answered (held (.lodge 1 7 2 1 0) shelved) = some (.refused .cautioned) := by decide -- R127
theorem test_pageIn : (after (.pageIn 1 2 2 2048) (filing { lodged .receiving 0 0 none with declared := 2 } true)).link.decoder =
    .body 1 (.admitted 2 2) 2048 := by decide -- R131
theorem test_pageInBodyEnd : answered (held (.pageInBodyEnd [6]) arriving) = some (.pageIn 2 1 .staged) := by decide -- R132
theorem test_abandon : (after (.abandon 1 2) (filing (lodged .receiving 0 0 none) true)).filing.table = [] ∧
    ((after (.abandon 1 2) (filing (lodged .receiving 0 0 none) true)).rings[filingRing]).occupied = 0 := by decide -- R149
theorem test_lodgeQuery : answered (held (.lodgeQuery 1 2) (writing .writing .writing 1)) =
    some (.lodgeQuery (lodged .writing 1 1 (some ⟨4, .A, 262141, 2, 1⟩)) 0 (some .run)) := by decide -- R150
theorem test_feeClass : answered (held (.feeClass 1 2 300 8192 450 0) shelved) = some (.feeClass 2 ⟨300, 8191, 450, 0⟩) := by
  decide -- R155
theorem test_duty : answered (held (.duty 1 3001) shelved) = some (.duty 3000) := by decide -- R156
theorem test_account_cash : answered (held (.account 1 12 0 1000) shelved) = some (.account 12 .cash 0) := by decide -- R169
theorem test_account_credit : answered (held (.account 1 12 1 2501) shelved) = some (.account 12 .credit 2500) := by decide
theorem test_accountQuery : answered (held (.accountQuery 1 1) (ringing (.poll 0 false 5 1) 2)) =
    some (.accountQuery 1 Account.initial false 2 1) := by decide -- R170
theorem test_settle : answered (held (.settle 1 1 2400) mergingLine) = some (.settle (-2400)) ∧
    ((after (.settle 1 1 2400) mergingLine).line.counters[(0 : CounterNo)]).posts =
      [⟨1, 5, 5⟩, ⟨2, 5, 10⟩, ⟨3, 5, 15⟩, ⟨0, 16777215, -2400⟩] := by decide -- R172, R180
theorem test_dayClose : ((held (.dayClose 1) { ready with fees := { ready.fees with
      accounts := ready.fees.accounts.set 5 account5 } }).fees.accounts[(5 : Fin 13)]) =
    { account5 with dayOpen := 2400, posted := 0, settled := 0, charged := 0 } := by decide -- R173
theorem test_counterLine : answered (held (.counterLine 1 7 3) shelved) = some (.counterLine 7 3) := by decide -- R174
theorem test_linkLevels : sent (after (.linkLevels 1 1000 1000 4000 4000 4095) shelved) =
    [0x80, 1, 0, 0, 11, 0, 0, 0x03, 0xC0, 0x03, 0x80, 0x0F, 0x00, 0x0E, 0xC0, 0x0F, 0xC0] := by decide -- R196, R189, Table 11-4
theorem test_queueReset : (after (.queueReset 1) (writing .writing .writing 1)).filing.table = [] ∧
    ((after (.queueReset 1) (writing .writing .writing 1)).drives[(0 : DriveNo)]).run = some { verifyRun 262141 with mark := .stopped } ∧
    (held (.queueReset 1) (writing .writing .writing 1)).link.discarding = true := by decide -- R198, R65
theorem test_unknownKind : answered (held (.unknownKind 1 0x40 []) shelved) = some (.refused .unknownKind) := by decide -- R186
theorem test_badFrame : answered (held (.badFrame 1 0x02 [1]) shelved) = some (.badFrame .length) := by decide -- R186
theorem test_answer_done_bytes : Placing.bytes ⟨9, .done, false, false⟩ false = [0x80, 9, 0, 0, 1, 0, 0] := by decide -- R200
theorem test_answer_flags : Placing.bytes ⟨9, .refused .notFormatted, true, false⟩ true = [0x80, 9, 0, 0, 1, 3, 4] := by
  decide -- R192
theorem test_wrStrobe : (after (.wrStrobe 2) shelved).link.inbound = [2] := by decide -- R183
theorem test_rdStrobe_places : (after .rdStrobe { waitingAnswer with link := { waitingAnswer.link with outbound := unread 0 } }
    ).link.outbound.length = 7 := by decide -- R189: a byte has left, and the ANSWER goes
theorem test_rdStrobe_empty : (after .rdStrobe { ready with link := { ready.link with driven := 7 } }).link.driven = 0 := by
  decide -- R183
theorem test_rdStrobe : (after .rdStrobe { ready with link := { ready.link with outbound := unread 0, attention := true } }
    ).link.driven = 7 ∧ (after .rdStrobe { ready with link := { ready.link with outbound := unread 0, attention := true } }
    ).link.attention = false := by decide -- R195
theorem test_answerPlaced : (after .answerPlaced waitingAnswer).link.outbound.length = 7 ∧
    (after .answerPlaced waitingAnswer).link.attention = true := by decide -- R189
theorem test_noticePlaced : sent (after .noticePlaced { ready with link := { ready.link with notices := [.counterAbsent 12] } }) =
    [0x81, 0, 0, 0, 2, 0, 12, 12] := by decide -- R194, Table 11-10
theorem test_pageOutBegin : (after .pageOutBegin offering).link.streaming = some ⟨5, 1023⟩ := by rfl -- R190
theorem test_pageOutEnd : (after .pageOutEnd (streaming .delivering)).fetch.queue = [] ∧
    sent (after .pageOutEnd (streaming .delivering)) = [0, 0x81, 0, 0, 0, 8, 0, 1, 0, 1, 1, 1, 0, 0, 0] ∧
    ((after .pageOutEnd (streaming .delivering)).rings[(0 : Fin 7)]).occupied = 0 := by decide -- R117, R189: the arbiter places the
  -- ORDER_DONE after the page's last byte
theorem test_fullReset : (after (.fullReset .resetInput true) (reading .page 1 order1)).fetch.queue = [] ∧
    (after (.fullReset .resetInput true) (reading .page 1 order1)).dir.titles = [title5, title7, title9] ∧
    (after (.fullReset .resetInput true) (reading .page 1 order1)).resetHeld = true := by decide -- R197
theorem test_fullReset_unformatted : (after (.fullReset .powerOn false) shelved).condition = .unformatted ∧
    (after (.fullReset .powerOn false) shelved).dir.titles = [] := by decide -- R14
theorem test_resetRelease : (after .resetRelease { ready with resetHeld := true }).resetHeld = false := by decide -- R197
theorem test_mechanismReset : ((after (.mechanismResetCompletion report) sweeping).drives[(0 : DriveNo)]).state = .unloading ∧
    ((after (.mechanismResetCompletion report) sweeping).drives[(1 : DriveNo)]).fitted = false ∧
    (after (.mechanismResetCompletion report) sweeping).picker.state = .fault := by decide -- R60, R86
theorem test_pick : ((after (.pickCompletion (.drive 0)) (picking (unloading false))).cart? 4).map (fun c => c.place) =
    some .picker := by decide -- R42
theorem test_placement : ((after (.placementCompletion (.slot 240)) (picking (unloading true))).cart? 4).map (fun c => c.place) =
    some (.slot 240) := by decide -- R42
theorem test_placement_export : (held (.placementCompletion .mail) (picking exporting)).link.notices =
    [.cartridgeAtMailSlot 3 (some 1)] := by decide -- R56
theorem test_occupied : (after (.targetSlotOccupied 240) (picking (unloading true))).lib.blocked = [240] ∧
    ((after (.targetSlotOccupied 240) (picking (unloading true))).picker.active.map fun a => a.target) = some (.slot 3) := by
  decide -- R44
theorem test_mailPlaced : (after .mailSlotPlaced shelved).lib.mail = true := by decide -- R50
theorem test_mailEmptied : (after .mailSlotEmptied delivered).lib.mail = false := by decide -- R50
theorem test_spinUp : ((after (.spinUpCompletion 5) (driven .spinup none false)).drives[(5 : DriveNo)]).hold = some 12 := by
  decide -- R63: the default hold time is 3 × 1 s
theorem test_spinDown : ((after (.spinDownCompletion 5) (driven .spindown none false)).drives[(5 : DriveNo)]).state = .unloading ∧
    ((after (.spinDownCompletion 5) (driven .spindown none false)).picker.active.map fun a => a.task.kind) = some .unload := by
  decide -- R71, R73
theorem test_indexRead : ((after (.indexReadCompletion 1 [2]) (reading .index 0 order1)).drives[(1 : DriveNo)]).run =
    some ⟨.page, 1, 1, ⟨⟨3, .A⟩, 5, 2⟩, .live⟩ ∧
    ((after (.indexReadCompletion 1 [2]) (reading .index 0 order1)).rings[(1 : Fin 7)]).occupied = 2 := by decide -- R110, R112: page 1
  -- lies one block past the deed's index block
theorem test_indexRead_mismatch : (held (.indexReadCompletion 1 [1]) (reading .index 0 order1)).link.notices =
    [.orderFailed 1 .indexMismatch 0] := by decide -- R110
theorem test_mediaError_first : (after (.mediaError 1) (reading .index 0 order1)).fetch.queue = [{ order1 with erred := true }] := by
  decide -- R115
theorem test_mediaError_second : (held (.mediaError 1) (reading .index 0 { order1 with erred := true })).link.notices =
    [.orderFailed 1 .media 0, .sideRetired 3 .A 8] := by decide -- R115, R46
theorem test_writeRun : ((after (.writeRunCompletion 0) ((writing .writing .writing 1).modDrive 0 fun r =>
    { r with run := some { verifyRun 262141 with kind := .write } })).drives[(0 : DriveNo)]).state = .verifying := by decide -- R140
theorem test_writeError : (after (.writeMediaError 0) (writing .writing .writing 2)).filing.table = [] ∧
    ((after (.writeMediaError 0) (writing .writing .writing 2)).side? ⟨4, .A⟩) = some ⟨.full, 262143, 2, 255⟩ := by
  decide -- R144, R147, R46
theorem test_verify_mismatch : (held (.verifyRunCompletion 0 ⟨[], []⟩) (writing .verifying .verifying 2)).link.notices.getLast? =
    some (.lodgementFailed 2 5 .media) := by decide -- R147
theorem test_stop : ((after (.stopCompletion 0) ((writing .writing .writing 1).modDrive 0 fun r =>
    { r with run := some { verifyRun 262141 with kind := .write, mark := .stopped }, work := [], pin := false })).drives[(0 : DriveNo)]).state = .idle := by decide -- R65
theorem test_driveFault : ((after (.driveFault 1) (reading .page 1 order1)).drives[(1 : DriveNo)]).state = .fault ∧
    (after (.driveFault 1) (reading .page 1 order1)).fetch.queue = [] := by decide -- R81
theorem test_pickerFault : (held .pickerFault (picking (unloading false))).link.notices = [.pickerFault (some .unload) 4] := by
  decide -- R76
theorem test_holdExpiry : ((after (.holdExpiry 5) (driven .idle (some 3) true)).drives[(5 : DriveNo)]).state = .spindown := by
  decide -- R67
theorem test_lingerExpiry : ((after (.lingerExpiry 5) (driven .idle (some 3) false)).drives[(5 : DriveNo)]).releasePending = true ∧
    ((after (.lingerExpiry 5) (driven .idle none false)).drives[(5 : DriveNo)]).state = .spindown := by decide -- R69
theorem test_reopening : (after .reopeningExpiry shelved).now = 120 ∧ (after .reopeningExpiry shelved).picker.reopening = none := by
  decide -- R74
theorem test_idleTimeout : (held (.idleTimeout 2) (filing { lodged .receiving 0 0 none with idle := some 240 } true)
    ).link.notices = [.lodgementFailed 2 5 .timeout] := by decide -- R133
theorem test_pollInterval : (after .pollIntervalExpiry { ready with line := { ready.line with poll := some 2 } }).line.trans =
    some (.poll 0 false 5 1) ∧
    (after .pollIntervalExpiry { ready with line := { ready.line with poll := some 2 } }).line.poll = some 4 := by decide -- R175
theorem test_post_completed : ((after (.post .completed) (ringing (.post 0 ⟨1, 100, 100⟩ false 5 1) 2)).line.counters[
    (0 : CounterNo)]).posts = [] := by decide -- R176
theorem test_post_third_failure : (held (.post (.notAcknowledged 9)) (ringing (.post 0 ⟨1, 100, 100⟩ false 5 1) 2)).link.notices =
    [.counterAbsent 1] := by decide -- R179
theorem test_poll_settlement : (held (.poll (.reply [1, 0, 0, 9, 0x60])) (ringing (.poll 0 false 5 1) 0)).link.notices =
    [.counterSettled 1 2400 (-2400)] := by
  decide +kernel -- R177, R181: R199's own example
theorem test_stretch : (after .clockStretchTimeout { ringing (.poll 0 false 5 1) 0 with
    line := { (ringing (.poll 0 false 5 1) 0).line with clockHeld := true } }).line.stopOwed = true := by decide -- R178
theorem test_clockRelease : (after .clockRelease { ringing (.poll 0 false 5 1) 0 with
    line := { (ringing (.poll 0 false 5 1) 0).line with clockHeld := true, trans := none } }).line.trans =
      some (.post 0 ⟨1, 100, 100⟩ false 5 1) := by decide -- R175, R178
theorem test_pollAddress : (after .pollAddressAcknowledged ((ringing (.poll 0 false 5 1) 3).modCounter 0 fun c =>
    { c with present := false })).line.counters[(0 : CounterNo)].present = true := by decide -- R179
theorem test_clockHeld : (after .clockHeldLow ready).line.clockHeld = true := by decide -- R178

end Sys2Proof.Tests
end

-- ==== Proofs: the register ====
section
/-!
SUPPORT for the proofs of family 01. What the laws of the title directory read of a state: the condition, the directory, and of each
lodgement in the table its number, title, kind and named entry. The mechanics, the fetch scheduler, the request link and the write engine
leave it as it was, but for the lodgements that a few operations enter or remove. One frame lemma for each operation, beside the frames of
`State.shell` in Laws/Frames.
-/
namespace Sys2Proof.Machine

/-- The part of a lodgement record that no operation changes after its acceptance (R128). -/
structure Claim where
  number : Nat
  title  : Nat
  kind   : LodgeKind
  named  : Option Nat
  deriving DecidableEq, Repr

/-- The claim of a lodgement. -/
def Lodgement.claim (l : Lodgement) : Claim where
  number := l.number
  title := l.title
  kind := l.kind
  named := l.named

/-- The claims of the lodgements in the table, in order of acceptance. -/
def State.claims (s : State) : List Claim := s.filing.table.map Lodgement.claim

/-- What the laws of the title directory read of a state. -/
structure Register where
  condition : Condition
  dir       : Directory
  claims    : List Claim

/-- The register of a state. -/
def State.register (s : State) : Register where
  condition := s.condition
  dir := s.dir
  claims := s.claims

/-- The register belongs to the desk and the claims. -/
theorem register_of_desk {s t : State} (hd : t.desk = s.desk) (hc : t.claims = s.claims) : t.register = s.register := by
  have h1 : t.condition = s.condition := congrArg Desk.condition hd
  have h2 : t.dir = s.dir := congrArg Desk.dir hd
  simp only [State.register, h1, h2, hc]

theorem register_of_shell {s t : State} (hs : t.shell = s.shell) (hc : t.claims = s.claims) : t.register = s.register :=
  register_of_desk (desk_of_shell hs) hc

/-- An event that leaves the desk and the port to the arbiter alone leaves the desk. -/
theorem EndsIn.desk {s t : State} (h : EndsIn s t) : t.desk = s.desk := by
  cases h with
  | same h => exact desk_of_shell h
  | chosen h => exact (arbitrate_desk _).trans (desk_of_shell h)

theorem EndsIn.register {s t : State} (h : EndsIn s t) (hc : t.claims = s.claims) : t.register = s.register :=
  register_of_desk h.desk hc

variable (s : State)

-- Updates of one group ----------------------------------------------------------------------------------------

@[simp] theorem State.table_map_claim : s.filing.table.map Lodgement.claim = s.claims := rfl

@[simp] theorem State.modDir_claims (f : Directory → Directory) : (s.modDir f).claims = s.claims := rfl
@[simp] theorem State.modLib_claims (f : Library → Library) : (s.modLib f).claims = s.claims := rfl
@[simp] theorem State.modPicker_claims (f : Picker → Picker) : (s.modPicker f).claims = s.claims := rfl
@[simp] theorem State.modFetch_claims (f : Fetch → Fetch) : (s.modFetch f).claims = s.claims := rfl
@[simp] theorem State.modFiling_claims (f : Filing → Filing) :
    (s.modFiling f).claims = (f s.filing).table.map Lodgement.claim := rfl
@[simp] theorem State.modFees_claims (f : Fees → Fees) : (s.modFees f).claims = s.claims := rfl
@[simp] theorem State.modLine_claims (f : Line → Line) : (s.modLine f).claims = s.claims := rfl
@[simp] theorem State.modLink_claims (f : Link → Link) : (s.modLink f).claims = s.claims := rfl
@[simp] theorem State.modCfg_claims (f : Settings → Settings) : (s.modCfg f).claims = s.claims := rfl
@[simp] theorem State.modStaging_claims (f : Memory → Memory) : (s.modStaging f).claims = s.claims := rfl
@[simp] theorem State.modDrive_claims (d : DriveNo) (f : Drive → Drive) : (s.modDrive d f).claims = s.claims := rfl
@[simp] theorem State.modRing_claims (r : Fin 7) (f : PageRing → PageRing) : (s.modRing r f).claims = s.claims := rfl
@[simp] theorem State.modAccount_claims (a : Fin 13) (f : Account → Account) : (s.modAccount a f).claims = s.claims := rfl
@[simp] theorem State.modCounter_claims (n : CounterNo) (f : Counter → Counter) : (s.modCounter n f).claims = s.claims := rfl
@[simp] theorem State.modTitle_claims (n : Nat) (f : TitleRecord → TitleRecord) : (s.modTitle n f).claims = s.claims := rfl
@[simp] theorem State.modCart_claims (c : Nat) (f : Cartridge → Cartridge) : (s.modCart c f).claims = s.claims := rfl
@[simp] theorem State.modSide_claims (sd : SideId) (f : SideRecord → SideRecord) : (s.modSide sd f).claims = s.claims := rfl
@[simp] theorem State.modOrder_claims (n : Nat) (f : FetchOrder → FetchOrder) : (s.modOrder n f).claims = s.claims := rfl
@[simp] theorem State.reach_claims (t : Nat) : (s.reach t).claims = s.claims := rfl
@[simp] theorem queueNotice_claims (n : Notice) : (queueNotice n s).claims = s.claims := rfl
@[simp] theorem answer_claims (tag : Byte) (a : Answer) : (answer tag a s).claims = s.claims := rfl

/-- A change of a lodgement that leaves its claim leaves the claims. -/
theorem State.modLodgement_claims (n : Nat) (f : Lodgement → Lodgement) (hf : ∀ l, (f l).claim = l.claim) :
    (s.modLodgement n f).claims = s.claims := by
  simp only [State.claims, State.modLodgement, State.modFiling_filing, List.map_map]
  refine List.map_congr_left fun l _ => ?_
  simp only [Function.comp_apply]
  split
  · exact hf l
  · rfl

theorem forDrives_claims {f : DriveNo → State → State} (h : ∀ d t, (f d t).claims = t.claims) :
    (s.forDrives f).claims = s.claims :=
  forDrives_kept s (P := fun t => t.claims = s.claims) (fun d t ht => (h d t).trans ht) rfl

theorem forCounters_claims {f : CounterNo → State → State} (h : ∀ n t, (f n t).claims = t.claims) :
    (s.forCounters f).claims = s.claims :=
  forCounters_kept s (P := fun t => t.claims = s.claims) (fun n t ht => (h n t).trans ht) rfl

theorem foldl_claims {α : Type} {f : State → α → State} (h : ∀ t x, (f t x).claims = t.claims) (xs : List α) :
    (xs.foldl f s).claims = s.claims :=
  foldl_kept (P := fun t => t.claims = s.claims) (fun t x ht => (h t x).trans ht) xs s rfl

-- Rings and picker --------------------------------------------------------------------------------------------

@[simp] theorem releaseIn_claims (r : Fin 7) (p : PageEntry → Bool) : (releaseIn r p s).claims = s.claims := rfl
@[simp] theorem releaseOrder_claims (n : Nat) : (releaseOrder n s).claims = s.claims :=
  forDrives_claims _ fun _ t => releaseIn_claims t _ _
@[simp] theorem releaseLodgement_claims (n : Nat) : (releaseLodgement n s).claims = s.claims := rfl
@[simp] theorem setReopening_claims : (setReopening s).claims = s.claims := rfl
@[simp] theorem recordStart_claims : (recordStart s).claims = s.claims := rfl
@[simp] theorem setActive_claims (t : Task) (p : PickPoint) : (setActive t p s).claims = s.claims := rfl
@[simp] theorem enqueue_claims (t : Task) : (enqueue t s).claims = s.claims := rfl
@[simp] theorem endTask_claims : (endTask s).claims = s.claims := rfl
@[simp] theorem dropReservation_claims (d : DriveNo) : (dropReservation d s).claims = s.claims := rfl

@[simp] theorem setHome_claims (c : Option Nat) (n : Nat) : (setHome c n s).claims = s.claims := by
  cases c <;> rfl

@[simp] theorem beginTask_claims (t : Task) (p : PickPoint) : (beginTask t p s).claims = s.claims := by
  simp only [beginTask]
  split <;> simp

@[simp] theorem pickerChoose_claims : (pickerChoose s).claims = s.claims := by
  simp only [pickerChoose]
  repeat' split
  all_goals simp

-- Drives and allocator ----------------------------------------------------------------------------------------

@[simp] theorem lingerJudge_claims (d : DriveNo) : (lingerJudge d s).claims = s.claims := rfl

@[simp] theorem askRelease_claims (d : DriveNo) : (askRelease d s).claims = s.claims := by
  simp only [askRelease]
  repeat' split
  all_goals simp

@[simp] theorem releaseUnrecorded_claims (d : DriveNo) : (releaseUnrecorded d s).claims = s.claims := by
  simp only [releaseUnrecorded]
  split <;> simp

@[simp] theorem retarget_claims : (retarget s).claims = s.claims := by
  simp only [retarget]
  repeat' split
  all_goals simp

@[simp] theorem slotOpened_claims : (slotOpened s).claims = s.claims := by
  rw [slotOpened, pickerChoose_claims, forDrives_claims _ fun d t => releaseUnrecorded_claims t d, retarget_claims]

@[simp] theorem allocateSide_claims (sd : SideId) : (allocateSide s sd).claims = s.claims := by
  simp only [allocateSide]
  repeat' split
  all_goals simp [allocate]

@[simp] theorem runAllocator_claims : (runAllocator s).claims = s.claims := by
  simp only [runAllocator]
  repeat' split
  all_goals simp [foldl_claims _ allocateSide_claims]

@[simp] theorem workJoin_claims (d : DriveNo) (w : Work) : (workJoin d w s).claims = s.claims := by
  simp only [workJoin]
  repeat' split
  all_goals simp

@[simp] theorem withdrawLoad_claims (sd : SideId) : (withdrawLoad sd s).claims = s.claims := by
  simp only [withdrawLoad]
  repeat' split
  all_goals simp [foldl_claims _ fun t d => dropReservation_claims t d]

@[simp] theorem judgePin_claims (d : DriveNo) : (judgePin d s).claims = s.claims := by
  simp only [judgePin]
  repeat' split
  all_goals simp

@[simp] theorem judgePins_claims : (judgePins s).claims = s.claims := forDrives_claims _ fun d t => judgePin_claims t d

-- Runs and choices --------------------------------------------------------------------------------------------

@[simp] theorem beginWrite_claims (d : DriveNo) (n : Nat) (e : Location) : (beginWrite d n e s).claims = s.claims :=
  State.modLodgement_claims s n _ fun _ => rfl

@[simp] theorem settleIdle_claims (d : DriveNo) : (settleIdle d s).claims = s.claims := by
  simp only [settleIdle]
  repeat' split
  all_goals simp

@[simp] theorem holdRead_claims (d : DriveNo) : (holdRead d s).claims = s.claims := by
  simp only [holdRead]
  split <;> simp

@[simp] theorem beginIndexRead_claims (d : DriveNo) (o : FetchOrder) : (beginIndexRead d o s).claims = s.claims := rfl

@[simp] theorem chooseRead_claims (d : DriveNo) (o : FetchOrder) : (chooseRead d o s).claims = s.claims := by
  simp only [chooseRead, beginPageRead]
  repeat' split
  all_goals simp

@[simp] theorem choose_claims (d : DriveNo) : (choose d s).claims = s.claims := by
  simp only [choose]
  repeat' split
  all_goals simp

@[simp] theorem chooseIfFree_claims (d : DriveNo) : (chooseIfFree d s).claims = s.claims := by
  simp only [chooseIfFree]
  split <;> simp

@[simp] theorem chooseIfStalled_claims (d : DriveNo) : (chooseIfStalled d s).claims = s.claims := by
  simp only [chooseIfStalled]
  split <;> simp

@[simp] theorem endRun_claims (d : DriveNo) : (endRun d s).claims = s.claims := rfl

@[simp] theorem discardEnding_claims (d : DriveNo) : (discardEnding d s).claims = s.claims := by simp [discardEnding]

@[simp] theorem wakeLowered_claims (before : State) : (wakeLowered before s).claims = s.claims :=
  forDrives_claims _ fun d t => by
    split <;> simp

@[simp] theorem removeOrder_claims (n : Nat) : (removeOrder n s).claims = s.claims := by
  rw [removeOrder, forDrives_claims _ fun d t => State.modDrive_claims t d _, State.modFetch_claims]

@[simp] theorem failOrder_claims (n : Nat) (r : FailReason) : (failOrder n r s).claims = s.claims := by
  simp only [failOrder]
  split <;> simp

@[simp] theorem failOrders_claims (ns : List Nat) (r : FailReason) : (failOrders ns r s).claims = s.claims :=
  foldl_claims _ (fun t n => failOrder_claims t n r) ns

-- The arbiter -------------------------------------------------------------------------------------------------

@[simp] theorem judgeOut_claims : (judgeOut s).claims = s.claims := by
  simp only [judgeOut]
  split
  · exact forDrives_claims _ fun d t => chooseIfStalled_claims t d
  · rfl

@[simp] theorem putOut_claims (bs : List OutByte) : (putOut bs s).claims = s.claims := by simp [putOut]

@[simp] theorem pump_claims : (pump s).claims = s.claims := by
  simp only [pump]
  repeat' split
  all_goals simp

@[simp] theorem startIdle_claims (n : Nat) : (startIdle n s).claims = s.claims :=
  State.modLodgement_claims s n _ fun _ => rfl

@[simp] theorem dropArrival_claims (n : Nat) : (dropArrival n s).claims = s.claims :=
  (startIdle_claims _ n).trans (State.modLodgement_claims _ n _ fun _ => rfl)

@[simp] theorem detectOverflow_claims : (detectOverflow s).claims = s.claims := by
  simp only [detectOverflow, State.modLink_claims, endRequest]
  split <;> simp

@[simp] theorem noticeOverflow_claims : (noticeOverflow s).claims = s.claims := by
  simp only [noticeOverflow]
  split <;> simp

@[simp] theorem placeAnswer_claims : (placeAnswer s).claims = s.claims := by
  simp only [placeAnswer]
  repeat' split
  all_goals simp [putAnswer]

@[simp] theorem placeNotice_claims : (placeNotice s).claims = s.claims := by
  simp only [placeNotice]
  repeat' split
  all_goals simp [putNotice]

@[simp] theorem beginPageOut_claims : (beginPageOut s).claims = s.claims := by
  simp only [beginPageOut, startPageOut]
  repeat' split
  all_goals simp [markStreaming]

@[simp] theorem arbitrate_claims : (arbitrate s).claims = s.claims :=
  arbitrate_kept (P := fun t => t.claims = s.claims) (fun t ht => arbiterChoose_kept (P := fun t => t.claims = s.claims) ht
    ((placeAnswer_claims t).trans ht) ((placeNotice_claims t).trans ht) ((beginPageOut_claims t).trans ht)) rfl

-- The write engine --------------------------------------------------------------------------------------------

@[simp] theorem setStep_claims (n : Nat) (k : EngineStep) : (setStep n k s).claims = s.claims := rfl
@[simp] theorem removeWrite_claims (n : Nat) : (removeWrite n s).claims = s.claims :=
  forDrives_claims _ fun d t => State.modDrive_claims t d _
@[simp] theorem recordExtent_claims (n : Nat) (e : Location) : (recordExtent n e s).claims = s.claims :=
  State.modLodgement_claims s n _ fun _ => rfl
@[simp] theorem overflowSide_claims (sd : SideId) : (overflowSide sd s).claims = s.claims := rfl
@[simp] theorem joinReady_claims (n : Nat) (d : DriveNo) : (joinReady n d s).claims = s.claims := by simp [joinReady]

@[simp] theorem seekDrive_claims (n : Nat) (sd : SideId) : (seekDrive n sd s).claims = s.claims := by
  simp only [seekDrive]
  split <;> simp

@[simp] theorem wantSpace_claims : (wantSpace s).claims = s.claims := by
  simp only [wantSpace]
  split <;> simp

@[simp] theorem askSide_claims (passes : Nat) : (askSide passes s).claims = s.claims := by
  induction passes generalizing s with
  | zero => rfl
  | succ passes ih =>
    simp only [askSide]
    repeat' split
    all_goals simp [ih]

@[simp] theorem engineAsk_claims : (engineAsk s).claims = s.claims := askSide_claims s _

@[simp] theorem engineTake_claims : (engineTake s).claims = s.claims := by
  simp only [engineTake]
  repeat' split
  all_goals simp

@[simp] theorem engineMounted_claims (d : DriveNo) : (engineMounted d s).claims = s.claims := by
  simp only [engineMounted]
  repeat' split
  all_goals simp

@[simp] theorem dropExtent_claims (n : Nat) : (dropExtent n s).claims = s.claims := by
  rw [dropExtent, removeWrite_claims, setStep_claims]
  exact State.modLodgement_claims s n _ fun _ => rfl

@[simp] theorem activeLost_claims : (activeLost s).claims = s.claims := by
  simp only [activeLost]
  repeat' split
  all_goals simp

/-- A lodgement leaves the table with its claim. -/
@[simp] theorem leaveTable_claims (n : Nat) :
    (leaveTable n s).claims = s.claims.filter fun c => decide (c.number ≠ n) := by
  simp only [leaveTable, State.claims, State.modFiling_filing, List.filter_map]
  rfl

@[simp] theorem letGo_claims (n : Nat) : (letGo n s).claims = s.claims := by
  simp only [letGo]
  split <;> simp

@[simp] theorem sideError_claims (sd : SideId) : (sideError sd s).claims = s.claims := by
  simp only [sideError]
  repeat' split
  all_goals simp [retireSide]

@[simp] theorem warnSpace_claims (sd : SideId) : (warnSpace sd s).claims = s.claims := by
  simp only [warnSpace]
  repeat' split
  all_goals simp

@[simp] theorem giveUp_claims (e : Location) : (giveUp e s).claims = s.claims := rfl
@[simp] theorem stopRuns_claims (n : Nat) : (stopRuns n s).claims = s.claims :=
  forDrives_claims _ fun d t => State.modDrive_claims t d _

@[simp] theorem meetDrives_claims : (meetDrives s).claims = s.claims :=
  forDrives_claims _ fun d t => by
    split <;> simp

-- The library and the requests --------------------------------------------------------------------------------

@[simp] theorem clearActiveOf_claims (c : Nat) : (clearActiveOf c s).claims = s.claims := rfl
@[simp] theorem clearLeaving_claims (c : Nat) : (clearLeaving c s).claims = s.claims := rfl
@[simp] theorem blockSlot_claims (n : Nat) : (blockSlot n s).claims = s.claims := rfl
@[simp] theorem resetMailCarts_claims : (resetMailCarts s).claims = s.claims := rfl
@[simp] theorem freeMail_claims : (freeMail s).claims = s.claims := rfl
@[simp] theorem holdForMail_claims : (holdForMail s).claims = s.claims := rfl
@[simp] theorem afterTask_claims : (afterTask s).claims = s.claims := by simp [afterTask]

@[simp] theorem modCartOf_claims (c : Option Nat) (f : Cartridge → Cartridge) : (modCartOf c f s).claims = s.claims := by
  cases c <;> rfl

@[simp] theorem enterCart_claims (c : Nat) (a b : Role) : (enterCart c a b s).claims = s.claims := by
  simp only [enterCart]
  split <;> simp

@[simp] theorem acceptImport_claims (c : Nat) (a b : Role) (n : Nat) : (acceptImport c a b n s).claims = s.claims := by
  simp [acceptImport]

@[simp] theorem releaseFor_claims (p : Place) : (releaseFor p s).claims = s.claims := by
  cases p <;> simp [releaseFor]

@[simp] theorem acceptExport_claims (c : Nat) (p : Place) : (acceptExport c p s).claims = s.claims := by
  simp only [acceptExport, pickerChoose_claims, releaseFor_claims, enqueue_claims, judgePins_claims, clearActiveOf_claims,
    State.modLib_claims]

@[simp] theorem changeRole_claims (sd : SideId) (r : Role) : (changeRole sd r s).claims = s.claims := by
  cases r with
  | filing => exact (engineAsk_claims _).trans (State.modSide_claims ..)
  | archive => exact (runAllocator_claims _).trans (judgePins_claims _)
  | full => exact (runAllocator_claims _).trans (judgePins_claims _)

@[simp] theorem attach_claims (d : DriveNo) (n : Nat) : (attach d n s).claims = s.claims := by simp [attach]

@[simp] theorem enterOrder_claims (o : FetchOrder) : (enterOrder o s).claims = s.claims := rfl

@[simp] theorem placeOrder_claims (o : FetchOrder) : (placeOrder o s).claims = s.claims := by
  simp only [placeOrder]
  repeat' split
  all_goals simp

@[simp] theorem cancelOrder_claims (o : FetchOrder) : (cancelOrder o s).claims = s.claims := by
  simp only [cancelOrder]
  repeat' split
  all_goals simp

@[simp] theorem stageLodgement_claims (n : Nat) : (stageLodgement n s).claims = s.claims := by
  rw [stageLodgement, engineTake_claims, judgePins_claims, State.modFiling_claims, State.table_map_claim]
  exact State.modLodgement_claims s n _ fun _ => rfl

@[simp] theorem countPage_claims (l : Lodgement) (n : Nat) : (countPage l n s).claims = s.claims :=
  State.modLodgement_claims _ _ _ fun _ => rfl

@[simp] theorem admitPage_claims (l : Lodgement) (n : Nat) (g : PageRing) : (admitPage l n g s).claims = s.claims :=
  State.modLodgement_claims _ _ _ fun _ => rfl

-- Mechanism events --------------------------------------------------------------------------------------------

@[simp] theorem dropTask_claims (t : Task) : (dropTask t s).claims = s.claims := by
  simp only [dropTask]
  split <;> simp

@[simp] theorem endDriveTask_claims (a : Active) : (endDriveTask a s).claims = s.claims := by
  simp only [endDriveTask]
  split <;> simp

@[simp] theorem pickerFaults_claims : (pickerFaults s).claims = s.claims := by
  simp only [pickerFaults]
  rw [failOrders_claims, foldl_claims _ fun t k => dropTask_claims t k,
    forDrives_claims _ fun d t => State.modDrive_claims t d _]
  split <;> simp

@[simp] theorem settleCart_claims (rep : DriveReport) (c : Nat) : (settleCart rep c s).claims = s.claims := by
  cases rep <;> rfl

@[simp] theorem resetDrive_claims (report : MechReport) (d : DriveNo) : (resetDrive report d s).claims = s.claims := by
  simp only [resetDrive, dropLoadOf]
  repeat' split
  all_goals simp

@[simp] theorem resetGrip_claims (rep : PickerReport) : (resetGrip rep s).claims = s.claims := by
  simp only [resetGrip]
  split <;> simp

@[simp] theorem queueSweep_claims (rep : PickerReport) : (queueSweep rep s).claims = s.claims := by
  simp only [queueSweep]
  split <;> simp

@[simp] theorem leavePoint_claims (p : PickPoint) : (leavePoint p s).claims = s.claims := by
  cases p <;> simp [leavePoint]

@[simp] theorem picked_claims (p : PickPoint) : (picked p s).claims = s.claims := by
  simp only [picked, pickDone]
  repeat' split
  all_goals simp

@[simp] theorem emptyDrive_claims (a : Active) : (emptyDrive a s).claims = s.claims := by
  simp only [emptyDrive]
  split <;> simp

@[simp] theorem importPlaced_claims (a : Active) (n : Nat) : (importPlaced a n s).claims = s.claims := by
  simp only [importPlaced]
  split <;> simp

@[simp] theorem trapPlaced_claims (d : DriveNo) (c : Option Nat) : (trapPlaced d c s).claims = s.claims := by
  simp only [trapPlaced]
  repeat' split
  all_goals simp

@[simp] theorem mailNotice_claims (a : Active) : (mailNotice a s).claims = s.claims := by
  simp only [mailNotice]
  split <;> simp

@[simp] theorem placeInDrive_claims (d : DriveNo) (a : Active) : (placeInDrive d a s).claims = s.claims := by
  simp only [placeInDrive]
  split <;> simp

@[simp] theorem placeDone_claims (p : PickPoint) (a : Active) : (placeDone p a s).claims = s.claims := by
  cases p <;> simp [placeDone, placeInSlot, placeInMail]

@[simp] theorem placed_claims (p : PickPoint) : (placed p s).claims = s.claims := by
  simp only [placed]
  repeat' split
  all_goals simp

@[simp] theorem slotOccupied_claims (n : Nat) : (slotOccupied n s).claims = s.claims := by
  simp only [slotOccupied, retargetTask]
  repeat' split
  all_goals simp

@[simp] theorem takeOut_claims : (takeOut s).claims = s.claims := by
  simp only [takeOut, removeImport]
  repeat' split
  all_goals simp

@[simp] theorem mailEmptied_claims : (mailEmptied s).claims = s.claims := by
  simp only [mailEmptied]
  split <;> simp

-- Drive events ------------------------------------------------------------------------------------------------

@[simp] theorem attachWaiting_claims (d : DriveNo) : (attachWaiting d s).claims = s.claims := by
  simp only [attachWaiting]
  repeat' split
  all_goals simp [foldl_claims _ fun t n => attach_claims t d n]

@[simp] theorem spinUp_claims (d : DriveNo) : (spinUp d s).claims = s.claims := by
  simp only [spinUp]
  split <;> simp

@[simp] theorem spinDown_claims (d : DriveNo) : (spinDown d s).claims = s.claims := by
  simp only [spinDown]
  repeat' split
  all_goals simp

@[simp] theorem indexRead_claims (d : DriveNo) (n : Nat) (ls : List Nat) : (indexRead d n ls s).claims = s.claims := by
  simp only [indexRead]
  repeat' split
  all_goals simp

@[simp] theorem storePage_claims (d : DriveNo) (n p : Nat) (bs : List Byte) : (storePage d n p bs s).claims = s.claims := by
  simp only [storePage]
  split <;> simp

@[simp] theorem countRead_claims (d : DriveNo) (n : Nat) : (countRead d n s).claims = s.claims := by
  simp only [countRead]
  repeat' split
  all_goals simp

@[simp] theorem readError_claims (d : DriveNo) (n : Nat) : (readError d n s).claims = s.claims := by
  simp only [readError, secondError]
  repeat' split
  all_goals simp

@[simp] theorem beginVerify_claims (d : DriveNo) (u : Run) : (beginVerify d u s).claims = s.claims :=
  State.modLodgement_claims _ _ _ fun _ => rfl

@[simp] theorem clearTrapped_claims (c : Option Nat) : (clearTrapped c s).claims = s.claims := by
  cases c <;> simp [clearTrapped]

@[simp] theorem endTasksOf_claims (d : DriveNo) : (endTasksOf d s).claims = s.claims := by
  simp only [endTasksOf, turnLoad]
  repeat' split
  all_goals simp

@[simp] theorem failForFault_claims (r : Drive) (c : Option Nat) : (failForFault r c s).claims = s.claims := by
  simp only [failForFault]
  split <;> simp

-- The counter line --------------------------------------------------------------------------------------------

@[simp] theorem lineChoose_claims : (lineChoose s).claims = s.claims := by
  simp only [lineChoose, beginPost, beginPoll]
  repeat' split
  all_goals simp

@[simp] theorem refreshLine_claims : (refreshLine s).claims = s.claims := by
  simp only [refreshLine, startPollTimer, State.modLine_claims]
  exact forCounters_claims _ fun n t => State.modCounter_claims t n _

end Sys2Proof.Machine
end

-- ==== Proofs: what can happen to the register ====
section
/-!
SUPPORT for the proofs of family 01. The operations on a register, the one relation that says all that an event can do to it, and the
laws of the title directory read off a register: each is kept by every move.
-/
namespace Sys2Proof.Machine

-- Operations on a register ------------------------------------------------------------------------------------

/-- The lodgements of adding kinds among claims. -/
def adding (cs : List Claim) : Nat := (cs.filter fun c => c.kind.adds.isSome).length

/-- One place of the pool for an adding kind, none for another. -/
def LodgeKind.places (k : LodgeKind) : Nat := if k.adds.isSome then 1 else 0

/-- Changes the record of title `n` and no other. -/
def Register.modTitle (n : Nat) (f : TitleRecord → TitleRecord) (g : Register) : Register :=
  { g with dir := { g.dir with titles := g.dir.titles.map fun r => if r.number = n then f r else r } }

/-- A record is added (R24). -/
def Register.addTitle (r : TitleRecord) (g : Register) : Register :=
  { g with dir := { g.dir with titles := insertTitle r g.dir.titles, count := g.dir.count + 1 } }

/-- A title is closed and its entries return to the pool (R30). -/
def Register.retire (r : TitleRecord) (successors : List Nat) (g : Register) : Register :=
  let h := g.modTitle r.number (TitleRecord.close successors)
  { h with dir := { h.dir with inUse := h.dir.inUse - r.entries.length } }

/-- A claim is entered, with its reservation (R10, R128). -/
def Register.enter (c : Claim) (g : Register) : Register :=
  { g with dir := { g.dir with reserved := g.dir.reserved + c.kind.places }, claims := g.claims ++ [c] }

/-- The claim of a number leaves. -/
def Register.drop (n : Nat) (g : Register) : Register :=
  { g with claims := g.claims.filter fun c => decide (c.number ≠ n) }

/-- A claim leaves without a commit, its reservation returned (R9). -/
def Register.leave (c : Claim) (g : Register) : Register :=
  { g.drop c.number with dir := { g.dir with reserved := g.dir.reserved - c.kind.places } }

/-- A claim is committed: title, pool and table (R32 to R36). -/
def Register.commit (c : Claim) (loc : Location) (g : Register) : Register :=
  let h := g.modTitle c.title fun r => (r.install loc).amend c.kind c.named
  { h with dir := h.dir.commitPool c.kind, claims := (g.drop c.number).claims }

/-- The table is emptied with its reservations (R151). -/
def Register.emptied (g : Register) : Register :=
  { g with dir := { g.dir with reserved := g.dir.reserved - adding g.claims }, claims := [] }

/-- What an accepted LODGE has checked of its title and its claim (R127), and, where the rings are within the ring layout, that the
number is free (R129). -/
structure Register.Admits (p : Prop) (g : Register) (r : TitleRecord) (c : Claim) : Prop where
  ready    : g.condition = .ready
  held     : r ∈ g.dir.titles
  title    : r.number = c.title
  active   : r.status = .active
  unbarred : ∀ d ∈ g.claims, d.title ≠ c.title
  room     : r.hasRoomFor c.kind
  place    : c.kind.adds.isSome = true → g.dir.inUse + g.dir.reserved < Config.poolPlaces
  named    : c.kind.removes = true → ∃ e ∈ r.entries, some e.number = c.named
  free     : p → ∀ d ∈ g.claims, d.number ≠ c.number

/-- All that one event can do to a register. `p` stands for the laws of the rings, on which a lodgement's fresh number rests. -/
inductive Move (p : Prop) (g : Register) : Register → Prop where
  | stay : Move p g g
  | newTitle (n : Nat) (cls : Fin 8) : 1 ≤ n → (∀ r ∈ g.dir.titles, r.number ≠ n) → g.dir.count < Config.maxTitles →
      Move p g (g.addTitle (TitleRecord.fresh n cls))
  | setClass (n : Nat) (cls : Fin 8) : Move p g (g.modTitle n fun r => { r with feeClass := cls })
  | copy (n : Nat) : Move p g (g.modTitle n fun r => { r with copies := min Config.maxCopies (r.copies + 1) })
  | retire (r : TitleRecord) (successors : List Nat) : r ∈ g.dir.titles → (∀ c ∈ g.claims, c.title ≠ r.number) →
      successors ≠ [] → Move p g (g.retire r successors)
  | lodge (r : TitleRecord) (c : Claim) : g.Admits p r c → Move p g (g.enter c)
  | leave (c : Claim) : c ∈ g.claims → Move p g (g.leave c)
  | commit (c : Claim) (loc : Location) : c ∈ g.claims → Move p g (g.commit c loc)
  | empty : Move p g g.emptied
  | format : g.condition = .unformatted ∨ g.claims = [] →
      Move p g { condition := .ready, dir := Directory.initial, claims := g.claims }
  | resetReady : Move p g { condition := .ready, dir := { g.dir with reserved := 0 }, claims := [] }
  | resetNew : Move p g { condition := .unformatted, dir := Directory.initial, claims := [] }

-- The laws, read off a register -------------------------------------------------------------------------------

/-- R4, R5 and R126. -/
structure Register.DirectoryLaw (g : Register) : Prop where
  bare      : g.condition = .unformatted → g.claims = []
  ascending : (g.dir.titles.map fun r => r.number).Pairwise (· < ·)
  positive  : ∀ r ∈ g.dir.titles, 1 ≤ r.number
  counted   : g.dir.count = g.dir.titles.length
  capacity  : g.dir.count ≤ Config.maxTitles
  closed    : ∀ r ∈ g.dir.titles, r.closedLaw
  claimed   : ∀ c ∈ g.claims, ∃ r ∈ g.dir.titles, r.number = c.title ∧ r.status = .active
  apart     : (g.claims.map fun c => c.title).Pairwise (· ≠ ·)

/-- R8, but for the in-use figure. -/
structure Register.PoolLaw (g : Register) : Prop where
  bare     : g.condition = .unformatted → g.claims = []
  distinct : (g.claims.map fun c => c.number).Pairwise (· ≠ ·)
  reserved : g.dir.reserved = adding g.claims
  fits     : g.dir.inUse + g.dir.reserved ≤ Config.poolPlaces

/-- R33's named entries and R8's in-use figure. -/
structure Register.InUseLaw (g : Register) : Prop where
  named : ∀ c ∈ g.claims, c.kind.removes = true →
    ∃ r ∈ g.dir.titles, r.number = c.title ∧ ∃ e ∈ r.entries, some e.number = c.named
  inUse : g.dir.inUse = (g.dir.titles.map fun r => r.entries.length).sum

/-- R3, R33 and R39. -/
structure Register.LimitLaw (g : Register) : Prop where
  within : ∀ r ∈ g.dir.titles, r.withinLimits
  room   : ∀ c ∈ g.claims, ∀ r ∈ g.dir.titles, r.number = c.title → r.hasRoomFor c.kind

theorem claims_eq_nil {s : State} : s.claims = [] ↔ s.filing.table = [] := List.map_eq_nil_iff

theorem State.claims_map_title (s : State) :
    (s.claims.map fun c => c.title) = s.filing.table.map fun l => l.title := List.map_map ..

theorem State.claims_map_number (s : State) :
    (s.claims.map fun c => c.number) = s.filing.table.map fun l => l.number := List.map_map ..

theorem adding_claims (s : State) : adding s.claims = s.filing.adding := by
  simp only [adding, State.claims, Filing.adding, List.filter_map, List.length_map]
  rfl

theorem forall_claims {s : State} {P : Claim → Prop} : (∀ c ∈ s.claims, P c) ↔ ∀ l ∈ s.filing.table, P l.claim :=
  List.forall_mem_map

theorem State.directoryLaw_iff (s : State) : s.directoryLaw ↔ s.register.DirectoryLaw := by
  constructor
  · rintro ⟨hempty, hasc, hpos, hcount, hmax, hclosed, hheld, hdistinct⟩
    exact ⟨fun h => claims_eq_nil.mpr (hempty h), hasc, hpos, hcount, hmax, hclosed, forall_claims.mpr hheld,
      by simpa [State.register, State.claims_map_title] using hdistinct⟩
  · rintro ⟨hempty, hasc, hpos, hcount, hmax, hclosed, hheld, hdistinct⟩
    exact ⟨fun h => claims_eq_nil.mp (hempty h), hasc, hpos, hcount, hmax, hclosed, forall_claims.mp hheld,
      by simpa [State.register, State.claims_map_title] using hdistinct⟩

theorem State.poolLaw_iff (s : State) : s.poolLaw ↔ s.register.PoolLaw := by
  constructor
  · rintro ⟨hempty, hdistinct, hreserved, hfit⟩
    exact ⟨fun h => claims_eq_nil.mpr (hempty h), by simpa [State.register, State.claims_map_number] using hdistinct,
      hreserved.trans (adding_claims s).symm, hfit⟩
  · rintro ⟨hempty, hdistinct, hreserved, hfit⟩
    exact ⟨fun h => claims_eq_nil.mp (hempty h), by simpa [State.register, State.claims_map_number] using hdistinct,
      hreserved.trans (adding_claims s), hfit⟩

theorem State.inUseLaw_iff (s : State) : s.inUseLaw ↔ s.register.InUseLaw :=
  ⟨fun ⟨h1, h2⟩ => ⟨forall_claims.mpr h1, h2⟩, fun ⟨h1, h2⟩ => ⟨forall_claims.mp h1, h2⟩⟩

theorem State.limitLaw_iff (s : State) : s.limitLaw ↔ s.register.LimitLaw :=
  ⟨fun ⟨h1, h2⟩ => ⟨h1, forall_claims.mpr h2⟩, fun ⟨h1, h2⟩ => ⟨h1, forall_claims.mp h2⟩⟩

-- Records of one number ---------------------------------------------------------------------------------------

/-- Items with distinct keys are told apart by their keys. -/
theorem eq_of_key_eq {α β : Type} {key : α → β} {xs : List α} (h : (xs.map key).Pairwise (· ≠ ·)) {x y : α} (hx : x ∈ xs)
    (hy : y ∈ xs) (e : key x = key y) : x = y :=
  List.inj_on_of_nodup_map h hx hy e

/-- A strictly ascending directory holds one record of a number. -/
theorem eq_of_number_eq {ts : List TitleRecord} (h : (ts.map fun r => r.number).Pairwise (· < ·)) {r q : TitleRecord}
    (hr : r ∈ ts) (hq : q ∈ ts) (e : r.number = q.number) : r = q :=
  eq_of_key_eq (h.imp Nat.ne_of_lt) hr hq e

/-- What the changed record keeps and every other record has, every record has. -/
theorem forall_modTitle {n : Nat} {f : TitleRecord → TitleRecord} {ts : List TitleRecord} {P : TitleRecord → Prop}
    (h : ∀ r ∈ ts, r.number ≠ n → P r) (hf : ∀ r ∈ ts, r.number = n → P (f r)) :
    ∀ r ∈ ts.map (fun r => if r.number = n then f r else r), P r := by
  intro q hq
  obtain ⟨r, hr, rfl⟩ := List.mem_map.mp hq
  split
  · next e => exact hf r hr e
  · next e => exact h r hr e

/-- What a record has that the change keeps, some record has after the change. -/
theorem exists_modTitle {n : Nat} {f : TitleRecord → TitleRecord} {ts : List TitleRecord} {P Q : TitleRecord → Prop}
    (hf : ∀ r ∈ ts, r.number = n → P r → Q (f r)) (ho : ∀ r, r.number ≠ n → P r → Q r) (h : ∃ r ∈ ts, P r) :
    ∃ r ∈ ts.map (fun r => if r.number = n then f r else r), Q r := by
  obtain ⟨r, hr, hP⟩ := h
  refine ⟨_, List.mem_map_of_mem hr, ?_⟩
  split
  · next e => exact hf r hr e hP
  · next e => exact ho r e hP

/-- A number that no record has changes none. -/
theorem modTitle_absent {n : Nat} {f : TitleRecord → TitleRecord} {ts : List TitleRecord} (h : ∀ r ∈ ts, r.number ≠ n) :
    (ts.map fun r => if r.number = n then f r else r) = ts :=
  (List.map_congr_left fun r hr => if_neg (h r hr)).trans (List.map_id ts)

/-- Changing the record of a held title changes the sum of the entries by its own. -/
theorem sum_entries_modTitle {f : TitleRecord → TitleRecord} {ts : List TitleRecord} {r : TitleRecord}
    (h : (ts.map fun r => r.number).Pairwise (· < ·)) (hr : r ∈ ts) :
    ((ts.map fun q => if q.number = r.number then f q else q).map fun q => q.entries.length).sum + r.entries.length =
      (ts.map fun q => q.entries.length).sum + (f r).entries.length := by
  induction ts with
  | nil => cases hr
  | cons q rest ih =>
    simp only [List.map_cons, List.pairwise_cons, List.forall_mem_map] at h
    obtain ⟨hq, hrest⟩ := h
    rcases List.mem_cons.mp hr with rfl | hm
    · have others := modTitle_absent (f := f) fun q hm => Nat.ne_of_gt (hq q hm)
      simp only [List.map_cons, if_true, others, List.sum_cons]
      omega
    · have hne : q.number ≠ r.number := Nat.ne_of_lt (hq r hm)
      have := ih hrest hm
      simp only [List.map_cons, if_neg hne, List.sum_cons]
      omega

/-- Of items with distinct keys, leaving out one key leaves out one item. -/
theorem length_filter_key_ne {α : Type} {key : α → Nat} {xs : List α} (h : (xs.map key).Pairwise (· ≠ ·)) {x : α} (hx : x ∈ xs) :
    (xs.filter fun y => decide (key y ≠ key x)).length + 1 = xs.length := by
  induction xs with
  | nil => cases hx
  | cons y rest ih =>
    simp only [List.map_cons, List.pairwise_cons, List.forall_mem_map] at h
    obtain ⟨hy, hrest⟩ := h
    rcases List.mem_cons.mp hx with rfl | hm
    · have others : (rest.filter fun z => decide (key z ≠ key x)) = rest :=
        List.filter_eq_self.mpr fun z hz => by simpa using (hy z hz).symm
      rw [List.filter_cons_of_neg (by simp), others, List.length_cons]
    · rw [List.filter_cons_of_pos (by simpa using hy x hm), List.length_cons, ih hrest hm, List.length_cons]

/-- A claim that leaves takes its own place of the pool and no other (R9). -/
theorem adding_drop {cs : List Claim} (h : (cs.map fun c => c.number).Pairwise (· ≠ ·)) {c : Claim} (hc : c ∈ cs) :
    adding (cs.filter fun d => decide (d.number ≠ c.number)) + c.kind.places = adding cs := by
  unfold adding LodgeKind.places
  rw [List.filter_comm]
  split
  · next hk =>
    refine length_filter_key_ne ?_ (List.mem_filter.mpr ⟨hc, hk⟩)
    exact h.sublist (List.filter_sublist.map _)
  · next hk =>
    refine congrArg List.length (List.filter_eq_self.mpr fun d hd => ?_)
    obtain ⟨hd, hdk⟩ := List.mem_filter.mp hd
    refine decide_eq_true fun e => hk ?_
    rwa [← eq_of_key_eq (key := fun c : Claim => c.number) h hd hc e]

end Sys2Proof.Machine
end

-- ==== Proofs: every move keeps the laws of the directory ====
section
/-!
SUPPORT for the proofs of family 01. The laws of the title directory under each operation on a register, and under every move.
-/
namespace Sys2Proof.Machine

variable {p : Prop} {g h : Register}

-- The two steps of a commit on a record -----------------------------------------------------------------------

section
variable (k : LodgeKind) (named : Option Nat) (loc : Location) (r : TitleRecord)

/-- The second step of a commit leaves all of a record but its entries and next entry number (R35). -/
theorem TitleRecord.amend_frame : (r.amend k named).number = r.number ∧ (r.amend k named).status = r.status ∧
    (r.amend k named).successors = r.successors ∧ (r.amend k named).edition = r.edition ∧
    (r.amend k named).current = r.current ∧ (r.amend k named).priors = r.priors ∧ (r.amend k named).copies = r.copies := by
  unfold TitleRecord.amend
  repeat' split
  all_goals exact ⟨rfl, rfl, rfl, rfl, rfl, rfl, rfl⟩

@[simp] theorem TitleRecord.amend_number : (r.amend k named).number = r.number := (r.amend_frame k named).1
@[simp] theorem TitleRecord.amend_status : (r.amend k named).status = r.status := (r.amend_frame k named).2.1
@[simp] theorem TitleRecord.amend_successors : (r.amend k named).successors = r.successors := (r.amend_frame k named).2.2.1
@[simp] theorem TitleRecord.amend_edition : (r.amend k named).edition = r.edition := (r.amend_frame k named).2.2.2.1

@[simp] theorem TitleRecord.install_number : (r.install loc).number = r.number := rfl
@[simp] theorem TitleRecord.install_status : (r.install loc).status = r.status := rfl
@[simp] theorem TitleRecord.install_successors : (r.install loc).successors = r.successors := rfl
@[simp] theorem TitleRecord.install_edition : (r.install loc).edition = r.edition + 1 := rfl
@[simp] theorem TitleRecord.install_entries : (r.install loc).entries = r.entries := rfl
@[simp] theorem TitleRecord.install_nextEntry : (r.install loc).nextEntry = r.nextEntry := rfl

variable {k}

/-- An adding kind adds one entry, of the next entry number (R35). -/
theorem TitleRecord.amend_adds {e : EntryKind} (hk : k.adds = some e) :
    (r.amend k named).entries = r.entries ++ [{ number := r.nextEntry, kind := e, edition := r.edition }] ∧
      (r.amend k named).nextEntry = r.nextEntry + 1 := by
  simp [TitleRecord.amend, hk]

/-- A removing kind takes out the entry it names (R35). -/
theorem TitleRecord.amend_removes (ha : k.adds = none) (hk : k.removes = true) :
    r.amend k named = { r with entries := r.entries.filter fun e => some e.number ≠ named } := by
  simp [TitleRecord.amend, ha, hk]

/-- Any other kind leaves the record as installed (R35). -/
theorem TitleRecord.amend_other (ha : k.adds = none) (hk : k.removes = false) : r.amend k named = r := by
  simp [TitleRecord.amend, ha, hk]

end

/-- A removing kind adds nothing (Table 7-1). -/
theorem LodgeKind.adds_of_removes {k : LodgeKind} (hk : k.removes = true) : k.adds = none := by
  cases k <;> first | rfl | cases hk

/-- The prior editions after a commit: the last edition, then the three newest before it (R2, R34). -/
theorem priorEditions_succ (e : Nat) : priorEditions (e + 2) = (e + 1) :: (priorEditions (e + 1)).take 3 := by
  have hn : min Config.maxPriors (e + 2 - 1) = min 3 e + 1 := by simp only [Config.maxPriors]; omega
  have ht : min 3 (min Config.maxPriors (e + 1 - 1)) = min 3 e := by simp only [Config.maxPriors]; omega
  simp only [priorEditions, hn, List.range_succ_eq_map, List.map_cons, List.map_map, ← List.map_take, List.take_range, ht]
  refine congrArg₂ _ rfl (List.map_congr_left fun i _ => ?_)
  simp only [Function.comp_apply]
  omega

/-- Installing a deed keeps a record's law (R2, R34). -/
theorem TitleRecord.install_lawful (loc : Location) {r : TitleRecord} (hr : r.lawful) : (r.install loc).lawful := by
  obtain ⟨hcur, hpri, hasc, hent, hcop⟩ := hr
  refine ⟨by simp [TitleRecord.install], ?_, hasc, fun e he => ⟨(hent e he).1, (hent e he).2.trans (Nat.le_succ _)⟩, hcop⟩
  simp only [TitleRecord.install, TitleRecord.pushed]
  split
  · next l hl =>
    obtain ⟨e, he⟩ : ∃ e, r.edition = e + 1 := ⟨r.edition - 1, by have := hcur.mp (by simp [hl]); omega⟩
    rw [he] at hpri
    simp only [List.map_cons, List.map_take, he, hpri, priorEditions_succ, Config.maxPriors]
  · next hl =>
    have he : r.edition = 0 := by
      have := mt hcur.mpr (by simp [hl]); omega
    rw [he] at hpri
    simp only [hpri, he]
    rfl

/-- Amending the entries keeps a record's law (R3, R35). -/
theorem TitleRecord.amend_lawful (k : LodgeKind) (named : Option Nat) {r : TitleRecord} (hr : r.lawful) :
    (r.amend k named).lawful := by
  obtain ⟨hcur, hpri, hasc, hent, hcop⟩ := hr
  cases ha : k.adds with
  | some e =>
    simp only [TitleRecord.amend, ha]
    refine ⟨hcur, hpri, ?_, ?_, hcop⟩
    · simp only [List.map_append, List.pairwise_append, List.map_cons, List.map_nil, List.mem_singleton, forall_eq,
        List.forall_mem_map]
      exact ⟨hasc, List.pairwise_singleton .., fun x hx => (hent x hx).1⟩
    · intro x hx
      rcases List.mem_append.mp hx with hx | hx
      · exact ⟨(hent x hx).1.trans (Nat.lt_succ_self _), (hent x hx).2⟩
      · rw [List.mem_singleton.mp hx]
        exact ⟨Nat.lt_succ_self _, Nat.le_refl _⟩
  | none =>
    cases hk : k.removes with
    | true =>
      rw [TitleRecord.amend_removes named r ha hk]
      exact ⟨hcur, hpri, hasc.sublist (List.filter_sublist.map _), fun x hx => hent x (List.mem_of_mem_filter hx), hcop⟩
    | false =>
      rw [TitleRecord.amend_other named r ha hk]
      exact ⟨hcur, hpri, hasc, hent, hcop⟩

/-- A commit keeps a record with room within its limits (R33, R39). -/
theorem TitleRecord.commit_withinLimits {k : LodgeKind} (named : Option Nat) (loc : Location) {r : TitleRecord}
    (hw : r.withinLimits) (hroom : r.hasRoomFor k) : ((r.install loc).amend k named).withinLimits := by
  obtain ⟨-, hlen, hnext⟩ := hw
  obtain ⟨hed, hadd⟩ := hroom
  refine ⟨by simp only [TitleRecord.amend_edition, TitleRecord.install_edition]; omega, ?_⟩
  cases ha : k.adds with
  | some e =>
    obtain ⟨he, hn⟩ := TitleRecord.amend_adds named (r.install loc) ha
    obtain ⟨h24, h256⟩ := hadd (by simp [ha])
    rw [he, hn]
    simp only [TitleRecord.install_entries, TitleRecord.install_nextEntry, List.length_append, List.length_singleton]
    omega
  | none =>
    cases hk : k.removes with
    | true =>
      rw [TitleRecord.amend_removes named _ ha hk]
      exact ⟨(List.length_filter_le ..).trans hlen, hnext⟩
    | false =>
      rw [TitleRecord.amend_other named _ ha hk]
      exact ⟨hlen, hnext⟩

-- The directory's law -----------------------------------------------------------------------------------------

/-- The law of the directory reads neither pool figure, and stands when claims go. -/
theorem Register.DirectoryLaw.of_sublist (hg : g.DirectoryLaw) (hc : h.condition = .unformatted → g.condition = .unformatted)
    (ht : h.dir.titles = g.dir.titles) (hn : h.dir.count = g.dir.count) (hs : h.claims.Sublist g.claims) :
    h.DirectoryLaw where
  bare hu := List.sublist_nil.mp (hg.bare (hc hu) ▸ hs)
  ascending := ht ▸ hg.ascending
  positive := ht ▸ hg.positive
  counted := by rw [hn, ht, hg.counted]
  capacity := hn ▸ hg.capacity
  closed := ht ▸ hg.closed
  claimed c hm := ht ▸ hg.claimed c (hs.subset hm)
  apart := hg.apart.sublist (hs.map _)

/-- A change of one record keeps the law of the directory where the record keeps the law of R4, and stays ACTIVE while claimed. -/
theorem Register.DirectoryLaw.modTitle (hg : g.DirectoryLaw) {n : Nat} {f : TitleRecord → TitleRecord}
    (hf : ∀ r, (f r).number = r.number) (hclosed : ∀ r ∈ g.dir.titles, r.number = n → (f r).closedLaw)
    (hactive : ∀ c ∈ g.claims, c.title = n → ∀ r, r.status = .active → (f r).status = .active) :
    (g.modTitle n f).DirectoryLaw where
  bare := hg.bare
  ascending := by
    simpa only [Register.modTitle, map_key_map (fun r : TitleRecord => r.number) f hf] using hg.ascending
  positive := forall_modTitle (fun r hr _ => hg.positive r hr) fun r hr _ => (hf r).symm ▸ hg.positive r hr
  counted := by simpa only [Register.modTitle, List.length_map] using hg.counted
  capacity := hg.capacity
  closed := forall_modTitle (fun r hr _ => hg.closed r hr) hclosed
  claimed c hc := exists_modTitle (fun r _ hn ⟨ht, ha⟩ => ⟨(hf r).trans ht, hactive c hc (ht.symm.trans hn) r ha⟩)
    (fun _ _ hr => hr) (hg.claimed c hc)
  apart := hg.apart

/-- The claimed title's one record. -/
theorem Register.DirectoryLaw.claimed_active (hg : g.DirectoryLaw) {c : Claim} (hc : c ∈ g.claims) {r : TitleRecord}
    (hr : r ∈ g.dir.titles) (hn : r.number = c.title) : r.status = .active := by
  obtain ⟨q, hq, hqn, hqa⟩ := hg.claimed c hc
  rwa [eq_of_number_eq hg.ascending hr hq (hn.trans hqn.symm)]

/-- Two claims of one title are one claim (R126). -/
theorem Register.DirectoryLaw.claim_unique (hg : g.DirectoryLaw) {c d : Claim} (hc : c ∈ g.claims) (hd : d ∈ g.claims)
    (e : c.title = d.title) : c = d :=
  eq_of_key_eq (key := fun c : Claim => c.title) hg.apart hc hd e

/-- A claim left by another's removal is on another title. -/
theorem Register.DirectoryLaw.other_title (hg : g.DirectoryLaw) {c d : Claim} (hc : c ∈ g.claims)
    (hd : d ∈ (g.drop c.number).claims) : d ∈ g.claims ∧ d.title ≠ c.title := by
  obtain ⟨hd, hn⟩ := List.mem_filter.mp hd
  exact ⟨hd, fun e => of_decide_eq_true hn (hg.claim_unique hd hc e ▸ rfl)⟩

theorem Register.drop_sublist (g : Register) (n : Nat) : (g.drop n).claims.Sublist g.claims := List.filter_sublist

@[simp] theorem Directory.commitPool_titles (k : LodgeKind) (d : Directory) : (d.commitPool k).titles = d.titles := by
  unfold Directory.commitPool
  repeat' split
  all_goals rfl

@[simp] theorem Directory.commitPool_count (k : LodgeKind) (d : Directory) : (d.commitPool k).count = d.count := by
  unfold Directory.commitPool
  repeat' split
  all_goals rfl

theorem Register.DirectoryLaw.addTitle (hg : g.DirectoryLaw) {n : Nat} {cls : Fin 8} (hn : 1 ≤ n)
    (hnew : ∀ r ∈ g.dir.titles, r.number ≠ n) (hroom : g.dir.count < Config.maxTitles) :
    (g.addTitle (TitleRecord.fresh n cls)).DirectoryLaw where
  bare := hg.bare
  ascending := insertTitle_ascending _ _ hnew hg.ascending
  positive r hr := by
    rcases List.mem_cons.mp ((insertTitle_perm _ _).mem_iff.mp hr) with rfl | hr
    · exact hn
    · exact hg.positive r hr
  counted := by
    simp only [Register.addTitle, (insertTitle_perm _ _).length_eq, List.length_cons, hg.counted]
  capacity := hroom
  closed r hr := by
    rcases List.mem_cons.mp ((insertTitle_perm _ _).mem_iff.mp hr) with rfl | hr
    · exact ⟨by simp [TitleRecord.fresh], fun _ => rfl⟩
    · exact hg.closed r hr
  claimed c hc := by
    obtain ⟨r, hr, ha⟩ := hg.claimed c hc
    exact ⟨r, (insertTitle_perm _ _).mem_iff.mpr (List.mem_cons_of_mem _ hr), ha⟩
  apart := hg.apart

theorem Register.DirectoryLaw.retire (hg : g.DirectoryLaw) {r : TitleRecord} {successors : List Nat}
    (hfree : ∀ c ∈ g.claims, c.title ≠ r.number) (hs : successors ≠ []) : (g.retire r successors).DirectoryLaw := by
  have closed : (g.modTitle r.number (TitleRecord.close successors)).DirectoryLaw :=
    hg.modTitle (fun _ => rfl) (fun _ _ _ => ⟨by simp [TitleRecord.close, hs], fun _ => rfl⟩) fun c hc e => absurd e (hfree c hc)
  exact closed.of_sublist id rfl rfl (List.Sublist.refl _)

theorem Register.DirectoryLaw.enter (hg : g.DirectoryLaw) {r : TitleRecord} {c : Claim} (ha : g.Admits p r c) :
    (g.enter c).DirectoryLaw where
  bare hu := absurd (ha.ready.symm.trans hu) (by decide)
  ascending := hg.ascending
  positive := hg.positive
  counted := hg.counted
  capacity := hg.capacity
  closed := hg.closed
  claimed d hd := by
    rcases List.mem_append.mp hd with hd | hd
    · exact hg.claimed d hd
    · rw [List.mem_singleton.mp hd]
      exact ⟨r, ha.held, ha.title, ha.active⟩
  apart := by
    simp only [Register.enter, List.map_append, List.map_cons, List.map_nil, List.pairwise_append, List.mem_singleton, forall_eq,
      List.forall_mem_map]
    exact ⟨hg.apart, List.pairwise_singleton .., ha.unbarred⟩

theorem Register.DirectoryLaw.commit (hg : g.DirectoryLaw) {c : Claim} (hc : c ∈ g.claims) (loc : Location) :
    (g.commit c loc).DirectoryLaw := by
  have changed : (g.modTitle c.title fun r => (r.install loc).amend c.kind c.named).DirectoryLaw := by
    refine hg.modTitle (fun r => by simp) (fun r hr hn => ?_) fun _ _ _ r ha => by simpa using ha
    have ha := hg.claimed_active hc hr hn
    have hs : r.successors = [] := by
      by_contra hne
      exact absurd ((hg.closed r hr).1.mpr hne) (by simp [ha])
    exact ⟨by simp [ha, hs], by simp [ha]⟩
  exact changed.of_sublist id (by simp [Register.commit]) (by simp [Register.commit]) (g.drop_sublist _)

/-- The directory with no title and the table empty is lawful. -/
theorem Register.DirectoryLaw.initial (c : Condition) :
    Register.DirectoryLaw { condition := c, dir := Directory.initial, claims := [] } := by
  constructor <;> simp [Directory.initial]

/-- Every move keeps the laws of the directory (R4, R5, R126). -/
theorem Move.keeps_directoryLaw (hm : Move p g h) (hg : g.DirectoryLaw) : h.DirectoryLaw := by
  cases hm with
  | stay => exact hg
  | newTitle n cls hn hnew hroom => exact hg.addTitle hn hnew hroom
  | setClass n cls => exact hg.modTitle (fun _ => rfl) (fun r hr _ => hg.closed r hr) fun _ _ _ _ ha => ha
  | copy n => exact hg.modTitle (fun _ => rfl) (fun r hr _ => hg.closed r hr) fun _ _ _ _ ha => ha
  | retire r successors _ hfree hs => exact hg.retire hfree hs
  | lodge r c ha => exact hg.enter ha
  | leave c _ => exact hg.of_sublist id rfl rfl (g.drop_sublist _)
  | commit c loc hc => exact hg.commit hc loc
  | empty => exact hg.of_sublist id rfl rfl (List.nil_sublist _)
  | format hc =>
    have hnil : g.claims = [] := hc.elim hg.bare id
    exact hnil ▸ .initial _
  | resetReady => exact hg.of_sublist (fun hu => nomatch hu) rfl rfl (List.nil_sublist _)
  | resetNew => exact .initial _

-- The title records -------------------------------------------------------------------------------------------

/-- R1 to R3, of every record of a register. -/
def Register.TitleLaw (g : Register) : Prop := ∀ r ∈ g.dir.titles, r.lawful

theorem State.titleLaw_iff (s : State) : s.titleLaw ↔ s.register.TitleLaw := Iff.rfl

/-- A new record is lawful (R1). -/
theorem TitleRecord.fresh_lawful (n : Nat) (cls : Fin 8) : (TitleRecord.fresh n cls).lawful := by
  simp [TitleRecord.lawful, TitleRecord.fresh, priorEditions]

theorem forall_insertTitle {r : TitleRecord} {ts : List TitleRecord} {P : TitleRecord → Prop} (hr : P r) (h : ∀ q ∈ ts, P q) :
    ∀ q ∈ insertTitle r ts, P q := fun q hq =>
  (List.mem_cons.mp ((insertTitle_perm r ts).mem_iff.mp hq)).elim (fun e => e ▸ hr) (h q)

/-- Every move keeps the laws of the title records (R1 to R3). -/
theorem Move.keeps_titleLaw (hm : Move p g h) (hg : g.TitleLaw) : h.TitleLaw := by
  cases hm with
  | stay => exact hg
  | newTitle n cls _ _ _ => exact forall_insertTitle (TitleRecord.fresh_lawful n cls) hg
  | setClass n cls => exact forall_modTitle (fun r hr _ => hg r hr) fun r hr _ => hg r hr
  | copy n =>
    refine forall_modTitle (fun r hr _ => hg r hr) fun r hr _ => ?_
    obtain ⟨hcur, hpri, hasc, hent, -⟩ := hg r hr
    exact ⟨hcur, hpri, hasc, hent, Nat.min_le_left ..⟩
  | retire r successors _ _ _ =>
    refine forall_modTitle (fun r hr _ => hg r hr) fun r hr _ => ?_
    obtain ⟨hcur, hpri, -, -, hcop⟩ := hg r hr
    exact ⟨hcur, hpri, by simp [TitleRecord.close], by simp [TitleRecord.close], hcop⟩
  | lodge r c _ => exact hg
  | leave c _ => exact hg
  | commit c loc _ =>
    simp only [Register.TitleLaw, Register.commit, Directory.commitPool_titles]
    exact forall_modTitle (fun r hr _ => hg r hr) fun r hr _ =>
      TitleRecord.amend_lawful c.kind c.named (TitleRecord.install_lawful loc (hg r hr))
  | empty => exact hg
  | format _ => exact fun r hr => absurd hr (List.not_mem_nil)
  | resetReady => exact hg
  | resetNew => exact fun r hr => absurd hr (List.not_mem_nil)

/-- The limits stand when claims go. -/
theorem Register.LimitLaw.of_sublist (hg : g.LimitLaw) (ht : h.dir.titles = g.dir.titles) (hs : h.claims.Sublist g.claims) :
    h.LimitLaw where
  within := ht ▸ hg.within
  room c hc := ht ▸ hg.room c (hs.subset hc)

/-- A change of one record that leaves it within its limits and with the room it had keeps the limits. -/
theorem Register.LimitLaw.modTitle (hg : g.LimitLaw) {n : Nat} {f : TitleRecord → TitleRecord}
    (hf : ∀ r, (f r).number = r.number) (hw : ∀ r, r.withinLimits → (f r).withinLimits)
    (hroom : ∀ k r, r.hasRoomFor k → (f r).hasRoomFor k) : (g.modTitle n f).LimitLaw where
  within := forall_modTitle (fun r hr _ => hg.within r hr) fun r hr _ => hw r (hg.within r hr)
  room c hc := forall_modTitle (fun r hr _ => hg.room c hc r hr) fun r hr _ e => hroom _ r (hg.room c hc r hr ((hf r).symm.trans e))

theorem Register.LimitLaw.commit (hg : g.LimitLaw) (hd : g.DirectoryLaw) {c : Claim} (hc : c ∈ g.claims) (loc : Location) :
    (g.commit c loc).LimitLaw where
  within := by
    simp only [Register.commit, Directory.commitPool_titles]
    exact forall_modTitle (fun r hr _ => hg.within r hr) fun r hr hn =>
      TitleRecord.commit_withinLimits c.named loc (hg.within r hr) (hg.room c hc r hr hn)
  room d hdrop := by
    obtain ⟨hm, hne⟩ := hd.other_title hc hdrop
    simp only [Register.commit, Directory.commitPool_titles]
    refine forall_modTitle (fun r hr _ => hg.room d hm r hr) fun r _ hn e => absurd ?_ hne
    simpa using e.symm.trans (by simpa using hn)

/-- Every move keeps the limits of the title records and the room for each pending commit (R3, R33, R39). -/
theorem Move.keeps_limitLaw (hm : Move p g h) (hd : g.DirectoryLaw) (hg : g.LimitLaw) : h.LimitLaw := by
  cases hm with
  | stay => exact hg
  | newTitle n cls _ _ _ =>
    have within : (TitleRecord.fresh n cls).withinLimits := by simp [TitleRecord.withinLimits, TitleRecord.fresh, Config.spentEntryNumber]
    have room : ∀ k, (TitleRecord.fresh n cls).hasRoomFor k := fun k => by
      simp [TitleRecord.hasRoomFor, TitleRecord.fresh, Config.maxEdition, Config.maxEntries, Config.spentEntryNumber]
    exact ⟨forall_insertTitle within hg.within, fun c hc => forall_insertTitle (fun _ => room _) (hg.room c hc)⟩
  | setClass n cls => exact hg.modTitle (fun _ => rfl) (fun _ hw => hw) fun _ _ hr => hr
  | copy n => exact hg.modTitle (fun _ => rfl) (fun _ hw => hw) fun _ _ hr => hr
  | retire r successors _ _ _ =>
    have closed : (g.modTitle r.number (TitleRecord.close successors)).LimitLaw := by
      refine hg.modTitle (fun _ => rfl) (fun q ⟨he, _, hn⟩ => ⟨he, Nat.zero_le _, hn⟩) fun k q ⟨he, hadd⟩ => ⟨he, fun ha => ?_⟩
      exact ⟨by simp [TitleRecord.close, Config.maxEntries], (hadd ha).2⟩
    exact closed.of_sublist rfl (List.Sublist.refl _)
  | lodge r c ha =>
    refine ⟨hg.within, fun d hmem q hq hn => ?_⟩
    rcases List.mem_append.mp hmem with hmem | hmem
    · exact hg.room d hmem q hq hn
    · rw [List.mem_singleton.mp hmem] at hn ⊢
      rw [eq_of_number_eq hd.ascending hq ha.held (hn.trans ha.title.symm)]
      exact ha.room
  | leave c _ => exact hg.of_sublist rfl (g.drop_sublist _)
  | commit c loc hc => exact hg.commit hd hc loc
  | empty => exact hg.of_sublist rfl (List.nil_sublist _)
  | format _ => constructor <;> simp [Directory.initial]
  | resetReady => exact hg.of_sublist rfl (List.nil_sublist _)
  | resetNew => constructor <;> simp [Directory.initial]

-- The pool ----------------------------------------------------------------------------------------------------

/-- A claim of a held number has its place counted (R8). -/
theorem LodgeKind.places_of_adds {k : LodgeKind} {e : EntryKind} (hk : k.adds = some e) : k.places = 1 := by
  simp [LodgeKind.places, hk]

theorem LodgeKind.places_of_not_adds {k : LodgeKind} (hk : k.adds = none) : k.places = 0 := by
  simp [LodgeKind.places, hk]

theorem adding_append (cs : List Claim) (c : Claim) : adding (cs ++ [c]) = adding cs + c.kind.places := by
  cases hk : c.kind.adds <;> simp [adding, LodgeKind.places, hk]

/-- What a commit does to the pool figures: an adding kind's place passes from reserved to in use, a removing kind's leaves
(Table 1-2). -/
theorem Directory.commitPool_figures (k : LodgeKind) (d : Directory) :
    (d.commitPool k).reserved = d.reserved - k.places ∧
      (d.commitPool k).inUse = d.inUse + k.places - (if k.removes then 1 else 0) := by
  cases k <;> simp [Directory.commitPool, LodgeKind.places, LodgeKind.adds, LodgeKind.removes]

/-- Every move keeps the reservations and the capacity of the pool (R8), where the rings are within the ring layout (R129). -/
theorem Move.keeps_poolLaw (hm : Move p g h) (hp : p) (hg : g.PoolLaw) : h.PoolLaw := by
  obtain ⟨hbare, hdist, hres, hfit⟩ := hg
  have dropped : ∀ c : Claim, ((g.drop c.number).claims.map fun d => d.number).Pairwise (· ≠ ·) := fun c =>
    hdist.sublist ((g.drop_sublist c.number).map _)
  cases hm with
  | stay => exact ⟨hbare, hdist, hres, hfit⟩
  | newTitle n cls _ _ _ => exact ⟨hbare, hdist, hres, hfit⟩
  | setClass n cls => exact ⟨hbare, hdist, hres, hfit⟩
  | copy n => exact ⟨hbare, hdist, hres, hfit⟩
  | retire r successors _ _ _ =>
    exact ⟨hbare, hdist, hres, (Nat.add_le_add_right (Nat.sub_le ..) _).trans hfit⟩
  | lodge r c ha =>
    refine ⟨fun hu => absurd (ha.ready.symm.trans hu) (by decide), ?_, ?_, ?_⟩
    · simp only [Register.enter, List.map_append, List.map_cons, List.map_nil, List.pairwise_append, List.mem_singleton,
        forall_eq, List.forall_mem_map]
      exact ⟨hdist, List.pairwise_singleton .., ha.free hp⟩
    · simp only [Register.enter, adding_append, hres]
    · simp only [Register.enter, LodgeKind.places]
      split
      · next hk => exact ha.place hk
      · exact hfit
  | leave c hc =>
    have hadd := adding_drop hdist hc
    refine ⟨fun hu => by simp [Register.leave, Register.drop, hbare hu], dropped c, ?_, ?_⟩
    · simp only [Register.leave, Register.drop]; omega
    · simp only [Register.leave]; omega
  | commit c loc hc =>
    have hadd := adding_drop hdist hc
    obtain ⟨hr, hu⟩ := Directory.commitPool_figures c.kind
      (g.modTitle c.title fun r => (r.install loc).amend c.kind c.named).dir
    simp only [Register.modTitle] at hr hu
    refine ⟨fun hu => by simp [Register.commit, Register.drop, hbare hu], dropped c, ?_, ?_⟩
    · simp only [Register.commit, Register.modTitle, Register.drop, hr]; omega
    · simp only [Register.commit, Register.modTitle, hr, hu]; omega
  | empty =>
    refine ⟨fun _ => rfl, .nil, ?_, ?_⟩
    · simp only [Register.emptied, hres, adding, List.filter_nil, List.length_nil, Nat.sub_self]
    · simp only [Register.emptied]; omega
  | format hc =>
    have hnil : g.claims = [] := hc.elim hbare id
    exact ⟨fun _ => hnil, hdist, by simp [hnil, adding, Directory.initial], by simp [Directory.initial]⟩
  | resetReady => exact ⟨fun _ => rfl, .nil, rfl, (Nat.le_add_right ..).trans hfit⟩
  | resetNew => exact ⟨fun _ => rfl, .nil, rfl, Nat.zero_le _⟩

-- The pool's in-use figure ------------------------------------------------------------------------------------

/-- The named entries stand when claims go and no record changes. -/
theorem Register.InUseLaw.of_sublist (hg : g.InUseLaw) (ht : h.dir.titles = g.dir.titles) (hu : h.dir.inUse = g.dir.inUse)
    (hs : h.claims.Sublist g.claims) : h.InUseLaw where
  named c hc := ht ▸ hg.named c (hs.subset hc)
  inUse := by rw [ht, hu, hg.inUse]

/-- A change of one record that leaves its entries keeps the in-use law. -/
theorem Register.InUseLaw.modTitle (hg : g.InUseLaw) {n : Nat} {f : TitleRecord → TitleRecord}
    (hf : ∀ r, (f r).number = r.number ∧ (f r).entries = r.entries) : (g.modTitle n f).InUseLaw where
  named c hc hk := by
    refine exists_modTitle (fun r _ _ hr => ?_) (fun _ _ hr => hr) (hg.named c hc hk)
    rwa [(hf r).1, (hf r).2]
  inUse := by
    simp only [Register.modTitle, hg.inUse, List.map_map]
    refine congrArg List.sum (List.map_congr_left fun r _ => ?_)
    simp only [Function.comp_apply]
    split
    · rw [(hf r).2]
    · rfl

/-- A removing kind's commit takes out exactly the entry it names (R35). -/
theorem amend_removes_length {k : LodgeKind} {named : Option Nat} {r : TitleRecord} (hr : r.lawful) (hk : k.removes = true)
    (hn : ∃ e ∈ r.entries, some e.number = named) : (r.amend k named).entries.length + 1 = r.entries.length := by
  obtain ⟨e, he, rfl⟩ := hn
  rw [TitleRecord.amend_removes _ r (LodgeKind.adds_of_removes hk) hk]
  have := length_filter_key_ne (key := fun e : Entry => e.number) (hr.2.2.1.imp Nat.ne_of_lt) he
  simpa only [ne_eq, Option.some.injEq] using this

/-- What a commit does to the number of a record's entries (R35). -/
theorem commit_entries_length {c : Claim} {loc : Location} {r : TitleRecord} (hr : r.lawful)
    (hn : c.kind.removes = true → ∃ e ∈ r.entries, some e.number = c.named) :
    ((r.install loc).amend c.kind c.named).entries.length + (if c.kind.removes then 1 else 0) =
      r.entries.length + c.kind.places := by
  cases ha : c.kind.adds with
  | some e =>
    have hk : c.kind.removes = false := by
      by_contra hk
      exact absurd ha (by simp [LodgeKind.adds_of_removes (Bool.not_eq_false _ ▸ hk)])
    simp [(TitleRecord.amend_adds c.named (r.install loc) ha).1, hk, LodgeKind.places_of_adds ha]
  | none =>
    rw [LodgeKind.places_of_not_adds ha]
    cases hk : c.kind.removes with
    | true => simpa using amend_removes_length (TitleRecord.install_lawful loc hr) hk (hn hk)
    | false => simp [TitleRecord.amend_other c.named _ ha hk]

theorem Register.InUseLaw.commit (hg : g.InUseLaw) (hd : g.DirectoryLaw) (ht : g.TitleLaw) {c : Claim} (hc : c ∈ g.claims)
    (loc : Location) : (g.commit c loc).InUseLaw where
  named d hdrop hk := by
    obtain ⟨hm, hne⟩ := hd.other_title hc hdrop
    simp only [Register.commit, Directory.commitPool_titles]
    exact exists_modTitle (fun r _ hn hr => absurd (hr.1.symm.trans hn) hne) (fun _ _ hr => hr) (hg.named d hm hk)
  inUse := by
    obtain ⟨r, hr, hn, -⟩ := hd.claimed c hc
    have held : c.kind.removes = true → ∃ e ∈ r.entries, some e.number = c.named := fun hk => by
      obtain ⟨q, hq, hqn, he⟩ := hg.named c hc hk
      rwa [eq_of_number_eq hd.ascending hr hq (hn.trans hqn.symm)]
    have own := commit_entries_length (loc := loc) (ht r hr) held
    have all := sum_entries_modTitle (f := fun r => (r.install loc).amend c.kind c.named) hd.ascending hr
    have figures := (Directory.commitPool_figures c.kind
      (g.modTitle c.title fun r => (r.install loc).amend c.kind c.named).dir).2
    rw [hn] at all
    have before := hg.inUse
    simp only [Register.modTitle] at figures
    simp only [Register.commit, Register.modTitle, Directory.commitPool_titles, figures]
    omega

theorem Register.InUseLaw.retire (hg : g.InUseLaw) (hd : g.DirectoryLaw) {r : TitleRecord} (hr : r ∈ g.dir.titles)
    (hfree : ∀ c ∈ g.claims, c.title ≠ r.number) (successors : List Nat) : (g.retire r successors).InUseLaw where
  named c hc hk :=
    exists_modTitle (fun _ _ hn hq => absurd (hq.1.symm.trans hn) (hfree c hc)) (fun _ _ hq => hq) (hg.named c hc hk)
  inUse := by
    have := sum_entries_modTitle (f := TitleRecord.close successors) hd.ascending hr
    simp only [TitleRecord.close, List.length_nil] at this
    simp only [Register.retire, Register.modTitle, TitleRecord.close, hg.inUse]
    omega

/-- Every move keeps the pool's in-use figure and the entries that lodgements name (R8, R33). -/
theorem Move.keeps_inUseLaw (hm : Move p g h) (hd : g.DirectoryLaw) (ht : g.TitleLaw) (hg : g.InUseLaw) : h.InUseLaw := by
  cases hm with
  | stay => exact hg
  | newTitle n cls _ _ _ =>
    refine ⟨fun c hc hk => ?_, ?_⟩
    · obtain ⟨r, hr, he⟩ := hg.named c hc hk
      exact ⟨r, (insertTitle_perm _ _).mem_iff.mpr (List.mem_cons_of_mem _ hr), he⟩
    · have := ((insertTitle_perm (TitleRecord.fresh n cls) g.dir.titles).map fun r => r.entries.length).sum_eq
      simp only [Register.addTitle, this]
      simp [TitleRecord.fresh, hg.inUse]
  | setClass n cls => exact hg.modTitle fun _ => ⟨rfl, rfl⟩
  | copy n => exact hg.modTitle fun _ => ⟨rfl, rfl⟩
  | retire r successors hr hfree _ => exact hg.retire hd hr hfree successors
  | lodge r c ha =>
    refine ⟨fun d hmem hk => ?_, hg.inUse⟩
    rcases List.mem_append.mp hmem with hmem | hmem
    · exact hg.named d hmem hk
    · rw [List.mem_singleton.mp hmem] at hk ⊢
      exact ⟨r, ha.held, ha.title, ha.named hk⟩
  | leave c _ => exact hg.of_sublist rfl rfl (g.drop_sublist _)
  | commit c loc hc => exact hg.commit hd ht hc loc
  | empty => exact hg.of_sublist rfl rfl (List.nil_sublist _)
  | format hc =>
    have hnil : g.claims = [] := hc.elim hd.bare id
    constructor <;> simp [Directory.initial, hnil]
  | resetReady => exact hg.of_sublist rfl rfl (List.nil_sublist _)
  | resetNew => constructor <;> simp [Directory.initial]

end Sys2Proof.Machine
end

-- ==== Proofs: what a step does to the register ====
section
/-!
SUPPORT for the proofs of family 01. Every step of the part makes one move of the register: said operation by operation, then of every
request, of every event and of the part's own moves.
-/
namespace Sys2Proof.Machine

/-- The step from `s` to `t` is a move of the register. -/
def State.Moves (p : Prop) (s t : State) : Prop := Move p s.register t.register

theorem State.Moves.of_eq {p : Prop} {s t : State} (h : t.register = s.register) : s.Moves p t := by
  unfold State.Moves
  rw [h]
  exact .stay

theorem State.Moves.before {p : Prop} {s t u : State} (h : t.register = s.register) (hm : t.Moves p u) : s.Moves p u := by
  unfold State.Moves at hm ⊢
  rwa [← h]

theorem State.Moves.after {p : Prop} {s t u : State} (hm : s.Moves p t) (h : u.register = t.register) : s.Moves p u := by
  unfold State.Moves at hm ⊢
  rwa [h]

-- The number of a new lodgement -------------------------------------------------------------------------------

/-- The number after `last`, counting 65,535 on to 1 (R106, R129). -/
def numberAfter (last : Nat) : Nat := if last < Config.maxNumber then last + 1 else 1

theorem numberAfter_of_lt {last : Nat} (h : last < 65535) : numberAfter last = last + 1 := if_pos h

theorem numberAfter_of_ge {last : Nat} (h : 65535 ≤ last) : numberAfter last = 1 := if_neg (Nat.not_lt.mpr h)

theorem nextNumber_succ (used : List Nat) (tries last : Nat) : nextNumber used (tries + 1) last =
    if used.contains (numberAfter last) then nextNumber used tries (numberAfter last) else numberAfter last := rfl

/-- Where the search ends on a number in use, every number it tried is in use. -/
theorem tried_of_nextNumber_mem {used : List Nat} : ∀ {tries last : Nat}, nextNumber used tries last ∈ used →
    ∀ i < tries, numberAfter^[i + 1] last ∈ used
  | 0, _, _, _, hi => absurd hi (Nat.not_lt_zero _)
  | tries + 1, last, h, i, hi => by
    rw [nextNumber_succ] at h
    split at h
    · next hc =>
      cases i with
      | zero => simpa using hc
      | succ i => exact tried_of_nextNumber_mem h i (Nat.lt_of_succ_lt_succ hi)
    · next hc => exact absurd h (by simpa using hc)

/-- The numbers tried go round 1 to 65,535. -/
theorem numberAfter_iterate (last i : Nat) : numberAfter^[i + 1] last = (numberAfter last - 1 + i) % 65535 + 1 := by
  have first : 1 ≤ numberAfter last ∧ numberAfter last ≤ 65535 := by
    rcases Nat.lt_or_ge last 65535 with h | h
    · rw [numberAfter_of_lt h]; omega
    · rw [numberAfter_of_ge h]; omega
  induction i with
  | zero =>
    rw [Function.iterate_one]
    omega
  | succ i ih =>
    rw [Function.iterate_succ_apply', ih]
    rcases Nat.lt_or_ge ((numberAfter last - 1 + i) % 65535 + 1) 65535 with h | h
    · rw [numberAfter_of_lt h]; omega
    · rw [numberAfter_of_ge h]; omega

/-- One more try than there are numbers in use finds one that is not in use (R106, R129). -/
theorem nextNumber_not_mem {used : List Nat} (last : Nat) (h : used.length < 65535) :
    nextNumber used (used.length + 1) last ∉ used := by
  intro hm
  have tried := tried_of_nextNumber_mem hm
  have distinct : Set.InjOn (fun i => numberAfter^[i + 1] last) (Finset.range (used.length + 1)) := by
    intro i hi j hj e
    simp only [Finset.coe_range, Set.mem_Iio] at hi hj
    simp only [numberAfter_iterate] at e
    omega
  have inside : (Finset.range (used.length + 1)).image (fun i => numberAfter^[i + 1] last) ⊆ used.toFinset := by
    intro n hn
    obtain ⟨i, hi, rfl⟩ := Finset.mem_image.mp hn
    exact List.mem_toFinset.mpr (tried i (Finset.mem_range.mp hi))
  have := Finset.card_le_card inside
  rw [Finset.card_image_of_injOn distinct, Finset.card_range] at this
  have := List.toFinset_card_le used
  omega

theorem length_flatMap_toList_le {α β : Type} (f : α → Option β) (xs : List α) :
    (xs.flatMap fun x => (f x).toList).length ≤ xs.length := by
  induction xs with
  | nil => exact Nat.le_refl _
  | cons x rest ih =>
    rw [List.flatMap_cons, List.length_append, List.length_cons]
    cases f x with
    | none => simp only [Option.toList_none, List.length_nil]; omega
    | some y => simp only [Option.toList_some, List.length_singleton]; omega

/-- A ring has no more entries than blocks (R92). -/
theorem PageRing.length_le_of_lawful {m : Nat} {g : PageRing} (hg : g.lawful m) : g.entries.length ≤ m := by
  obtain ⟨hocc, hle, hlen, -⟩ := hg
  have : g.entries.length • 1 ≤ (g.entries.map fun e => e.length).sum := by
    rw [← List.length_map (fun e : PageEntry => e.length)]
    exact List.card_nsmul_le_sum _ 1 (List.forall_mem_map.mpr fun e he => (hlen e he).1)
  rw [smul_eq_mul, Nat.mul_one] at this
  exact this.trans (hocc.symm.le.trans hle)

/-- With the filing ring within the ring layout, an accepted LODGE receives a number that no lodgement of the table has (R129). -/
theorem State.nextLodgement_fresh {s : State} (hr : s.ringLaw) (hl : s.layoutLaw)
    (ht : s.filing.table.length < Config.maxLodgements) : ∀ c ∈ s.claims, c.number ≠ s.nextLodgement := by
  have ring : (s.rings[filingRing]).entries.length ≤ 4096 :=
    (PageRing.length_le_of_lawful (hr filingRing)).trans (hl.1 filingRing).2.1
  have runs := length_flatMap_toList_le (fun d : DriveNo =>
    (((s.drives[d]).run.filter fun u => !u.kind.isRead && decide (u.mark = .stopped)).map fun u => u.owner)) allDrives
  have few : s.lodgementNumbers.length < 65535 := by
    simp only [Config.maxLodgements] at ht
    simp only [allDrives, List.length_cons, List.length_nil] at runs
    simp only [State.lodgementNumbers, List.length_append, List.length_map, allDrives]
    omega
  have unused := nextNumber_not_mem s.filing.last few
  refine forall_claims.mpr fun l hm (e : l.number = nextNumber _ _ _) => unused ?_
  rw [← e]
  exact List.mem_append_left _ (List.mem_append_left _ (List.mem_map_of_mem hm))

-- Pending titles ----------------------------------------------------------------------------------------------

theorem State.isPending_iff {s : State} {n : Nat} : s.isPending n = true ↔ ∃ l ∈ s.filing.table, l.title = n := by
  simp [State.isPending, State.lodgementOn?, List.find?_isSome]

/-- A title that is not pending is named by no claim (R7). -/
theorem State.not_pending {s : State} {n : Nat} (h : s.isPending n = false) : ∀ c ∈ s.claims, c.title ≠ n :=
  forall_claims.mpr fun l hl e => absurd (State.isPending_iff.mpr ⟨l, hl, e⟩) (by simp [h])

/-- A number that finds no record is held by none (R5). -/
theorem State.title?_none {s : State} {n : Nat} (h : s.title? n = none) : ∀ r ∈ s.dir.titles, r.number ≠ n := fun r hr =>
  by simpa using List.find?_eq_none.mp h r hr

-- The register's frames ---------------------------------------------------------------------------------------

section
variable (s : State)

@[simp] theorem State.modLib_register (f : Library → Library) : (s.modLib f).register = s.register := rfl
@[simp] theorem State.modPicker_register (f : Picker → Picker) : (s.modPicker f).register = s.register := rfl
@[simp] theorem State.modFees_register (f : Fees → Fees) : (s.modFees f).register = s.register := rfl
@[simp] theorem State.modLine_register (f : Line → Line) : (s.modLine f).register = s.register := rfl
@[simp] theorem State.modLink_register (f : Link → Link) : (s.modLink f).register = s.register := rfl
@[simp] theorem State.modCfg_register (f : Settings → Settings) : (s.modCfg f).register = s.register := rfl
@[simp] theorem State.modStaging_register (f : Memory → Memory) : (s.modStaging f).register = s.register := rfl
@[simp] theorem State.modDrive_register (d : DriveNo) (f : Drive → Drive) : (s.modDrive d f).register = s.register := rfl
@[simp] theorem State.modRing_register (r : Fin 7) (f : PageRing → PageRing) : (s.modRing r f).register = s.register := rfl
@[simp] theorem State.modOrder_register (n : Nat) (f : FetchOrder → FetchOrder) : (s.modOrder n f).register = s.register := rfl
@[simp] theorem State.modFetch_register (f : Fetch → Fetch) : (s.modFetch f).register = s.register := rfl
@[simp] theorem State.modAccount_register (a : Fin 13) (f : Account → Account) :
    (s.modAccount a f).register = s.register := rfl
@[simp] theorem State.modCounter_register (n : CounterNo) (f : Counter → Counter) :
    (s.modCounter n f).register = s.register := rfl
@[simp] theorem State.reach_register (t : Nat) : (s.reach t).register = s.register := rfl
@[simp] theorem queueNotice_register (n : Notice) : (queueNotice n s).register = s.register := rfl
@[simp] theorem answer_register (tag : Byte) (a : Answer) : (answer tag a s).register = s.register := rfl
@[simp] theorem refuse_register (tag : Byte) (c : Code) : (refuse tag c s).register = s.register := rfl
@[simp] theorem setReopening_register : (setReopening s).register = s.register := rfl
@[simp] theorem endRun_register (d : DriveNo) : (endRun d s).register = s.register := rfl

@[simp] theorem arbitrate_register : (arbitrate s).register = s.register :=
  register_of_desk (arbitrate_desk s) (arbitrate_claims s)
@[simp] theorem judgeOut_register : (judgeOut s).register = s.register :=
  register_of_desk (judgeOut_desk s) (judgeOut_claims s)
@[simp] theorem putOut_register (bs : List OutByte) : (putOut bs s).register = s.register :=
  register_of_desk (putOut_desk s bs) (putOut_claims s bs)
@[simp] theorem pump_register : (pump s).register = s.register := register_of_desk (pump_desk s) (pump_claims s)
@[simp] theorem detectOverflow_register : (detectOverflow s).register = s.register :=
  register_of_desk (detectOverflow_desk s) (detectOverflow_claims s)
@[simp] theorem pickerChoose_register : (pickerChoose s).register = s.register :=
  register_of_shell (pickerChoose_shell s) (pickerChoose_claims s)
@[simp] theorem runAllocator_register : (runAllocator s).register = s.register :=
  register_of_shell (runAllocator_shell s) (runAllocator_claims s)
@[simp] theorem lingerJudge_register (d : DriveNo) : (lingerJudge d s).register = s.register := rfl
@[simp] theorem askRelease_register (d : DriveNo) : (askRelease d s).register = s.register :=
  register_of_shell (askRelease_shell s d) (askRelease_claims s d)
@[simp] theorem judgePins_register : (judgePins s).register = s.register :=
  register_of_shell (judgePins_shell s) (judgePins_claims s)
@[simp] theorem choose_register (d : DriveNo) : (choose d s).register = s.register :=
  register_of_shell (choose_shell s d) (choose_claims s d)
@[simp] theorem discardEnding_register (d : DriveNo) : (discardEnding d s).register = s.register :=
  register_of_shell (discardEnding_shell s d) (discardEnding_claims s d)
@[simp] theorem wakeLowered_register (before : State) : (wakeLowered before s).register = s.register :=
  register_of_shell (wakeLowered_shell s before) (wakeLowered_claims s before)
@[simp] theorem startIdle_register (n : Nat) : (startIdle n s).register = s.register :=
  register_of_shell (startIdle_shell s n) (startIdle_claims s n)
@[simp] theorem engineAsk_register : (engineAsk s).register = s.register :=
  register_of_shell (engineAsk_shell s) (engineAsk_claims s)
@[simp] theorem engineTake_register : (engineTake s).register = s.register :=
  register_of_shell (engineTake_shell s) (engineTake_claims s)
@[simp] theorem activeLost_register : (activeLost s).register = s.register :=
  register_of_shell (activeLost_shell s) (activeLost_claims s)
@[simp] theorem dropExtent_register (n : Nat) : (dropExtent n s).register = s.register :=
  register_of_shell (dropExtent_shell s n) (dropExtent_claims s n)
@[simp] theorem withdrawLoad_register (sd : SideId) : (withdrawLoad sd s).register = s.register :=
  register_of_shell (withdrawLoad_shell s sd) (withdrawLoad_claims s sd)
@[simp] theorem letGo_register (n : Nat) : (letGo n s).register = s.register :=
  register_of_shell (letGo_shell s n) (letGo_claims s n)

@[simp] theorem acceptImport_register (c : Nat) (a b : Role) (n : Nat) : (acceptImport c a b n s).register = s.register :=
  register_of_shell (acceptImport_shell s c a b n) (acceptImport_claims s c a b n)
@[simp] theorem acceptExport_register (c : Nat) (q : Place) : (acceptExport c q s).register = s.register :=
  register_of_shell (acceptExport_shell s c q) (acceptExport_claims s c q)
@[simp] theorem changeRole_register (sd : SideId) (r : Role) : (changeRole sd r s).register = s.register :=
  register_of_shell (changeRole_shell s sd r) (changeRole_claims s sd r)
@[simp] theorem placeOrder_register (o : FetchOrder) : (placeOrder o s).register = s.register :=
  register_of_shell (placeOrder_shell s o) (placeOrder_claims s o)
@[simp] theorem cancelOrder_register (o : FetchOrder) : (cancelOrder o s).register = s.register :=
  register_of_shell (cancelOrder_shell s o) (cancelOrder_claims s o)
@[simp] theorem admitPage_register (l : Lodgement) (n : Nat) (g : PageRing) : (admitPage l n g s).register = s.register :=
  register_of_shell (admitPage_shell s l n g) (admitPage_claims s l n g)
@[simp] theorem countPage_register (l : Lodgement) (n : Nat) : (countPage l n s).register = s.register :=
  register_of_shell (countPage_shell s l n) (countPage_claims s l n)
@[simp] theorem stageLodgement_register (n : Nat) : (stageLodgement n s).register = s.register :=
  register_of_shell (stageLodgement_shell s n) (stageLodgement_claims s n)
@[simp] theorem countRead_register (d : DriveNo) (n : Nat) : (countRead d n s).register = s.register :=
  register_of_shell (countRead_shell s d n) (countRead_claims s d n)
@[simp] theorem failForFault_register (r : Drive) (c : Option Nat) : (failForFault r c s).register = s.register :=
  register_of_shell (failForFault_shell s r c) (failForFault_claims s r c)
@[simp] theorem enterBody_register (tag : Byte) (fate : BodyFate) (left : Nat) :
    (enterBody tag fate left s).register = s.register := rfl

@[simp] theorem lineChoose_register : (lineChoose s).register = s.register := by
  simp only [lineChoose, beginPost, beginPoll]
  repeat' split
  all_goals simp

theorem forDrives_register {f : DriveNo → State → State} (h : ∀ d t, (f d t).register = t.register) :
    (s.forDrives f).register = s.register :=
  forDrives_kept s (P := fun t => t.register = s.register) (fun d t ht => (h d t).trans ht) rfl

theorem forCounters_register {f : CounterNo → State → State} (h : ∀ n t, (f n t).register = t.register) :
    (s.forCounters f).register = s.register :=
  forCounters_kept s (P := fun t => t.register = s.register) (fun n t ht => (h n t).trans ht) rfl

theorem foldl_register {α : Type} {f : State → α → State} (h : ∀ t x, (f t x).register = t.register) (xs : List α) :
    (xs.foldl f s).register = s.register :=
  foldl_kept (P := fun t => t.register = s.register) (fun t x ht => (h t x).trans ht) xs s rfl

@[simp] theorem refreshLine_register : (refreshLine s).register = s.register := by
  simp only [refreshLine, startPollTimer, State.modLine_register]
  exact forCounters_register s fun n t => State.modCounter_register t n _

-- Operations that move the register ---------------------------------------------------------------------------

theorem addTitle_register (r : TitleRecord) : (addTitle r s).register = s.register.addTitle r := rfl

theorem modTitle_register (n : Nat) (f : TitleRecord → TitleRecord) :
    (s.modTitle n f).register = s.register.modTitle n f := rfl

theorem closeTitle_register (r : TitleRecord) (successors : List Nat) :
    (closeTitle r.number successors r.entries.length s).register = s.register.retire r successors := rfl

/-- An accepted lodgement enters the register with its reservation (R10, R128). -/
theorem enterLodgement_register (l : Lodgement) : (enterLodgement l s).register = s.register.enter l.claim := by
  have reserved : ∀ t : State, (reserve l.kind t).register =
      { t.register with dir := { t.dir with reserved := t.dir.reserved + l.kind.places } } := fun t => by
    cases hk : l.kind.adds <;> simp [reserve, hk, State.register, LodgeKind.places]
  rw [enterLodgement, reserved]
  simp only [State.register, Register.enter, State.modFiling_claims, List.map_append, State.table_map_claim]
  rfl

theorem leaveTable_register (n : Nat) : (leaveTable n s).register = s.register.drop n := by
  simp only [State.register, leaveTable_claims]
  rfl

/-- A lodgement that ends without a commit leaves the register, its reservation returned (R9, R130). -/
theorem endLodgement_register (l : Lodgement) : (endLodgement l s).register = s.register.leave l.claim := by
  have returned : (dropReserved l.kind s).register =
      { s.register with dir := { s.dir with reserved := s.dir.reserved - l.kind.places } } := by
    cases hk : l.kind.adds <;> simp [dropReserved, hk, State.register, LodgeKind.places]
  rw [endLodgement, letGo_register, leaveTable_register, returned]
  rfl

/-- The directory's part of a commit with the lodgement's leaving (R32 to R36). -/
theorem commitTitle_register (l : Lodgement) (loc : Location) :
    (leaveTable l.number (commitTitle l loc s)).register = s.register.commit l.claim loc := by
  rw [leaveTable_register]
  rfl

theorem commit_register (d : DriveNo) (l : Lodgement) (e : Location) :
    (commit d l e s).register = s.register.commit l.claim e := by
  have written : (warnSpace e.sideId (s.modSide e.sideId fun r => { r with nextFree := e.start + e.blocks })).register =
      s.register := register_of_shell (by simp) (by simp)
  simp only [commit, choose_register, engineTake_register, judgePins_register, letGo_register, endRun_register,
    queueNotice_register, commitTitle_register, written]

end

variable {p : Prop} (s : State)

theorem mem_claims_of_lodgement? {s : State} {n : Nat} {l : Lodgement} (h : s.lodgement? n = some l) : l.claim ∈ s.claims :=
  List.mem_map_of_mem (State.lodgement?_spec h).2

theorem endLodgement_moves {l : Lodgement} (hl : l.claim ∈ s.claims) : s.Moves p (endLodgement l s) := by
  unfold State.Moves
  rw [endLodgement_register]
  exact .leave _ hl

theorem afterAttempt_moves (n : Nat) (reason : LodgeFailReason) : s.Moves p (afterAttempt n reason s) := by
  simp only [afterAttempt]
  split
  · exact .of_eq rfl
  · next l hl =>
    split
    · exact .of_eq (engineAsk_register s)
    · exact (endLodgement_moves s (mem_claims_of_lodgement? hl)).after (by simp)

theorem failAttempt_moves (d : DriveNo) (l : Lodgement) (e : Location) : s.Moves p (failAttempt d l e s) := by
  have given : (sideError e.sideId (giveUp e s)).register = s.register := register_of_shell (by simp) (by simp)
  exact ((afterAttempt_moves _ _ _).before (by simp [given])).after (choose_register _ _)

theorem loseAttempt_moves (run : Option Run) : s.Moves p (loseAttempt run s) := by
  simp only [loseAttempt]
  repeat' split
  · exact (afterAttempt_moves _ _ _).before (by simp)
  · exact .of_eq rfl
  · exact .of_eq rfl

theorem abandonLodgement_moves {l : Lodgement} (hl : l.claim ∈ s.claims) : s.Moves p (abandonLodgement l s) := by
  have stopped : (stopRuns l.number s).register = s.register := register_of_shell (by simp) (by simp)
  have met : ∀ t : State, (meetDrives t).register = t.register := fun t => register_of_shell (by simp) (by simp)
  refine ((endLodgement_moves (stopRuns l.number s) (by simpa using hl)).before stopped).after ?_
  simp only [abandonLodgement, runAllocator_register, engineTake_register, met]
  split <;> simp

theorem timeOut_moves {l : Lodgement} (hl : l.claim ∈ s.claims) : s.Moves p (timeOut l s) :=
  (endLodgement_moves s hl).after rfl

theorem idleExpires_moves (n : Nat) : s.Moves p (idleExpires n s) := by
  simp only [idleExpires]
  split
  · next l hl =>
    split
    · next t _ =>
      exact ((timeOut_moves (s.reach t) (mem_claims_of_lodgement? hl)).before (s.reach_register t)).after (arbitrate_register _)
    · exact .of_eq rfl
  · exact .of_eq rfl

/-- A completing order counts a copy of its title (R1, R117). -/
theorem completeOrder_moves (o : FetchOrder) : s.Moves p (completeOrder o s) := by
  have posted : (postFee o s).register = s.register := by
    simp only [postFee, offerForAccount, offerItem]
    split <;> simp
  exact State.Moves.before posted (.copy o.title)

theorem countDelivered_moves (n : Nat) : s.Moves p (countDelivered n s) := by
  simp only [countDelivered]
  repeat' split
  · exact (completeOrder_moves _ _).before (s.modOrder_register _ _)
  all_goals exact .of_eq rfl

theorem endPageOut_moves : s.Moves p (endPageOut s) := by
  simp only [endPageOut]
  repeat' split
  · exact .of_eq rfl
  · exact .of_eq rfl
  · refine ((countDelivered_moves _ _).before ?_).after (arbitrate_register _)
    simp [endStream, putLast]
  · exact .of_eq rfl

theorem levelFell_moves : s.Moves p (levelFell s) := by
  simp only [levelFell]
  split
  · exact (endPageOut_moves _).before (pump_register s)
  · exact .of_eq (arbitrate_register s)

theorem readByte_moves : s.Moves p (readByte s) := by
  simp only [readByte]
  repeat' split
  · exact .of_eq rfl
  · exact .of_eq rfl
  · exact (levelFell_moves _).before (by simp)

-- Bytes of the host -------------------------------------------------------------------------------------------

@[simp] theorem writeByte_register (b : Byte) : (writeByte b s).register = s.register := by
  simp only [writeByte, overflow]
  repeat' split
  all_goals simp

@[simp] theorem writeBytes_register (bs : List Byte) : (writeBytes bs s).register = s.register :=
  foldl_register s (fun t b => writeByte_register t b) bs

/-- A request's command moves the register as its owner does. -/
theorem offer_moves {i : Instr} {take : State → State} (h : s.Moves p (take s)) : s.Moves p (offer i take s) := by
  unfold offer
  split
  · exact h.after (arbitrate_register _)
  · exact .of_eq (writeBytes_register s _)

theorem screened_moves {tag : Byte} {take : State → State} (h : s.condition = .ready → s.Moves p (take s)) :
    s.Moves p (screened tag take s) := by
  unfold screened
  split
  · exact .of_eq rfl
  · next hc => exact h hc

-- Requests of the title directory -----------------------------------------------------------------------------

theorem takeFormat_moves (tag : Byte) : s.Moves p (takeFormat tag s) := by
  have written : ∀ t : State, t.register = (writeInitial s).register → (s.condition = .unformatted ∨ s.claims = []) →
      s.Moves p (answer tag .done (formatLine t)) := fun t ht hc => by
    refine State.Moves.after (t := writeInitial s) (.format hc) ?_
    simp only [answer_register, formatLine, lineChoose_register, refreshLine_register, State.modLine_register, ht]
  simp only [takeFormat]
  split
  · next hc => exact written _ (by simp [judgeDefaults]; rfl) (.inl hc)
  · split
    · next hq =>
      simp only [State.quiet, Bool.and_eq_true, decide_eq_true_eq] at hq
      refine written _ ?_ (.inr (claims_eq_nil.mpr hq.1.1.1.1.1.2))
      rw [releaseDrives, forDrives_register, forDrives_register]
      · simp [judgeDefaults]
      · exact fun d t => rfl
      · exact fun d t => register_of_shell (by simp) (by simp)
    · exact .of_eq rfl

theorem takeLookup_moves (tag : Byte) (t : Word24) : s.Moves p (takeLookup tag t s) :=
  screened_moves s fun _ => .of_eq (by repeat' split
                                       all_goals rfl)

theorem takeList_moves (tag : Byte) (a b : Word24) : s.Moves p (takeList tag a b s) :=
  screened_moves s fun _ => .of_eq (by split <;> rfl)

theorem takeNewTitle_moves (tag : Byte) (t : Word24) (c : Byte) : s.Moves p (takeNewTitle tag t c s) :=
  screened_moves s fun _ => by
    repeat' split
    · exact .of_eq rfl
    · exact .of_eq rfl
    · exact .of_eq rfl
    · exact .of_eq rfl
    · next cls _ hn hnew hroom =>
      exact Move.newTitle _ cls (Nat.pos_of_ne_zero hn) (State.title?_none (by simpa using hnew)) (Nat.lt_of_not_le hroom)

theorem takeSetClass_moves (tag : Byte) (t : Word24) (c : Byte) : s.Moves p (takeSetClass tag t c s) :=
  screened_moves s fun _ => by
    repeat' split
    · exact .of_eq rfl
    · exact .of_eq rfl
    · exact .of_eq rfl
    · exact .of_eq rfl
    · exact .setClass t.toNat _

theorem takeRetire_moves (tag : Byte) (t : Word24) (n : Byte) (ts : List Word24) (stray : List Byte) :
    s.Moves p (takeRetire tag t n ts stray s) :=
  screened_moves s fun _ => by
    split
    · next hf =>
      simp only [retireFormed, Bool.and_eq_true, decide_eq_true_eq] at hf
      obtain ⟨⟨⟨⟨-, hone⟩, -⟩, hlen⟩, -⟩ := hf
      have some_successor : ts.map (fun w => w.toNat) ≠ [] := by
        rw [ne_eq, List.map_eq_nil_iff, ← List.length_eq_zero_iff]
        omega
      simp only [retireTitle]
      split
      · exact .of_eq rfl
      · next r hr =>
        obtain ⟨hn, hmem⟩ := State.title?_spec hr
        repeat' split
        · exact .of_eq rfl
        · exact .of_eq rfl
        · exact .of_eq rfl
        · exact .of_eq rfl
        · next hp _ _ _ =>
          rw [← hn] at hp ⊢
          exact Move.retire r _ hmem (State.not_pending (by simpa using hp)) some_successor
    · exact .of_eq rfl

-- Requests of the filing unit ---------------------------------------------------------------------------------

/-- The entry a removing kind names is held, where check 9 of R127 passes. -/
theorem TitleRecord.namesEntry_held {r : TitleRecord} {k : LodgeKind} {n : Nat} (h : r.namesEntry k n = true)
    (hk : k.removes = true) : ∃ e ∈ r.entries, e.number = n := by
  have held : ∀ caution, r.holdsEntry n caution = true → ∃ e ∈ r.entries, e.number = n := fun caution h => by
    simp only [TitleRecord.holdsEntry, Bool.and_eq_true, List.any_eq_true, decide_eq_true_eq] at h
    obtain ⟨-, e, he, hn, -⟩ := h
    exact ⟨e, he, hn⟩
  cases k with
  | discharge => exact held false h
  | withdrawal => exact held true h
  | _ => cases hk

theorem ite_some_eq_none {α : Type} {c : Prop} [Decidable c] {x : α} {y : Option α} :
    (if c then some x else y) = none ↔ ¬ c ∧ y = none := by
  split <;> simp_all

/-- What the checks of Table 7-2 leave when none refuses. -/
theorem State.lodgeRefusal_none {s : State} {r : TitleRecord} {k : LodgeKind} {entry pages : Nat}
    (h : s.lodgeRefusal r k entry pages = none) :
    r.status = .active ∧ s.isPending r.number = false ∧ r.hasRoomFor k ∧ r.namesEntry k entry = true ∧
      (k.adds.isSome = true → s.dir.free ≠ 0) ∧ s.filing.table.length < Config.maxLodgements := by
  simp only [State.lodgeRefusal, ite_some_eq_none, Bool.and_eq_true, Bool.or_eq_true, decide_eq_true_eq, Bool.not_eq_true,
    Bool.not_eq_false] at h
  obtain ⟨hstatus, hpending, -, -, hedition, -, hspent, hnamed, hfull, htable, -, -⟩ := h
  refine ⟨?_, hpending, ⟨by omega, fun hk => ?_⟩, hnamed, fun hk hf => hfull ⟨hk, hf⟩, by omega⟩
  · cases hst : r.status with
    | active => rfl
    | closed => exact absurd hst hstatus
  · obtain ⟨hentries, hnext⟩ := not_or.mp fun h => hspent ⟨hk, h⟩
    exact ⟨Nat.lt_of_not_le hentries, Nat.lt_of_not_le hnext⟩

theorem takeLodge_moves (hp : p → s.ringLaw ∧ s.layoutLaw) (tag : Byte) (t : Word24) (k n e : Byte) :
    s.Moves p (takeLodge tag t k n e s) :=
  screened_moves s fun hready => by
    repeat' split
    · exact .of_eq rfl
    · exact .of_eq rfl
    · exact .of_eq rfl
    · exact .of_eq rfl
    · next kind _ _ r hr _ _ hnone =>
      obtain ⟨hactive, hpending, hroom, hnamed, hplace, htable⟩ := State.lodgeRefusal_none hnone
      obtain ⟨-, hmem⟩ := State.title?_spec hr
      unfold State.Moves
      rw [answer_register, enterLodgement_register]
      refine .lodge r _ ⟨hready, hmem, rfl, hactive, State.not_pending hpending, hroom, fun hk => ?_, fun hk => ?_, fun h =>
        State.nextLodgement_fresh (hp h).1 (hp h).2 htable⟩
      · have := hplace hk
        simp only [Directory.free] at this
        simp only [State.register]
        omega
      · obtain ⟨x, hx, he⟩ := TitleRecord.namesEntry_held hnamed hk
        refine ⟨x, hx, ?_⟩
        simp only [Lodgement.claim, State.newLodgement] at hk ⊢
        rw [if_pos hk, he]

end Sys2Proof.Machine
end

-- ==== Proofs: every step is one move of the register ====
section
/-!
SUPPORT for the proofs of family 01, ending in the one inversion lemma `step_moves` and the three obligations that rest on it.
-/
namespace Sys2Proof.Machine

variable {p : Prop} (s : State)

-- Requests that leave the register ----------------------------------------------------------------------------

theorem screened_register {tag : Byte} {take : State → State} (h : (take s).register = s.register) :
    (screened tag take s).register = s.register := by
  unfold screened
  split
  · rfl
  · exact h

theorem takeImport_register (tag : Byte) (c : Word16) (a b : Byte) : (takeImport tag c a b s).register = s.register :=
  screened_register s <| by
    repeat' split
    all_goals simp

theorem takeExport_register (tag : Byte) (c : Word16) : (takeExport tag c s).register = s.register :=
  screened_register s <| by
    repeat' split
    all_goals simp

theorem takeSideRole_register (tag : Byte) (c : Word16) (sd r : Byte) : (takeSideRole tag c sd r s).register = s.register :=
  screened_register s <| by
    repeat' split
    all_goals simp

theorem takeShelfQuery_register (tag : Byte) (c : Word16) : (takeShelfQuery tag c s).register = s.register :=
  screened_register s <| by
    repeat' split
    all_goals rfl

theorem takeTiming_register (tag : Byte) (h l w q i r : SentSetting) :
    (takeTiming tag h l w q i r s).register = s.register :=
  screened_register s <| by
    repeat' split
    all_goals simp

theorem takeDriveQuery_register (tag : Byte) : (takeDriveQuery tag s).register = s.register := screened_register s rfl

theorem takeRing_register (tag n : Byte) (b m : Word16) : (takeRing tag n b m s).register = s.register := by
  refine screened_register s ?_
  dsimp only
  repeat' split
  all_goals rfl

theorem takeOrder_register (tag : Byte) (t : Word24) (e : Word16) (a k : Byte) :
    (takeOrder tag t e a k s).register = s.register := by
  refine screened_register s ?_
  simp only [checkMedia, takeIn]
  repeat' split
  all_goals simp

theorem takeCancel_register (tag : Byte) (n : Word16) : (takeCancel tag n s).register = s.register :=
  screened_register s <| by
    repeat' split
    all_goals simp

theorem takeOrderQuery_register (tag : Byte) (n : Word16) : (takeOrderQuery tag n s).register = s.register :=
  screened_register s <| by split <;> rfl

@[simp] theorem refuseBody_register (tag : Byte) (c : Code) (left : Nat) : (refuseBody tag c left s).register = s.register := by
  unfold refuseBody
  split <;> rfl

theorem takePageIn_register (tag : Byte) (n : Word16) (l : Byte) (bytes : Nat) :
    (takePageIn tag n l bytes s).register = s.register := by
  simp only [takePageIn, checkPage]
  repeat' split
  all_goals simp

theorem takeLodgeQuery_register (tag : Byte) (n : Word16) : (takeLodgeQuery tag n s).register = s.register :=
  screened_register s <| by
    repeat' split
    all_goals rfl

theorem takeFeeClass_register (tag c : Byte) (d r ce h : Word16) : (takeFeeClass tag c d r ce h s).register = s.register :=
  screened_register s <| by split <;> rfl

theorem takeDuty_register (tag : Byte) (r : Word16) : (takeDuty tag r s).register = s.register := screened_register s rfl

theorem takeAccount_register (tag n k : Byte) (d : Word16) : (takeAccount tag n k d s).register = s.register :=
  screened_register s <| by split <;> rfl

theorem takeAccountQuery_register (tag n : Byte) : (takeAccountQuery tag n s).register = s.register :=
  screened_register s <| by split <;> rfl

theorem takeSettle_register (tag n : Byte) (a : Word32) : (takeSettle tag n a s).register = s.register := by
  have settled : ∀ c amount, (settleAccount c amount s).register = s.register := fun c amount => by
    simp only [settleAccount, offerForAccount, offerItem, applySettlement]
    split <;> simp
  refine screened_register s ?_
  split <;> simp [settled]

theorem takeDayClose_register (tag : Byte) : (takeDayClose tag s).register = s.register :=
  screened_register s (foldl_register s (f := fun t a => t.modAccount a Account.closeDay) (fun _ _ => rfl) allAccounts)

theorem takeCounterLine_register (tag a r : Byte) : (takeCounterLine tag a r s).register = s.register :=
  screened_register s <| by split <;> rfl

theorem takeLinkLevels_register (tag : Byte) (a b c d e : Word16) : (takeLinkLevels tag a b c d e s).register = s.register := by
  simp [takeLinkLevels, setLevels]

-- Requests ----------------------------------------------------------------------------------------------------

theorem takeAbandon_moves (tag : Byte) (n : Word16) : s.Moves p (takeAbandon tag n s) :=
  screened_moves s fun _ => by
    repeat' split
    · exact .of_eq rfl
    · exact .of_eq rfl
    · next l hl _ => exact (abandonLodgement_moves s (mem_claims_of_lodgement? hl)).after (answer_register _ tag .done)

theorem resetQueues_register (d : DriveNo) : (resetQueues d s).register = s.register := by
  simp only [resetQueues, lingerJudge_register]
  split <;> simp

theorem emptyQueues_register : (emptyQueues s).register = s.register.emptied := by
  simp only [State.register, Register.emptied, adding_claims]
  rfl

/-- A queue reset empties the table with its reservations (R151). -/
theorem resetBlocks_register : (resetBlocks s).register = s.register.emptied := by
  have released : (releaseRings s).register = s.register :=
    foldl_register s (f := fun t r => releaseIn r (fun _ => true) t) (fun _ _ => rfl) _
  rw [resetBlocks, withdrawLoads, State.modPicker_register, forDrives_register _ fun d t => resetQueues_register t d,
    emptyQueues_register, released]

theorem takeQueueReset_moves (tag : Byte) : s.Moves p (takeQueueReset tag s) := by
  have reset : s.Moves p (resetBlocks s) := by
    unfold State.Moves
    rw [resetBlocks_register]
    exact .empty
  exact reset.after (by rw [takeQueueReset, answer_register, State.modLink_register])

/-- Every request moves the register once at its owner, if at all (Table 10-3). -/
theorem takeRequest_moves (hp : p → s.ringLaw ∧ s.layoutLaw) (i : Instr) : s.Moves p (takeRequest i s) := by
  cases i with
  | format tag => exact takeFormat_moves s tag
  | lookup tag t => exact takeLookup_moves s tag t
  | list tag a b => exact takeList_moves s tag a b
  | newTitle tag t c => exact takeNewTitle_moves s tag t c
  | setClass tag t c => exact takeSetClass_moves s tag t c
  | retire tag t n ts stray => exact takeRetire_moves s tag t n ts stray
  | importCart tag c a b => exact .of_eq (takeImport_register s tag c a b)
  | exportCart tag c => exact .of_eq (takeExport_register s tag c)
  | sideRole tag c sd r => exact .of_eq (takeSideRole_register s tag c sd r)
  | shelfQuery tag c => exact .of_eq (takeShelfQuery_register s tag c)
  | timing tag h l w q i r => exact .of_eq (takeTiming_register s tag h l w q i r)
  | driveQuery tag => exact .of_eq (takeDriveQuery_register s tag)
  | ring tag n b m => exact .of_eq (takeRing_register s tag n b m)
  | order tag t e a k => exact .of_eq (takeOrder_register s tag t e a k)
  | cancel tag n => exact .of_eq (takeCancel_register s tag n)
  | orderQuery tag n => exact .of_eq (takeOrderQuery_register s tag n)
  | lodge tag t k n e => exact takeLodge_moves s hp tag t k n e
  | pageIn tag n l bytes => exact .of_eq (takePageIn_register s tag n l bytes)
  | abandon tag n => exact takeAbandon_moves s tag n
  | lodgeQuery tag n => exact .of_eq (takeLodgeQuery_register s tag n)
  | feeClass tag c d r ce h => exact .of_eq (takeFeeClass_register s tag c d r ce h)
  | duty tag r => exact .of_eq (takeDuty_register s tag r)
  | account tag n k d => exact .of_eq (takeAccount_register s tag n k d)
  | accountQuery tag n => exact .of_eq (takeAccountQuery_register s tag n)
  | settle tag n a => exact .of_eq (takeSettle_register s tag n a)
  | dayClose tag => exact .of_eq (takeDayClose_register s tag)
  | counterLine tag a r => exact .of_eq (takeCounterLine_register s tag a r)
  | linkLevels tag a b c d e => exact .of_eq (takeLinkLevels_register s tag a b c d e)
  | queueReset tag => exact takeQueueReset_moves s tag
  | _ => exact .of_eq rfl

-- The body of a PAGE_IN and the decoder -----------------------------------------------------------------------

@[simp] theorem readBody_register (tag : Byte) (fate : BodyFate) (left : Nat) (bs : List Byte) :
    (readBody tag fate left bs s).register = s.register := by
  have ended : ∀ t : State, (endBody tag fate t).register = t.register := fun t => by
    simp only [endBody, pageArrived]
    repeat' split
    all_goals simp
  have stored : ∀ n length, (storeArrival n length left bs s).register = s.register := fun n length => by
    simp only [storeArrival]
    split <;> rfl
  simp only [readBody, enterBody]
  repeat' split
  all_goals simp [ended, stored]

@[simp] theorem readInbound_register (tag : Byte) (fate : BodyFate) (left : Nat) :
    (readInbound tag fate left s).register = s.register := by simp [readInbound]

@[simp] theorem takeBodyData_register (data : List Byte) : (takeBodyData data s).register = s.register := by
  simp only [takeBodyData]
  repeat' split
  all_goals simp

@[simp] theorem discardBody_register (tag : Byte) (a : Answer) (left : Nat) :
    (discardBody tag a left s).register = s.register := by
  unfold discardBody
  split <;> rfl

theorem passRequest_moves (hp : p → s.ringLaw ∧ s.layoutLaw) (kind tag : Byte) (n : Nat) (got : List Byte) :
    s.Moves p (passRequest kind tag n got s) := by
  unfold passRequest
  split
  · exact takeRequest_moves s hp _
  · exact .of_eq rfl

theorem takeFields_moves (hp : p → s.ringLaw ∧ s.layoutLaw) (kind tag : Byte) (n : Nat) (got : List Byte) :
    s.Moves p (takeFields kind tag n got s) := by
  unfold takeFields
  split
  · exact (passRequest_moves s hp kind tag n got).after (arbitrate_register _)
  · exact .of_eq rfl

theorem readHeader_moves (hp : p → s.ringLaw ∧ s.layoutLaw) (got : List Byte) : s.Moves p (readHeader got s) := by
  unfold readHeader
  split
  · unfold takeHeader
    split
    · exact .of_eq (by simp)
    · exact .of_eq (by simp)
    · exact takeFields_moves s hp _ _ _ _
  · exact .of_eq rfl

theorem decoderMove_moves (hp : p → s.ringLaw ∧ s.layoutLaw) : s.Moves p (decoderMove s) := by
  unfold decoderMove
  split
  · exact .of_eq (by simp)
  · split
    · exact (readHeader_moves (readInboundByte _ s) hp _).before rfl
    · exact (takeFields_moves (readInboundByte _ s) hp _ _ _ _).before rfl
    · exact .of_eq (by simp)
    · refine .of_eq ?_
      simp only [arbitrate_register, discardInbound]
      split <;> rfl
    · exact .of_eq rfl

-- Events of the mechanism port --------------------------------------------------------------------------------

@[simp] theorem settleCart_shell (rep : DriveReport) (c : Nat) : (settleCart rep c s).shell = s.shell := by
  cases rep <;> rfl

@[simp] theorem resetDrive_shell (report : MechReport) (d : DriveNo) : (resetDrive report d s).shell = s.shell := by
  simp only [resetDrive, dropLoadOf]
  repeat' split
  all_goals simp

@[simp] theorem resetGrip_shell (rep : PickerReport) : (resetGrip rep s).shell = s.shell := by
  simp only [resetGrip]
  split <;> simp

@[simp] theorem queueSweep_shell (rep : PickerReport) : (queueSweep rep s).shell = s.shell := by
  simp only [queueSweep]
  split <;> simp

theorem mechanismReset_register (report : MechReport) : (mechanismReset report s).register = s.register := by
  simp only [mechanismReset]
  split
  · have swept : (resetMailCarts (resetGrip report.picker (s.forDrives (resetDrive report)))).register = s.register :=
      register_of_shell
        (by rw [resetMailCarts_shell, resetGrip_shell, forDrives_shell s fun d t => resetDrive_shell t report d])
        (by rw [resetMailCarts_claims, resetGrip_claims, forDrives_claims s fun d t => resetDrive_claims t report d])
    have queued : ∀ t : State, (queueSweep report.picker t).register = t.register := fun t =>
      register_of_shell (queueSweep_shell ..) (queueSweep_claims ..)
    simp only [arbitrate_register, pickerChoose_register, runAllocator_register, activeLost_register, judgePins_register, queued]
    exact swept
  · rfl

theorem indexCompletion_register (d : DriveNo) (ls : List Nat) : (indexCompletion d ls s).register = s.register := by
  simp only [indexCompletion]
  repeat' split
  · rfl
  · exact (indexRead_endsIn s d _ ls).register (indexRead_claims ..)
  · exact discardEnding_register s d
  · rfl

theorem pageCompletion_register (d : DriveNo) (data : List Byte) : (pageCompletion d data s).register = s.register := by
  have stored : ∀ t : State, ∀ n page, (storePage d n page data t).register = t.register := fun t n page => by
    simp only [storePage]
    split <;> rfl
  simp only [pageCompletion]
  repeat' split
  all_goals simp [stored]

theorem mediaError_register (d : DriveNo) : (mediaError d s).register = s.register := by
  simp only [mediaError]
  repeat' split
  · exact (readError_endsIn s d _).register (readError_claims ..)
  · exact discardEnding_register s d
  · rfl

theorem writeCompletion_register (d : DriveNo) : (writeCompletion d s).register = s.register := by
  simp only [writeCompletion]
  repeat' split
  · exact register_of_shell rfl (beginVerify_claims ..)
  · exact discardEnding_register s d
  · rfl

/-- The lodgement that a run files stands in the table. -/
theorem State.runLodgement_spec {s : State} {d : DriveNo} {l : Lodgement} {e : Location} (h : s.runLodgement d = some (l, e)) :
    l.claim ∈ s.claims := by
  unfold State.runLodgement at h
  split at h
  · split at h
    · next hl =>
      obtain ⟨_, _, he⟩ := Option.map_eq_some_iff.mp h
      cases he
      exact mem_claims_of_lodgement? hl
    · cases h
  · cases h

theorem writeError_moves (d : DriveNo) : s.Moves p (writeError d s) := by
  simp only [writeError, failRun]
  repeat' split
  · exact (failAttempt_moves s d _ _).after (arbitrate_register _)
  · exact .of_eq (discardEnding_register s d)
  · exact .of_eq (discardEnding_register s d)
  · exact .of_eq rfl

theorem commit_moves {d : DriveNo} {l : Lodgement} (e : Location) (hl : l.claim ∈ s.claims) : s.Moves p (commit d l e s) := by
  unfold State.Moves
  rw [commit_register]
  exact .commit _ e hl

theorem verifyCompletion_moves (d : DriveNo) (readBack : ReadBack) : s.Moves p (verifyCompletion d readBack s) := by
  simp only [verifyCompletion, verified]
  split
  · split
    · split
      · next hrun =>
        refine State.Moves.after ?_ (arbitrate_register _)
        split
        · exact commit_moves s _ (State.runLodgement_spec hrun)
        · exact failAttempt_moves s d _ _
      · exact .of_eq (discardEnding_register s d)
    · exact .of_eq (discardEnding_register s d)
  · exact .of_eq rfl

theorem stopCompletion_register (d : DriveNo) : (stopCompletion d s).register = s.register := by
  simp only [stopCompletion]
  repeat' split
  · exact discardEnding_register s d
  · rfl
  · rfl

theorem faultDrive_moves (d : DriveNo) : s.Moves p (faultDrive d s) := by
  unfold faultDrive
  split
  · exact .of_eq rfl
  · refine State.Moves.after ?_ (arbitrate_register _)
    have tasks : (endTasksOf d (dropReservation d (clearTrapped (s.heldCart d) (s.modDrive d Drive.faulted)))).register =
        s.register := register_of_shell (by simp) (by simp)
    refine ((loseAttempt_moves _ (s.drives[d]).run).before tasks).after ?_
    simp only [driveFaults, pickerChoose_register, runAllocator_register, queueNotice_register, activeLost_register,
      judgePins_register, failForFault_register]

theorem faultPicker_register : (faultPicker s).register = s.register := by
  unfold faultPicker
  split
  · rfl
  · simp only [arbitrate_register, queueNotice_register]
    exact register_of_shell (pickerFaults_shell s) (pickerFaults_claims s)

-- Timers and the counter line ---------------------------------------------------------------------------------

theorem holdExpires_register (d : DriveNo) : (holdExpires d s).register = s.register := by
  unfold holdExpires
  split <;> rfl

theorem lingerExpires_register (d : DriveNo) : (lingerExpires d s).register = s.register := by
  unfold lingerExpires
  split <;> simp

theorem reopens_register : (reopens s).register = s.register := by
  unfold reopens
  split <;> simp

theorem pollExpires_register : (pollExpires s).register = s.register := by
  have marked : ∀ t : State, (markDue t).register = t.register := fun t =>
    forCounters_register t fun n u => u.modCounter_register n _
  unfold pollExpires
  split <;> simp [startPollTimer, marked]

@[simp] theorem attemptFailed_register (n : CounterNo) : (attemptFailed n s).register = s.register := by
  simp only [attemptFailed]
  split <;> simp

@[simp] theorem pollReply_register (n : CounterNo) (bs : List Byte) : (pollReply n bs s).register = s.register := by
  simp only [pollReply, attemptGood, settleCounter, offerItem, applySettlement]
  split <;> simp

theorem postEnds_register (ending : PostEnd) : (postEnds ending s).register = s.register := by
  simp only [postEnds, postResult, dropHead, endTransaction, attemptGood]
  repeat' split
  all_goals simp

theorem pollEnds_register (ending : PollEnd) : (pollEnds ending s).register = s.register := by
  simp only [pollEnds, pollResult, endTransaction, addressAcked]
  repeat' split
  all_goals simp

theorem stretched_register : (stretched s).register = s.register := by
  simp only [stretched, endTransaction]
  split <;> simp

theorem pollAcked_register : (pollAcked s).register = s.register := by
  simp only [pollAcked, addressAcked]
  split <;> simp

-- Resets ------------------------------------------------------------------------------------------------------

theorem fullReset_moves (cause : ResetCause) (kept : Bool) : s.Moves p (fullReset cause kept s) := by
  unfold fullReset
  split
  · refine State.Moves.after (t := clearVolatile s.window { s with condition := .ready, dir := { s.dir with reserved := 0 } })
      .resetReady ?_
    simp only [resetReady, lineChoose_register, refreshLine_register]
    rfl
  · exact Move.resetNew

-- Every step --------------------------------------------------------------------------------------------------

/-- Every command moves the register once, if at all. -/
theorem exec_moves (hp : p → s.ringLaw ∧ s.layoutLaw) (i : Instr) {t : State} (h : exec i s = .next t) : s.Moves p t := by
  cases i <;> cases h
  case format tag => exact offer_moves s (takeFormat_moves s tag)
  case lookup tag t => exact offer_moves s (takeLookup_moves s tag t)
  case list tag a b => exact offer_moves s (takeList_moves s tag a b)
  case newTitle tag t c => exact offer_moves s (takeNewTitle_moves s tag t c)
  case setClass tag t c => exact offer_moves s (takeSetClass_moves s tag t c)
  case retire tag t n ts stray =>
    refine offer_moves s ?_
    split
    · exact takeRetire_moves s tag t n ts stray
    · exact .of_eq rfl
  case importCart tag c a b => exact offer_moves s (.of_eq (takeImport_register s tag c a b))
  case exportCart tag c => exact offer_moves s (.of_eq (takeExport_register s tag c))
  case sideRole tag c sd r => exact offer_moves s (.of_eq (takeSideRole_register s tag c sd r))
  case shelfQuery tag c => exact offer_moves s (.of_eq (takeShelfQuery_register s tag c))
  case timing tag h l w q i r => exact offer_moves s (.of_eq (takeTiming_register s tag h l w q i r))
  case driveQuery tag => exact offer_moves s (.of_eq (takeDriveQuery_register s tag))
  case ring tag n b m => exact offer_moves s (.of_eq (takeRing_register s tag n b m))
  case order tag t e a k => exact offer_moves s (.of_eq (takeOrder_register s tag t e a k))
  case cancel tag n => exact offer_moves s (.of_eq (takeCancel_register s tag n))
  case orderQuery tag n => exact offer_moves s (.of_eq (takeOrderQuery_register s tag n))
  case lodge tag t k n e => exact offer_moves s (takeLodge_moves s hp tag t k n e)
  case pageIn tag n l bytes =>
    refine offer_moves s ?_
    split
    · exact .of_eq (takePageIn_register s tag n l bytes)
    · exact .of_eq (discardBody_register s _ _ _)
  case pageInBodyEnd data => exact .of_eq (takeBodyData_register s data)
  case abandon tag n => exact offer_moves s (takeAbandon_moves s tag n)
  case lodgeQuery tag n => exact offer_moves s (.of_eq (takeLodgeQuery_register s tag n))
  case feeClass tag c d r ce h => exact offer_moves s (.of_eq (takeFeeClass_register s tag c d r ce h))
  case duty tag r => exact offer_moves s (.of_eq (takeDuty_register s tag r))
  case account tag n k d => exact offer_moves s (.of_eq (takeAccount_register s tag n k d))
  case accountQuery tag n => exact offer_moves s (.of_eq (takeAccountQuery_register s tag n))
  case settle tag n a => exact offer_moves s (.of_eq (takeSettle_register s tag n a))
  case dayClose tag => exact offer_moves s (.of_eq (takeDayClose_register s tag))
  case counterLine tag a r => exact offer_moves s (.of_eq (takeCounterLine_register s tag a r))
  case linkLevels tag a b c d e => exact offer_moves s (.of_eq (takeLinkLevels_register s tag a b c d e))
  case queueReset tag => exact offer_moves s (takeQueueReset_moves s tag)
  case unknownKind tag kind body => exact offer_moves s (.of_eq rfl)
  case badFrame tag kind body => exact offer_moves s (.of_eq rfl)
  case wrStrobe b => exact .of_eq (writeByte_register s b)
  case rdStrobe => exact readByte_moves s
  case answerPlaced => exact .of_eq (register_of_desk (placeAnswer_desk s) (placeAnswer_claims s))
  case noticePlaced => exact .of_eq (register_of_desk (placeNotice_desk s) (placeNotice_claims s))
  case pageOutBegin => exact .of_eq (register_of_desk (beginPageOut_desk s) (beginPageOut_claims s))
  case pageOutEnd => exact endPageOut_moves s
  case fullReset cause kept => exact fullReset_moves s cause kept
  case resetRelease => exact .of_eq rfl
  case mechanismResetCompletion report => exact .of_eq (mechanismReset_register s report)
  case pickCompletion point => exact .of_eq (register_of_shell (picked_shell s point) (picked_claims s point))
  case placementCompletion point => exact .of_eq ((placed_endsIn s point).register (placed_claims s point))
  case targetSlotOccupied n => exact .of_eq (register_of_shell (slotOccupied_shell s n) (slotOccupied_claims s n))
  case mailSlotPlaced => exact .of_eq rfl
  case mailSlotEmptied => exact .of_eq ((mailEmptied_endsIn s).register (mailEmptied_claims s))
  case spinUpCompletion d => exact .of_eq (register_of_shell (spinUp_shell s d) (spinUp_claims s d))
  case spinDownCompletion d => exact .of_eq (register_of_shell (spinDown_shell s d) (spinDown_claims s d))
  case indexReadCompletion d ls => exact .of_eq (indexCompletion_register s d ls)
  case pageReadCompletion d data => exact .of_eq (pageCompletion_register s d data)
  case mediaError d => exact .of_eq (mediaError_register s d)
  case writeRunCompletion d => exact .of_eq (writeCompletion_register s d)
  case writeMediaError d => exact writeError_moves s d
  case verifyRunCompletion d readBack => exact verifyCompletion_moves s d readBack
  case stopCompletion d => exact .of_eq (stopCompletion_register s d)
  case driveFault d => exact faultDrive_moves s d
  case pickerFault => exact .of_eq (faultPicker_register s)
  case holdExpiry d => exact .of_eq (holdExpires_register s d)
  case lingerExpiry d => exact .of_eq (lingerExpires_register s d)
  case reopeningExpiry => exact .of_eq (reopens_register s)
  case idleTimeout n => exact idleExpires_moves s n.toNat
  case pollIntervalExpiry => exact .of_eq (pollExpires_register s)
  case post ending => exact .of_eq (postEnds_register s ending)
  case poll ending => exact .of_eq (pollEnds_register s ending)
  case clockStretchTimeout => exact .of_eq (stretched_register s)
  case clockRelease => exact .of_eq (lineChoose_register _)
  case pollAddressAcknowledged => exact .of_eq (pollAcked_register s)
  case clockHeldLow => exact .of_eq rfl

/-- The part's own move moves the register once, if at all. -/
theorem idle_moves (hp : p → s.ringLaw ∧ s.layoutLaw) : s.Moves p (idle s) := by
  unfold idle
  split
  · exact decoderMove_moves s hp
  · split
    · unfold arbiterMove
      split
      · exact endPageOut_moves s
      · exact .of_eq (arbitrate_register s)
    · unfold timeMove
      split
      · next f hf =>
        unfold State.dueExpiry at hf
        repeat' split at hf
        all_goals cases hf
        · exact .of_eq (holdExpires_register s _)
        · exact .of_eq (lingerExpires_register s _)
        · exact .of_eq (reopens_register s)
        · exact idleExpires_moves s _
        · exact .of_eq (pollExpires_register s)
      · exact .of_eq rfl

/-- Every step is one move of the register. -/
theorem step_moves {s t : State} (h : step s = .next t) : s.Moves (s.ringLaw ∧ s.layoutLaw) t := by
  unfold step at h
  split at h
  · cases h
    exact idle_moves s id
  · next i rest _ => exact (exec_moves { s with pending := rest } id i h).before rfl

-- The obligations ---------------------------------------------------------------------------------------------

/-- Settles O9: every move of the register keeps the laws of the directory, and every step is one move. -/
theorem stepKeepsDirectoryLaw : Obligations.StepKeepsDirectoryLaw := by
  intro s t hd hstep
  rw [State.directoryLaw_iff] at hd ⊢
  exact (step_moves hstep).keeps_directoryLaw hd

/-- Settles O10: every move of the register keeps the pool's laws, the fresh number resting on the laws of the rings. -/
theorem stepKeepsPoolLaws : Obligations.StepKeepsPoolLaws := by
  intro s t hring hlayout hd ht hp hu hstep
  rw [State.directoryLaw_iff] at hd
  rw [State.poolLaw_iff] at hp ⊢
  rw [State.inUseLaw_iff] at hu ⊢
  have hm := step_moves hstep
  exact ⟨hm.keeps_poolLaw ⟨hring, hlayout⟩ hp, hm.keeps_inUseLaw hd ht hu⟩

/-- Settles O11: every move of the register keeps the laws and the limits of the title records. -/
theorem stepKeepsTitleRecordsLawful : Obligations.StepKeepsTitleRecordsLawful := by
  intro s t hd ht hl hstep
  rw [State.directoryLaw_iff] at hd
  rw [State.limitLaw_iff] at hl ⊢
  have hm := step_moves hstep
  exact ⟨hm.keeps_titleLaw ht, hm.keeps_limitLaw hd hl⟩

end Sys2Proof.Machine
end

-- ==== Proofs: the requests of the directory ====
section
/-!
The step (O1) and what the requests of the directory answer: LOOKUP (O16), LIST (O17) and LODGE (O29).
-/
namespace Sys2Proof.Machine

/-- A value that is not 0 reads as no 0. -/
theorem toNat_ne_zero {w : Nat} {x : BitVec w} (h : x ≠ 0) : x.toNat ≠ 0 := fun e =>
  h (BitVec.eq_of_toNat_eq (e.trans (BitVec.toNat_ofNat 0 w ▸ (Nat.zero_mod _).symm)))

theorem State.serves_spec {s : State} (h : s.serves = true) : s.decoderFree = true ∧ s.condition = .ready := by
  simpa [State.serves] using h

/-- Settles O1: the step's definition at a queue with a front command. -/
theorem stepRunsFrontCommand : Obligations.StepRunsFrontCommand := by
  intro c rest s h
  simp only [step, h]

-- LOOKUP ------------------------------------------------------------------------------------------------------

/-- A LOOKUP that finds a free decoder is taken by the directory at once. -/
theorem exec_lookup_free {s : State} (h : s.decoderFree = true) (tag : Byte) (title : Word24) :
    exec (.lookup tag title) s = .next (arbitrate (takeLookup tag title s)) :=
  congrArg Host.Outcome.next (offer_free h)

theorem takeLookup_zero {s : State} (h : s.condition = .ready) (tag : Byte) :
    takeLookup tag 0 s = answer tag (.refused .badField) s := by
  rw [takeLookup, screened_ready h]
  rfl

theorem takeLookup_unknown {s : State} (h : s.condition = .ready) (tag : Byte) {title : Word24} (h0 : title ≠ 0)
    (hn : s.title? title.toNat = none) : takeLookup tag title s = answer tag (.refused .unknownTitle) s := by
  rw [takeLookup, screened_ready h, if_neg (toNat_ne_zero h0), hn]
  rfl

theorem takeLookup_found {s : State} (h : s.condition = .ready) (tag : Byte) {title : Word24} (h0 : title ≠ 0) {r : TitleRecord}
    (hr : s.title? title.toNat = some r) :
    takeLookup tag title s = answer tag (.lookup r (s.pendingNumber title.toNat)) s := by
  rw [takeLookup, screened_ready h, if_neg (toNat_ne_zero h0), hr]

/-- Settles O16, branch by branch of R19's checks. -/
theorem lookupAnswersTheRecord : Obligations.LookupAnswersTheRecord := by
  intro tag title s hf
  rw [exec_lookup_free hf]
  refine ⟨fun hu => ?_, fun hr => ⟨?_, fun h0 hn => ?_, fun r h0 hs => ?_⟩⟩
  · rw [takeLookup, screened_unformatted hu]
    rfl
  · rintro rfl
    rw [takeLookup_zero hr]
  · rw [takeLookup_unknown hr tag h0 hn]
  · rw [takeLookup_found hr tag h0 hs]

-- LIST --------------------------------------------------------------------------------------------------------

theorem State.mem_inRange {s : State} {first last : Nat} {r : TitleRecord} :
    r ∈ s.inRange first last ↔ r ∈ s.dir.titles ∧ first ≤ r.number ∧ r.number ≤ last := by
  simp [State.inRange]

theorem State.inRange_ascending {s : State} (h : (s.dir.titles.map fun r => r.number).Pairwise (· < ·)) (first last : Nat) :
    ((s.inRange first last).map fun r => r.number).Pairwise (· < ·) :=
  h.sublist (List.filter_sublist.map _)

/-- In an ascending list the items before the one at a place are those of a lower key. -/
theorem mem_take_iff_lt {α : Type} {key : α → Nat} {xs : List α} (h : (xs.map key).Pairwise (· < ·)) {n : Nat} {y : α}
    {rest : List α} (hd : xs.drop n = y :: rest) {x : α} (hx : x ∈ xs) : x ∈ xs.take n ↔ key x < key y := by
  rw [← List.take_append_drop n xs, hd] at h hx
  rw [List.map_append, List.pairwise_append, List.map_cons, List.pairwise_cons] at h
  obtain ⟨-, ⟨later, -⟩, before⟩ := h
  have lower : x ∈ xs.take n → key x < key y := fun hm =>
    before _ (List.mem_map_of_mem hm) _ (List.mem_cons_self ..)
  refine ⟨lower, fun hlt => ?_⟩
  rcases List.mem_append.mp hx with hm | hm
  · exact hm
  · rcases List.mem_cons.mp hm with rfl | hm
    · exact absurd hlt (Nat.lt_irrefl _)
    · exact absurd hlt (Nat.lt_asymm (later _ (List.mem_map_of_mem hm)))

/-- The items of a LIST answer are of the first 32 records of the range. -/
theorem listed_iff {s : State} (h : (s.dir.titles.map fun r => r.number).Pairwise (· < ·)) {first last : Nat} {r : TitleRecord}
    (hr : r ∈ s.inRange first last) :
    (∃ i ∈ ((s.inRange first last).take Config.listLimit).map s.listItem, i.title = r.number) ↔
      r ∈ (s.inRange first last).take Config.listLimit := by
  constructor
  · rintro ⟨i, hi, e⟩
    obtain ⟨q, hq, rfl⟩ := List.mem_map.mp hi
    rwa [← eq_of_number_eq (State.inRange_ascending h first last) (List.mem_of_mem_take hq) hr e]
  · exact fun hm => ⟨_, List.mem_map_of_mem hm, rfl⟩

/-- Settles O17: the answer's items are the first 32 records of the ascending range, cut off below the 33rd. -/
theorem listAnswersTheRange : Obligations.ListAnswersTheRange := by
  intro tag first last s hs hd
  obtain ⟨hf, hready⟩ := State.serves_spec hs
  have asc := ((State.directoryLaw_iff s).mp hd).ascending
  have taken : exec (.list tag first last) s = .next (arbitrate (takeList tag first last s)) :=
    congrArg Host.Outcome.next (offer_free hf)
  rw [taken, takeList, screened_ready hready]
  refine ⟨fun hlt => ?_, fun hle => ?_⟩
  · rw [if_pos (BitVec.lt_def.mp hlt)]
    rfl
  · rw [if_neg (Nat.not_lt.mpr (BitVec.le_def.mp hle))]
    have range := State.inRange_ascending asc first.toNat last.toNat
    refine ⟨_, _, _, rfl, ?_, ?_, ?_, ?_, ?_, ?_⟩
    · simp [Config.listLimit]
    · rw [List.map_map]
      exact range.sublist ((List.take_sublist _ _).map _)
    · intro i hi
      obtain ⟨r, hr, rfl⟩ := List.mem_map.mp hi
      obtain ⟨hmem, hbounds⟩ := State.mem_inRange.mp (List.mem_of_mem_take hr)
      exact ⟨r, hmem, hbounds.1, hbounds.2, rfl⟩
    · intro r hmem hfirst hlast
      have hr := State.mem_inRange.mpr ⟨hmem, hfirst, hlast⟩
      rw [listed_iff asc hr, decide_eq_false_iff_not, Nat.not_lt, nextListed]
      cases hdrop : (s.inRange first.toNat last.toNat).drop Config.listLimit with
      | nil =>
        have hlen := List.drop_eq_nil_iff.mp hdrop
        simp [List.take_of_length_le hlen, hr, hlen]
      | cons q rest =>
        have hlen : Config.listLimit < (s.inRange first.toNat last.toNat).length := by
          by_contra hn
          rw [List.drop_eq_nil_of_le (Nat.le_of_not_lt hn)] at hdrop
          cases hdrop
        rw [mem_take_iff_lt range hdrop hr]
        simp [Nat.not_le.mpr hlen]
    · intro hmore
      have hlen := of_decide_eq_true hmore
      refine ⟨by simpa [Config.listLimit] using hlen.le, ?_⟩
      rw [nextListed, List.head?_drop, List.getElem?_eq_getElem hlen]
      obtain ⟨hmem, hbounds⟩ := State.mem_inRange.mp (List.getElem_mem hlen)
      exact ⟨_, hmem, rfl, hbounds.1, hbounds.2⟩
    · intro hmore
      rw [nextListed, List.drop_eq_nil_of_le (Nat.le_of_not_lt (of_decide_eq_false hmore))]
      rfl

-- LODGE -------------------------------------------------------------------------------------------------------

theorem lodgeKindOf_none {b : Byte} (h : 7 < b.toNat) : lodgeKindOf b = none := by
  unfold lodgeKindOf
  split
  case h_9 => rfl
  all_goals omega

/-- Check 7 of R127. -/
theorem LodgeKind.barred_iff {k : LodgeKind} {r : TitleRecord} : (k.barredByCaution && r.cautioned) = true ↔
    (k = .transfer ∨ k = .charge) ∧ ∃ e ∈ r.entries, e.kind = .caution := by
  cases k <;> simp [LodgeKind.barredByCaution, TitleRecord.cautioned]

/-- Check 8 of R127. -/
theorem LodgeKind.spent_iff {k : LodgeKind} {r : TitleRecord} :
    (k.adds.isSome && (decide (Config.maxEntries ≤ r.entries.length) || decide (Config.spentEntryNumber ≤ r.nextEntry))) = true ↔
      k.adds.isSome = true ∧ (24 ≤ r.entries.length ∨ 256 ≤ r.nextEntry) := by
  rw [Bool.and_eq_true, Bool.or_eq_true, decide_eq_true_eq, decide_eq_true_eq, Config.maxEntries, Config.spentEntryNumber]

/-- Check 9 of R127, for the entry byte of a LODGE. -/
theorem TitleRecord.namesEntry_iff {r : TitleRecord} {k : LodgeKind} {entry : Byte} : r.namesEntry k entry.toNat = true ↔
    (k = .discharge → entry ≠ 0 ∧ ∃ e ∈ r.entries, e.number = entry.toNat ∧ e.kind ≠ .caution) ∧
      (k = .withdrawal → entry ≠ 0 ∧ ∃ e ∈ r.entries, e.number = entry.toNat ∧ e.kind = .caution) := by
  have zero : (decide (entry.toNat ≠ 0) = true) ↔ entry ≠ 0 :=
    decide_eq_true_iff.trans ⟨fun h e => h (by simp [e]), toNat_ne_zero⟩
  cases k
  case discharge | withdrawal =>
    simp only [TitleRecord.namesEntry, TitleRecord.holdsEntry, Bool.and_eq_true, zero]
    simp
  all_goals simp [TitleRecord.namesEntry]

/-- Check 10 of R127. -/
theorem LodgeKind.full_iff {k : LodgeKind} {d : Directory} : (k.adds.isSome && decide (d.free = 0)) = true ↔
    k.adds.isSome = true ∧ 65536 ≤ d.inUse + d.reserved := by
  rw [Bool.and_eq_true, decide_eq_true_eq, Directory.free, Config.poolPlaces, Nat.sub_sub, Nat.sub_eq_zero_iff_le]

section
variable {s : State} {tag kind pages entry : Byte} {title : Word24} {k : LodgeKind} {r : TitleRecord}

theorem exec_lodge_served (hs : s.serves = true) :
    exec (.lodge tag title kind pages entry) s = .next (arbitrate (takeLodge tag title kind pages entry s)) :=
  congrArg Host.Outcome.next (offer_free (State.serves_spec hs).1)

/-- A LODGE with a good kind and a held title is refused as checks 2 to 12 say. -/
theorem lodge_refused (hs : s.serves = true) (hk : lodgeKindOf kind = some k) (h0 : title ≠ 0)
    (hr : s.title? title.toNat = some r) {c : Code} (hc : s.lodgeRefusal r k entry.toNat pages.toNat = some c) :
    s.refuses (.lodge tag title kind pages entry) tag c := by
  simp only [State.refuses, exec_lodge_served hs, takeLodge, screened_ready (State.serves_spec hs).2, hk, hr,
    if_neg (toNat_ne_zero h0), hc, refuse]

/-- A LODGE that no check refuses enters its lodgement. -/
theorem lodge_accepted (hs : s.serves = true) (hk : lodgeKindOf kind = some k) (h0 : title ≠ 0)
    (hr : s.title? title.toNat = some r) (hc : s.lodgeRefusal r k entry.toNat pages.toNat = none) :
    exec (.lodge tag title kind pages entry) s =
      .next (arbitrate (answer tag (.lodge s.nextLodgement (r.edition + 1) k.adds.isSome
        (enterLodgement (s.newLodgement r.number k entry.toNat pages.toNat) s).dir.free)
        (enterLodgement (s.newLodgement r.number k entry.toNat pages.toNat) s))) := by
  simp only [exec_lodge_served hs, takeLodge, screened_ready (State.serves_spec hs).2, hk, hr, if_neg (toNat_ne_zero h0), hc]
  rfl

end

/-- Settles O29: each refusal is the first check of Table 7-2 that fails, and with none the lodgement is entered. -/
theorem lodgeEntersTheLodgement : Obligations.LodgeEntersTheLodgement := by
  rintro tag title kind pages entry s _ rfl hs
  refine ⟨fun h7 => ?_, fun k hk => ⟨fun hno => ?_, fun r h0 hr => ?_⟩⟩
  · simp only [State.refuses, exec_lodge_served hs, takeLodge, screened_ready (State.serves_spec hs).2, lodgeKindOf_none h7,
      refuse]
  · simp only [State.refuses, exec_lodge_served hs, takeLodge, screened_ready (State.serves_spec hs).2, hk]
    cases hr : s.title? title.toNat with
    | none => rfl
    | some r =>
      have h0 : title = 0 := hno.resolve_right (by simp [hr])
      subst h0
      rfl
  · refine ⟨fun hc => lodge_refused hs hk h0 hr (if_pos hc), fun ha hp => ?_, fun ha hp => ?_⟩
    all_goals have active : ¬ r.status = .closed := by simp [ha]
    · exact lodge_refused hs hk h0 hr ((if_neg active).trans (if_pos hp))
    · intro barred hbarred spent hspent named hnamed full hfull
      have settled : ¬ s.isPending r.number = true := by simp [hp]
      obtain rfl := propext (hbarred.trans LodgeKind.barred_iff.symm)
      obtain rfl := propext (hspent.trans LodgeKind.spent_iff.symm)
      obtain rfl := propext (hnamed.trans TitleRecord.namesEntry_iff.symm)
      obtain rfl := propext (hfull.trans LodgeKind.full_iff.symm)
      refine ⟨fun hfirst he => ?_, fun hfirst he => ?_, fun hkind => ?_⟩
      · exact lodge_refused hs hk h0 hr (by rw [State.lodgeRefusal, if_neg active, if_neg settled, if_pos ⟨hfirst, he⟩])
      · exact lodge_refused hs hk h0 hr
          (by rw [State.lodgeRefusal, if_neg active, if_neg settled, if_neg fun h => hfirst h.1, if_pos ⟨hfirst, he⟩])
      have unregistered : ¬ (k = .first ∧ r.edition ≠ 0) := fun h => h.2 (hkind.mp h.1)
      have registered : ¬ (k ≠ .first ∧ r.edition = 0) := fun h => h.1 (hkind.mpr h.2)
      have checks := Eq.refl (s.lodgeRefusal r k entry.toNat pages.toNat)
      conv_rhs at checks =>
        rw [State.lodgeRefusal, if_neg active, if_neg settled, if_neg unregistered, if_neg registered, Config.maxEdition,
          Config.maxLodgements, Config.maxPages]
      refine ⟨fun he => lodge_refused hs hk h0 hr (by rw [checks, if_pos he]), fun he hb => ?_, fun he hb hsp => ?_,
        fun he hb hsp hn => ?_, fun he hb hsp hn hf => ?_, fun he hb hsp hn hf =>
          ⟨fun ht => ?_, fun ht hpages => ?_, fun ht h1 h250 reserved hres => ?_⟩⟩
      all_goals rw [if_neg (Nat.not_le.mpr he)] at checks
      · exact lodge_refused hs hk h0 hr (by rw [checks, if_pos hb])
      all_goals rw [if_neg hb] at checks
      · exact lodge_refused hs hk h0 hr (by rw [checks, if_pos hsp])
      all_goals rw [if_neg hsp] at checks
      · exact lodge_refused hs hk h0 hr (by rw [checks, if_pos (Bool.eq_false_of_not_eq_true hn)])
      all_goals rw [if_neg (Bool.not_eq_false _ ▸ hn)] at checks
      · exact lodge_refused hs hk h0 hr (by rw [checks, if_pos hf])
      all_goals rw [if_neg hf] at checks
      · exact lodge_refused hs hk h0 hr (by rw [checks, if_pos ht])
      all_goals rw [if_neg (Nat.not_le.mpr ht)] at checks
      · exact lodge_refused hs hk h0 hr (by rw [checks, if_pos hpages])
      · rw [lodge_accepted hs hk h0 hr (by rw [checks, if_neg (by omega)]), hres]
        cases k <;> rfl

end Sys2Proof.Machine
end

-- ==== Proofs: what is answered before a request reaches its owner ====
section
/-!
O3: a header that fails its check and a request in UNFORMATTED are answered before a request reaches its owner (R14, R125, R186, R188).
-/
namespace Sys2Proof.Machine

/-- In UNFORMATTED a free decoder answers NOT_FORMATTED to every request that R14 screens. -/
theorem offer_screened_unformatted {s : State} (hf : s.decoderFree = true) (hu : s.condition = .unformatted) (i : Instr)
    (tag : Byte) (take : State → State) :
    (.next (offer i (screened tag take) s) : Host.Outcome State Fault Refusal) =
      .next (arbitrate (answer tag (.refused .notFormatted) s)) := by
  rw [offer_free hf, screened_unformatted hu, refuse]

theorem execRetire_free {s : State} (hf : s.decoderFree = true) (tag : Byte) (title : Word24) (count : Byte)
    (successors : List Word24) (stray : List Byte) :
    execRetire tag title count successors stray s =
      .next (arbitrate (if lengthAllowed 0x06 (4 + 3 * successors.length + stray.length) = some true
        then takeRetire tag title count successors stray s else answer tag (.badFrame .length) s)) := by
  rw [execRetire, offer_free hf]
  split <;> rfl

theorem execPageIn_free {s : State} (hf : s.decoderFree = true) (tag : Byte) (n : Word16) (length : Byte) (bodyBytes : Nat) :
    execPageIn tag n length bodyBytes s =
      .next (arbitrate (if lengthAllowed pageInKind (pageInFields + bodyBytes) = some true
        then takePageIn tag n length bodyBytes s else discardBody tag (.badFrame .length) bodyBytes s)) := by
  rw [execPageIn, offer_free hf]
  split <;> rfl

/-- The lengths of a RETIRE's body in Table 11-3. -/
theorem lengthAllowed_retire (n : Nat) : lengthAllowed 0x06 n = some true ↔ 4 ≤ n ∧ n ≤ 28 := by
  rw [show lengthAllowed 0x06 n = some (4 ≤ n && n ≤ 28) from rfl, Option.some.injEq, Bool.and_eq_true, decide_eq_true_eq,
    decide_eq_true_eq]

/-- The lengths of a PAGE_IN's body in Table 11-3: the fixed fields and at most 64 blocks. -/
theorem lengthAllowed_pageIn (bodyBytes : Nat) : lengthAllowed pageInKind (pageInFields + bodyBytes) = some true ↔
    bodyBytes ≤ 65536 := by
  rw [show lengthAllowed pageInKind (pageInFields + bodyBytes) = some (3 ≤ pageInFields + bodyBytes &&
    pageInFields + bodyBytes ≤ 65539) from rfl, Option.some.injEq, Bool.and_eq_true, decide_eq_true_eq, decide_eq_true_eq,
    pageInFields]
  omega

theorem takePageIn_unformatted {s : State} (hu : s.condition = .unformatted) (tag : Byte) (n : Word16) (length : Byte)
    (bodyBytes : Nat) : takePageIn tag n length bodyBytes s = refuseBody tag .notFormatted bodyBytes s := by
  rw [takePageIn, hu]

/-- In UNFORMATTED a request whose header passes is answered NOT_FORMATTED, but for FORMAT, LINK_LEVELS and QUEUE_RESET, which are
taken, and PAGE_IN, whose body comes first. -/
theorem exec_request_unformatted {s : State} (hf : s.decoderFree = true) (hu : s.condition = .unformatted) {i : Instr}
    {kind tag : Byte} {n : Nat} {body : List Byte} (hw : i.wellFormed = true) (hi : requestFields i = some (kind, tag, n, body))
    (hlen : lengthAllowed kind n = some true) (hformat : kind ≠ 0x01) (hlevels : kind ≠ 0x1C) (hreset : kind ≠ 0x1D)
    (hpage : kind ≠ pageInKind) : exec i s = .next (arbitrate (answer tag (.refused .notFormatted) s)) := by
  cases i
  case unknownKind tag' kind' body' => cases hlen.symm.trans (Laws.HeaderCheck.unknownKind tag' kind' body' hw _ _ _ _ hi)
  case badFrame tag' kind' body' => cases hlen.symm.trans (Laws.HeaderCheck.badFrame tag' kind' body' hw _ _ _ _ hi)
  all_goals cases hi
  case format => exact absurd rfl hformat
  case linkLevels => exact absurd rfl hlevels
  case queueReset => exact absurd rfl hreset
  case pageIn => exact absurd rfl hpage
  case retire title count successors stray =>
    refine (execRetire_free hf ..).trans ?_
    rw [if_pos hlen, takeRetire, screened_unformatted hu, refuse]
  all_goals exact offer_screened_unformatted hf hu _ _ _

/-- Settles O3: the header's check, then the screen of UNFORMATTED. -/
theorem requestsAreScreenedBeforeTheirOwner : Obligations.RequestsAreScreenedBeforeTheirOwner := by
  intro s hf
  refine ⟨fun tag kind body => ⟨congrArg Host.Outcome.next (offer_free hf), congrArg Host.Outcome.next (offer_free hf)⟩,
    fun tag title count successors stray hlong => ?_, fun tag n length bodyBytes => ⟨fun hlong => ?_, fun hu hnone => ?_,
    fun hu hsome hshort => ?_⟩, fun i kind tag n body hu hw hi hlen => exec_request_unformatted hf hu hw hi hlen⟩
  · refine (execRetire_free hf ..).trans ?_
    rw [if_neg fun h => by have := (lengthAllowed_retire _).mp h; omega]
  · refine (execPageIn_free hf ..).trans ?_
    rw [if_neg fun h => by have := (lengthAllowed_pageIn _).mp h; omega, discardBody, if_neg (by omega)]
    rfl
  · refine (execPageIn_free hf ..).trans ?_
    rw [if_pos ((lengthAllowed_pageIn _).mpr (by omega)), takePageIn_unformatted hu, refuseBody, if_pos hnone, refuse]
  · refine (execPageIn_free hf ..).trans ?_
    rw [if_pos ((lengthAllowed_pageIn _).mpr hshort), takePageIn_unformatted hu, refuseBody, if_neg (by omega)]
    rfl

end Sys2Proof.Machine
end

-- ==== Proofs: the state after a power-on reset ====
section
/-!
O6: every law of the device at a power-on reset of a new part. Its tables, queues and FIFOs are empty, each drive, ring, counter,
account and schedule entry is an initial one, and the configuration is the default one.
-/
namespace Sys2Proof.Machine

theorem reset_drives (d : DriveNo) : State.reset.drives[d] = Drive.initial := Vector.getElem_replicate ..

theorem reset_rings (r : Fin 7) : State.reset.rings[r] = PageRing.initial := Vector.getElem_replicate ..

theorem reset_counters (n : CounterNo) : State.reset.line.counters[n] = Counter.initial := Vector.getElem_replicate ..

theorem reset_accounts (a : Fin 13) : State.reset.fees.accounts[a] = Account.initial := Vector.getElem_replicate ..

theorem reset_schedule (c : Fin 8) : State.reset.fees.schedule[c] = FeeEntry.initial := Vector.getElem_replicate ..

theorem reset_no_title (r : TitleRecord) : r ∉ State.reset.dir.titles := List.not_mem_nil

theorem reset_no_lodgement (l : Lodgement) : l ∉ State.reset.filing.table := List.not_mem_nil

theorem reset_no_cart (c : Cartridge) : c ∉ State.reset.lib.carts := List.not_mem_nil

theorem reset_no_task (k : Task) : k ∉ State.reset.picker.queue := List.not_mem_nil

theorem reset_no_run (d : DriveNo) (u : Run) : u ∉ State.reset.drives[d].run := by simp [reset_drives d, Drive.initial]

theorem reset_ringLaw : State.reset.ringLaw := fun r => reset_rings r ▸ PageRing.initial_lawful _

theorem reset_layoutLaw : State.reset.layoutLaw := by decide

theorem reset_settingsLaw : State.reset.settingsLaw := by decide

theorem reset_directoryLaw : State.reset.directoryLaw :=
  ⟨fun _ => rfl, .nil, fun r h => absurd h (reset_no_title r), rfl, Nat.zero_le _, fun r h => absurd h (reset_no_title r),
    fun l h => absurd h (reset_no_lodgement l), .nil⟩

theorem reset_poolLaw : State.reset.poolLaw := ⟨fun _ => rfl, .nil, rfl, Nat.zero_le _⟩

theorem reset_holdLaw : State.reset.holdLaw := fun d => by simp [reset_drives d, Drive.initial]

theorem reset_accountLaw : State.reset.accountLaw := fun a => reset_accounts a ▸ (by decide : Account.initial.lawful)

theorem reset_scheduleLaw : State.reset.scheduleLaw :=
  ⟨fun c => reset_schedule c ▸ (by decide : FeeEntry.initial.rate ≤ 8191), Nat.zero_le _⟩

theorem reset_capacityLaw : State.reset.capacityLaw :=
  ⟨⟨Nat.zero_le _, .nil, fun c h => absurd h (reset_no_cart c)⟩, Nat.zero_le _, Nat.zero_le _, Nat.zero_le _, Nat.zero_le _,
    Nat.zero_le _, fun n => by
    rw [reset_counters n]
    exact ⟨Nat.zero_le _, Nat.zero_le _⟩⟩

theorem reset_linkLaw : State.reset.linkLaw := by decide

theorem reset_extentLaw : State.reset.extentLaw := fun l h => absurd h (reset_no_lodgement l)

theorem reset_handLaw : State.reset.handLaw := ⟨fun _ h => absurd h (Option.not_mem_none _), fun l h => absurd h (reset_no_lodgement l)⟩

theorem reset_filingRunLaw : State.reset.filingRunLaw :=
  ⟨fun d u h => absurd h (reset_no_run d u), fun d _ _ u h => absurd h (reset_no_run d u),
    fun d u h => absurd h (reset_no_run d u)⟩

theorem reset_filingLaw : State.reset.filingLaw := ⟨.nil, reset_extentLaw, reset_handLaw, reset_filingRunLaw, rfl⟩

/-- A new part mounts and records no cartridge. -/
theorem reset_mountLaw (d : DriveNo) : State.reset.mountLaw d := by
  refine ⟨?_, ?_, ?_, fun _ c h => absurd h (reset_no_cart c)⟩
  all_goals simp [reset_drives d, Drive.initial]

theorem reset_bareLaw : State.reset.bareLaw := fun _ => ⟨rfl, rfl, rfl, rfl, fun d => by simp [reset_drives d, Drive.initial]⟩

theorem reset_sweepLaw : State.reset.sweepLaw := fun h => Bool.noConfusion h

theorem reset_carryLaw : State.reset.carryLaw :=
  ⟨reset_bareLaw, reset_sweepLaw, reset_mountLaw, fun k h => absurd h (reset_no_task k),
    fun _ h => absurd h (Option.not_mem_none _), .nil, fun _ _ c h => absurd h (reset_no_cart c)⟩

theorem reset_placeLaw : State.reset.placeLaw := ⟨.nil, .nil, .nil, fun c h => absurd h (reset_no_cart c)⟩

theorem reset_inUseLaw : State.reset.inUseLaw := ⟨fun l h => absurd h (reset_no_lodgement l), rfl⟩

theorem reset_titleLaw : State.reset.titleLaw := fun r h => absurd h (reset_no_title r)

theorem reset_limitLaw : State.reset.limitLaw :=
  ⟨fun r h => absurd h (reset_no_title r), fun l h => absurd h (reset_no_lodgement l)⟩

theorem reset_activeLaw : State.reset.activeLaw := fun _ h => absurd h (Option.not_mem_none _)

theorem reset_sideLaw : State.reset.sideLaw :=
  ⟨fun c h => absurd h (reset_no_cart c), fun l h => absurd h (reset_no_lodgement l)⟩

theorem reset_locationLaw : State.reset.locationLaw := ⟨fun _ h => absurd h List.not_mem_nil, .nil⟩

/-- Settles O6, law by law. -/
theorem everyLawHoldsAtReset : Obligations.EveryLawHoldsAtReset :=
  ⟨reset_memory_wf, reset_ringLaw, reset_layoutLaw, reset_settingsLaw, reset_poolLaw, reset_directoryLaw, reset_inUseLaw,
    reset_titleLaw, reset_limitLaw, reset_activeLaw, reset_sideLaw, reset_holdLaw, reset_accountLaw, reset_scheduleLaw,
    reset_capacityLaw, Nat.le_refl _, reset_linkLaw, reset_placeLaw, reset_carryLaw, reset_filingLaw, reset_locationLaw, .nil⟩

end Sys2Proof.Machine
end

-- ==== Proofs: FORMAT and the full reset ====
section
/-!
What FORMAT (O46) and a full reset (O47) leave. Both end with the refresh of the counter line and the controller's choice, which
touch the line alone; `State.lineRefreshed` says how the line stands then. The other operations of a FORMAT touch drives, picker and
link alone.
-/
namespace Sys2Proof.Machine

-- The counters of the line ------------------------------------------------------------------------------------

/-- A round of distinct counters, each changed by the fees in force, changes those counters and no other. -/
theorem foldl_modCounter_counters (f : Fees → CounterNo → Counter → Counter) (n : CounterNo) :
    ∀ (ns : List CounterNo) (s : State), ns.Nodup →
      (ns.foldl (fun t m => t.modCounter m (f t.fees m)) s).line.counters[n] =
        if n ∈ ns then f s.fees n s.line.counters[n] else s.line.counters[n]
  | [], _, _ => rfl
  | m :: ns, s, hnodup => by
    obtain ⟨hm, hns⟩ := List.nodup_cons.mp hnodup
    rw [List.foldl_cons, foldl_modCounter_counters f n ns _ hns, State.modCounter_fees]
    rcases eq_or_ne n m with rfl | hne
    · simp [hm]
    · have hval : m.val ≠ n.val := fun e => hne (Fin.ext e.symm)
      simp [hne, Vector.getElem_set_ne _ _ hval]

theorem forCounters_modCounter_counters (f : Fees → CounterNo → Counter → Counter) (s : State) (n : CounterNo) :
    (s.forCounters fun m t => t.modCounter m (f t.fees m)).line.counters[n] = f s.fees n s.line.counters[n] := by
  rw [State.forCounters, foldl_modCounter_counters f n _ _ (by decide), if_pos (by revert n; decide)]

/-- The state differs from another one in its counter line alone. -/
def State.sameButLine (s t : State) : Prop := t = { s with line := t.line }

theorem State.sameButLine.trans {s t u : State} (h : s.sameButLine t) (k : t.sameButLine u) : s.sameButLine u := by
  rw [State.sameButLine, k, h]

theorem State.modLine_sameButLine (s : State) (f : Line → Line) : s.sameButLine (s.modLine f) := rfl

theorem State.modCounter_sameButLine (s : State) (n : CounterNo) (f : Counter → Counter) : s.sameButLine (s.modCounter n f) := rfl

theorem forCounters_sameButLine {f : CounterNo → State → State} (h : ∀ n t, State.sameButLine t (f n t)) (s : State) :
    s.sameButLine (s.forCounters f) :=
  forCounters_kept s (P := s.sameButLine) (fun n t ht => ht.trans (h n t)) rfl

theorem startPollTimer_sameButLine (s : State) : s.sameButLine (startPollTimer s) := rfl

theorem refreshLine_sameButLine (s : State) : s.sameButLine (refreshLine s) :=
  ((forCounters_sameButLine (fun n t => t.modCounter_sameButLine n _) s).trans (State.modLine_sameButLine _ _)).trans
    (startPollTimer_sameButLine _)

theorem lineChoose_sameButLine (s : State) : s.sameButLine (lineChoose s) := by
  simp only [lineChoose, beginPost, beginPoll]
  repeat' split
  all_goals rfl

/-- A line `l` as the refresh in state `s` leaves it (R18, R182): each counter has one refresh item of its account's balance and no
due mark, its presence and failures are as they were, and the poll timer runs for the poll interval in force. -/
structure State.lineRefreshed (s : State) (l : Line) : Prop where
  poll : l.poll = some (s.now + s.cfg.timing.poll.quarters)
  posts (n : CounterNo) : (l.counters[n]).posts = [refreshItem (s.fees.accounts[accountOfCounter n]).pending]
  due (n : CounterNo) : (l.counters[n]).due = false
  present (n : CounterNo) : (l.counters[n]).present = (s.line.counters[n]).present
  failures (n : CounterNo) : (l.counters[n]).failures = (s.line.counters[n]).failures

/-- What a refresh makes of a counter (R182). -/
def Fees.refresh (u : Fees) (n : CounterNo) (c : Counter) : Counter :=
  { c with due := false, posts := [refreshItem (u.accounts[accountOfCounter n]).pending] }

theorem refreshLine_counters (s : State) (n : CounterNo) :
    (refreshLine s).line.counters[n] = s.fees.refresh n s.line.counters[n] :=
  forCounters_modCounter_counters Fees.refresh s n

theorem refreshLine_poll (s : State) : (refreshLine s).line.poll = some (s.now + s.cfg.timing.poll.quarters) := by
  have started : (refreshLine s).line.poll = some ((refreshLine s).now + (refreshLine s).cfg.timing.poll.quarters) := rfl
  rw [started, refreshLine_sameButLine s]

theorem refreshLine_lineRefreshed (s : State) : s.lineRefreshed (refreshLine s).line where
  poll := refreshLine_poll s
  posts n := by rw [refreshLine_counters, Fees.refresh]
  due n := by rw [refreshLine_counters, Fees.refresh]
  present n := by rw [refreshLine_counters, Fees.refresh]
  failures n := by rw [refreshLine_counters, Fees.refresh]

theorem beginPost_counters (n : CounterNo) (s : State) : (beginPost n s).line.counters = s.line.counters := by
  unfold beginPost
  split <;> rfl

theorem beginPost_poll (n : CounterNo) (s : State) : (beginPost n s).line.poll = s.line.poll := by
  unfold beginPost
  split <;> rfl

/-- A poll of a counter that is not due changes no counter. -/
theorem beginPoll_counters {n : CounterNo} {s : State} (h : (s.line.counters[n]).due = false) :
    (beginPoll n s).line.counters = s.line.counters := by
  have same : { s.line.counters[n] with due := false } = s.line.counters[n] := by rw [← h]
  change s.line.counters.set n.val { s.line.counters[n] with due := false } n.isLt = s.line.counters
  rw [same]
  exact Vector.set_getElem_self ..

/-- With no counter due, the controller's choice changes no counter and not the poll timer. -/
theorem lineChoose_counters_poll {s : State} (h : ∀ n : CounterNo, (s.line.counters[n]).due = false) :
    (lineChoose s).line.counters = s.line.counters ∧ (lineChoose s).line.poll = s.line.poll := by
  unfold lineChoose
  repeat' split
  · exact ⟨beginPost_counters .., beginPost_poll ..⟩
  · exact ⟨beginPoll_counters (h _), rfl⟩
  all_goals exact ⟨rfl, rfl⟩

theorem State.lineRefreshed.congr {s : State} {l k : Line} (h : s.lineRefreshed l) (hcounters : k.counters = l.counters)
    (hpoll : k.poll = l.poll) : s.lineRefreshed k := by
  obtain ⟨poll, posts, due, present, failures⟩ := h
  exact ⟨hpoll ▸ poll, hcounters ▸ posts, hcounters ▸ due, hcounters ▸ present, hcounters ▸ failures⟩

/-- The refresh of the line and the controller's choice after it. -/
theorem lineChoose_refreshLine (s : State) : ∃ l, lineChoose (refreshLine s) = { s with line := l } ∧ s.lineRefreshed l := by
  have fresh := refreshLine_lineRefreshed s
  obtain ⟨counters, poll⟩ := lineChoose_counters_poll fresh.due
  exact ⟨_, (refreshLine_sameButLine s).trans (lineChoose_sameButLine _), fresh.congr counters poll⟩

-- The full reset ----------------------------------------------------------------------------------------------

theorem initial_counters (n : CounterNo) : Line.initial.counters[n] = Counter.initial := Vector.getElem_replicate ..

theorem execFullReset_marked {s : State} (hmark : s.formatMark = true) (cause : ResetCause) :
    exec (.fullReset cause true) s = .next (resetReady { s with resetHeld := decide (cause = .resetInput) }) := by
  simp only [exec, execFullReset, fullReset, hmark, Bool.and_true, if_true]

theorem execFullReset_unmarked {s : State} {memoryKept : Bool} (h : s.formatMark = false ∨ memoryKept = false) (cause : ResetCause) :
    exec (.fullReset cause memoryKept) s = .next (resetUnformatted { s with resetHeld := decide (cause = .resetInput) }) := by
  have unmarked : (s.formatMark && memoryKept) = false := Bool.and_eq_false_iff.mpr h
  simp only [exec, execFullReset, fullReset, unmarked, Bool.false_eq_true, if_false]

/-- Settles O47: what the reset writes, then the line's refresh, which touches nothing else. -/
theorem fullResetKeepsLastingState : Obligations.FullResetKeepsLastingState := by
  refine fun cause memoryKept s => ⟨?_, fun h => ?_, rfl⟩
  · rintro hmark rfl
    obtain ⟨l, hl, refreshed⟩ := lineChoose_refreshLine (clearVolatile s.window
      { s with resetHeld := decide (cause = .resetInput), condition := .ready, mechReset := true, dir := { s.dir with reserved := 0 }
               lib := s.lib.afterReset })
    refine ⟨_, (execFullReset_marked hmark cause).trans (congrArg Host.Outcome.next hl), rfl, hmark, rfl, rfl, rfl, rfl, rfl, rfl,
      rfl, rfl, rfl, rfl, rfl, rfl, rfl, rfl, rfl, refreshed.poll, fun n => ?_⟩
    refine ⟨(refreshed.present n).trans ?_, (refreshed.failures n).trans ?_, refreshed.due n, refreshed.posts n⟩
    all_goals exact congrArg _ (initial_counters n)
  · rw [execFullReset_unmarked h]
    rfl

-- FORMAT ------------------------------------------------------------------------------------------------------

/-- With no STALLED drive, the judging of the outputs wakes none. -/
theorem judgeOut_of_no_stalled {s : State} (h : ∀ d : DriveNo, (s.drives[d]).state ≠ .stalled) :
    judgeOut s = s.modLink (Link.judgeOut s.cfg.levels) := by
  simp only [judgeOut]
  split
  · refine forDrives_kept _ (P := fun t => t = s.modLink (Link.judgeOut s.cfg.levels)) (fun d t ht => ?_) rfl
    rw [chooseIfStalled, if_neg fun stalled => h d (by rw [← stalled.1, ht]; rfl), ht]
  · rfl

theorem judgeDefaults_eq {s : State} (h : ∀ d : DriveNo, (s.drives[d]).state ≠ .stalled) :
    ∃ p k, judgeDefaults s = { s with picker := p, link := k } ∧ k.notices = s.link.notices := by
  rw [judgeDefaults, judgeOut_of_no_stalled (s := s.modLink _) h]
  exact ⟨_, _, rfl, rfl⟩

/-- The state differs from another one in its drives alone. -/
def State.sameButDrives (s t : State) : Prop := t = { s with drives := t.drives }

theorem State.sameButDrives.trans {s t u : State} (h : s.sameButDrives t) (k : t.sameButDrives u) : s.sameButDrives u := by
  rw [State.sameButDrives, k, h]

theorem forDrives_sameButDrives {f : DriveNo → State → State} (h : ∀ d t, State.sameButDrives t (f d t)) (s : State) :
    s.sameButDrives (s.forDrives f) :=
  forDrives_kept s (P := s.sameButDrives) (fun d t ht => ht.trans (h d t)) rfl

theorem unrecordDrive_sameButDrives (d : DriveNo) (s : State) : s.sameButDrives (unrecordDrive d s) := rfl

theorem askRelease_sameButDrives (d : DriveNo) (s : State) : s.sameButDrives (askRelease d s) := by
  simp only [askRelease]
  repeat' split
  all_goals rfl

theorem releaseUnrecorded_sameButDrives (d : DriveNo) (s : State) : s.sameButDrives (releaseUnrecorded d s) := by
  rw [releaseUnrecorded]
  split
  · exact askRelease_sameButDrives d s
  · rfl

theorem releaseDrives_sameButDrives (s : State) : s.sameButDrives (releaseDrives s) :=
  (forDrives_sameButDrives unrecordDrive_sameButDrives s).trans (forDrives_sameButDrives releaseUnrecorded_sameButDrives _)

theorem formatLine_eq (s : State) : ∃ l, formatLine s = { s with line := l } ∧ s.lineRefreshed l := by
  obtain ⟨l, hl, poll, posts, due, present, failures⟩ :=
    lineChoose_refreshLine (s.modLine fun l => { l with trans := l.trans.map Transaction.orphaned })
  exact ⟨l, hl, poll, posts, due, present, failures⟩

theorem State.ringsEmpty_iff {s : State} : s.ringsEmpty = true ↔ ∀ r : Fin 7, (s.rings[r]).entries = [] := by
  simp [State.ringsEmpty, Fin.forall_fin_succ]

theorem Drive.quiet_iff {r : Drive} : r.quiet = true ↔ r.state = .empty ∨ r.state = .idle ∨ r.fitted = false := by
  simp [Drive.quiet, or_assoc]

theorem allDrives_all {f : DriveNo → Bool} : allDrives.all f = true ↔ ∀ d, f d = true := by
  simp [allDrives, Fin.forall_fin_succ]

theorem State.quiet_iff {s : State} : s.quiet = true ↔ s.fetch.queue = [] ∧ s.filing.table = [] ∧ s.picker.state = .idle ∧
    s.picker.active = none ∧ s.picker.queue = [] ∧ (∀ r : Fin 7, (s.rings[r]).entries = []) ∧
    ∀ d : DriveNo, (s.drives[d]).state = .empty ∨ (s.drives[d]).state = .idle ∨ (s.drives[d]).fitted = false := by
  simp only [State.quiet, Bool.and_eq_true, decide_eq_true_eq, Option.isNone_iff_eq_none, State.ringsEmpty_iff, allDrives_all,
    Drive.quiet_iff]
  tauto

/-- What a FORMAT taken in UNFORMATTED leaves (R16 to R18): the initial lasting state, but for picker, link and counter line. -/
theorem formatNew_eq {s : State} (h : ∀ d : DriveNo, (s.drives[d]).state ≠ .stalled) : ∃ p k l,
    formatNew s = { writeInitial s with mechReset := true, picker := p, link := k, line := l } ∧
      k.notices = s.link.notices ∧ (writeInitial s).lineRefreshed l := by
  obtain ⟨p, k, hjudged, hnotices⟩ := judgeDefaults_eq (s := { writeInitial s with mechReset := true }) h
  obtain ⟨l, hl, poll, posts, due, present, failures⟩ := formatLine_eq { writeInitial s with mechReset := true, picker := p, link := k }
  exact ⟨p, k, l, (congrArg formatLine hjudged).trans hl, hnotices, poll, posts, due, present, failures⟩

/-- What a FORMAT taken in READY leaves (R16 to R18): the initial lasting state, but for drives, picker, link and counter line. -/
theorem formatQuiet_eq {s : State} (h : ∀ d : DriveNo, (s.drives[d]).state ≠ .stalled) : ∃ ds p k l,
    formatQuiet s = { writeInitial s with drives := ds, picker := p, link := k, line := l } ∧
      k.notices = s.link.notices ∧ (writeInitial s).lineRefreshed l := by
  obtain ⟨p, k, hjudged, hnotices⟩ := judgeDefaults_eq (s := writeInitial s) h
  obtain ⟨ds, released⟩ : ∃ ds, releaseDrives { writeInitial s with picker := p, link := k } =
    { writeInitial s with drives := ds, picker := p, link := k } := ⟨_, releaseDrives_sameButDrives _⟩
  obtain ⟨l, hl, poll, posts, due, present, failures⟩ := formatLine_eq { writeInitial s with drives := ds, picker := p, link := k }
  refine ⟨ds, p, k, l, ?_, hnotices, poll, posts, due, present, failures⟩
  rw [formatQuiet, hjudged, released, hl]

theorem takeFormat_unformatted {s : State} (h : s.condition = .unformatted) (tag : Byte) :
    takeFormat tag s = answer tag .done (formatNew s) := by
  rw [takeFormat, h]

theorem takeFormat_quiet {s : State} (h : s.condition = .ready) (hquiet : s.quiet = true) (tag : Byte) :
    takeFormat tag s = answer tag .done (formatQuiet s) := by
  rw [takeFormat, h]
  exact if_pos hquiet

theorem takeFormat_busy {s : State} (h : s.condition = .ready) (hbusy : ¬ s.quiet = true) (tag : Byte) :
    takeFormat tag s = answer tag (.refused .libraryBusy) s := by
  rw [takeFormat, h]
  exact if_neg hbusy

/-- What a FORMAT that is not refused leaves, in either condition. -/
theorem takeFormat_taken {s : State} (h : s.condition = .unformatted ∨ s.quiet = true)
    (hstalled : ∀ d : DriveNo, (s.drives[d]).state ≠ .stalled) (tag : Byte) : ∃ ds p k l,
      takeFormat tag s = answer tag .done
        { writeInitial s with mechReset := s.mechReset || decide (s.condition = .unformatted)
                              drives := ds, picker := p, link := k, line := l } ∧
      k.notices = s.link.notices ∧ (writeInitial s).lineRefreshed l := by
  cases hc : s.condition with
  | unformatted =>
    obtain ⟨p, k, l, hs, spec⟩ := formatNew_eq hstalled
    refine ⟨s.drives, p, k, l, ?_, spec⟩
    rw [takeFormat_unformatted hc, hs, decide_eq_true rfl, Bool.or_true]
    rfl
  | ready =>
    obtain ⟨ds, p, k, l, hs, spec⟩ := formatQuiet_eq hstalled
    refine ⟨ds, p, k, l, ?_, spec⟩
    rw [takeFormat_quiet hc (h.resolve_left (by simp [hc])), hs, decide_eq_false Condition.noConfusion, Bool.or_false]
    rfl

theorem initial_rings (r : Fin 7) : (Vector.replicate 7 PageRing.initial)[r] = PageRing.initial := Vector.getElem_replicate ..

theorem initial_accounts (a : Fin 13) : Fees.initial.accounts[a] = Account.initial := Vector.getElem_replicate ..

/-- Settles O46: refused when the library is not quiet, else the state `takeFormat_taken` gives. -/
theorem formatWritesTheInitialState : Obligations.FormatWritesTheInitialState := by
  intro tag s hf quiet hquiet
  obtain rfl := propext (hquiet.trans State.quiet_iff.symm)
  have taken : exec (.format tag) s = .next (arbitrate (takeFormat tag s)) := congrArg Host.Outcome.next (offer_free hf)
  rw [taken]
  refine ⟨fun hready hbusy => ?_, fun h hstalled => ?_⟩
  · rw [takeFormat_busy hready hbusy]
  · obtain ⟨ds, p, k, l, ht, hnotices, refreshed⟩ := takeFormat_taken h hstalled tag
    refine ⟨_, congrArg (fun t => Host.Outcome.next (arbitrate t)) ht, rfl, rfl, rfl, rfl, rfl, rfl, rfl, rfl, rfl, rfl, rfl, rfl, rfl,
      hnotices, fun r => ?_, refreshed.poll, fun n => ⟨(refreshed.posts n).trans ?_, refreshed.present n⟩⟩
    · refine ⟨?_, ?_, ?_⟩
      all_goals exact congrArg _ (initial_rings r)
    · exact congrArg (fun a : Account => [refreshItem a.pending]) (initial_accounts _)

end Sys2Proof.Machine
end

-- ==== Proofs: titles opened, reclassed and retired ====
section
/-!
NEW_TITLE and SET_CLASS (O18) and RETIRE (O19): the checks of each request in order, then what it does to the directory.
-/
namespace Sys2Proof.Machine

variable {s : State} {tag : Byte} {title : Word24}

-- NEW_TITLE and SET_CLASS -------------------------------------------------------------------------------------

theorem feeClassOf_none {b : Byte} (h : 8 ≤ b.toNat) : feeClassOf b = none := dif_neg (Nat.not_lt.mpr h)

theorem feeClassOf_some {b : Byte} {c : Fin 8} (h : b.toNat = c.val) : feeClassOf b = some c :=
  (dif_pos (h ▸ c.isLt)).trans (congrArg some (Fin.ext h))

theorem exec_newTitle_served (hs : s.serves = true) (tag : Byte) (title : Word24) (cls : Byte) :
    exec (.newTitle tag title cls) s = .next (arbitrate (takeNewTitle tag title cls s)) :=
  congrArg Host.Outcome.next (offer_free (State.serves_spec hs).1)

theorem exec_setClass_served (hs : s.serves = true) (tag : Byte) (title : Word24) (cls : Byte) :
    exec (.setClass tag title cls) s = .next (arbitrate (takeSetClass tag title cls s)) :=
  congrArg Host.Outcome.next (offer_free (State.serves_spec hs).1)

/-- The first check of NEW_TITLE and of SET_CLASS is on the fields alone (Table 2-1, R25). -/
theorem take_titleClass_badField (hready : s.condition = .ready) (tag : Byte) {cls : Byte} (h : title = 0 ∨ 8 ≤ cls.toNat) :
    takeNewTitle tag title cls s = answer tag (.refused .badField) s ∧
      takeSetClass tag title cls s = answer tag (.refused .badField) s := by
  rw [takeNewTitle, takeSetClass, screened_ready hready, screened_ready hready]
  cases hc : feeClassOf cls with
  | none => exact ⟨rfl, rfl⟩
  | some c =>
    obtain rfl := h.resolve_right fun h => by simp [feeClassOf_none h] at hc
    exact ⟨rfl, rfl⟩

/-- A NEW_TITLE of good fields: the two checks left of Table 2-1, then the creation (R23, R24). -/
theorem takeNewTitle_formed (hready : s.condition = .ready) (h0 : title ≠ 0) {cls : Byte} {c : Fin 8} (hc : cls.toNat = c.val) :
    takeNewTitle tag title cls s =
      if (s.title? title.toNat).isSome then answer tag (.refused .titleExists) s
      else if Config.maxTitles ≤ s.dir.count then answer tag (.refused .directoryFull) s
      else answer tag (.newTitle title.toNat (s.dir.count + 1)) (addTitle (TitleRecord.fresh title.toNat c) s) := by
  simp only [takeNewTitle, screened_ready hready, feeClassOf_some hc, if_neg (toNat_ne_zero h0), refuse]

/-- A SET_CLASS of good fields whose title is not held. -/
theorem takeSetClass_unknown (hready : s.condition = .ready) (h0 : title ≠ 0) {cls : Byte} {c : Fin 8} (hc : cls.toNat = c.val)
    (hn : s.title? title.toNat = none) : takeSetClass tag title cls s = answer tag (.refused .unknownTitle) s := by
  simp only [takeSetClass, screened_ready hready, feeClassOf_some hc, if_neg (toNat_ne_zero h0), hn, refuse]

/-- A SET_CLASS of good fields at a held title: the last check, then the change (R25). -/
theorem takeSetClass_held (hready : s.condition = .ready) (h0 : title ≠ 0) {cls : Byte} {c : Fin 8} (hc : cls.toNat = c.val)
    {r : TitleRecord} (hr : s.title? title.toNat = some r) : takeSetClass tag title cls s =
      if r.status = .closed then answer tag (.refused .titleClosed) s
      else answer tag (.setClass r.feeClass.val c.val) (s.modTitle title.toNat fun q => { q with feeClass := c }) := by
  simp only [takeSetClass, screened_ready hready, feeClassOf_some hc, if_neg (toNat_ne_zero h0), hr, refuse]

/-- Settles O18, check by check of Table 2-1 and R25; the new record goes to its place by `insertTitle`. -/
theorem titlesAreOpenedAndReclassed : Obligations.TitlesAreOpenedAndReclassed := by
  intro tag title cls s hs
  obtain ⟨-, hready⟩ := State.serves_spec hs
  rw [exec_newTitle_served hs, exec_setClass_served hs]
  refine ⟨⟨fun h => ?_, fun h0 hc hheld => ?_, fun h0 hc hn hfull => ?_, fun c h0 hc hn hroom => ?_⟩, fun h => ?_,
    fun h0 hc hn => ?_, fun c r h0 hc hr => ⟨fun hclosed => ?_, fun hactive => ?_⟩⟩
  · rw [(take_titleClass_badField hready tag h).1]
  · rw [takeNewTitle_formed hready h0 (c := ⟨cls.toNat, hc⟩) rfl, if_pos hheld]
  · rw [takeNewTitle_formed hready h0 (c := ⟨cls.toNat, hc⟩) rfl, if_neg (by simp [hn]),
      if_pos (show Config.maxTitles ≤ s.dir.count from hfull)]
  · refine ⟨insertTitle (TitleRecord.fresh title.toNat c) s.dir.titles, ?_, insertTitle_perm _ _,
      insertTitle_ascending _ _ (State.title?_none hn)⟩
    rw [takeNewTitle_formed hready h0 hc, if_neg (by simp [hn]),
      if_neg (show ¬ Config.maxTitles ≤ s.dir.count from Nat.not_le.mpr hroom)]
    rfl
  · rw [(take_titleClass_badField hready tag h).2]
  · rw [takeSetClass_unknown hready h0 (c := ⟨cls.toNat, hc⟩) rfl hn]
  · rw [takeSetClass_held hready h0 hc hr, if_pos hclosed]
  · rw [takeSetClass_held hready h0 hc hr, if_neg (by simp [hactive])]
    rfl

-- RETIRE ------------------------------------------------------------------------------------------------------

/-- The four checks of R29 on one successor. -/
theorem State.successorFault_eq_none {n : Nat} {earlier : List Nat} {t : Nat} :
    s.successorFault n earlier t = none ↔ s.goodSuccessor n earlier t := by
  unfold State.successorFault State.goodSuccessor
  cases s.title? t with
  | none => simp [ite_some_eq_none]
  | some r => cases h : r.status <;> simp [ite_some_eq_none, h]

/-- The fault of a successor that is not good: the first of R29's checks that fails. -/
theorem State.successorFault_of_bad {n : Nat} {earlier : List Nat} {t : Nat} (h : ¬ s.goodSuccessor n earlier t) :
    s.successorFault n earlier t = some (if t = n then .self
      else if s.title? t = none then .unknown
      else if (s.title? t).any (fun q => decide (q.status = .closed)) then .closed
      else .duplicate) := by
  rw [← State.successorFault_eq_none] at h
  unfold State.successorFault at h ⊢
  cases hr : s.title? t with
  | none => simp only [if_true]; split <;> rfl
  | some r =>
    simp only [hr] at h ⊢
    repeat' split
    all_goals simp_all

/-- Good successors are passed over by the search, which counts them and remembers them (R29). -/
theorem State.firstFault_append {n : Nat} (ts : List Nat) : ∀ (a earlier : List Nat) (p : Nat),
    (∀ (b : List Nat) (y : Nat) (c : List Nat), a = b ++ y :: c → s.goodSuccessor n (earlier ++ b) y) →
      s.firstFault n earlier p (a ++ ts) = s.firstFault n (earlier ++ a) (p + a.length) ts
  | [], earlier, p, _ => by simp
  | x :: a, earlier, p, good => by
    have hx : s.successorFault n earlier x = none :=
      State.successorFault_eq_none.mpr (by simpa using good [] x a rfl)
    have rest := State.firstFault_append ts a (earlier ++ [x]) (p + 1) fun b y c e => by
      simpa using good (x :: b) y c (by rw [e]; rfl)
    rw [List.cons_append, State.firstFault, hx]
    simpa [Nat.add_assoc, Nat.add_comm 1] using rest

/-- A list of good successors has no fault. -/
theorem State.firstFault_good {n : Nat} {ts : List Nat}
    (good : ∀ (a : List Nat) (x : Nat) (b : List Nat), ts = a ++ x :: b → s.goodSuccessor n a x) :
    s.firstFault n [] 1 ts = none := by
  have h := State.firstFault_append (s := s) (n := n) [] ts [] 1 good
  rwa [List.append_nil] at h

/-- After good successors the first that is not good is the fault found. -/
theorem State.firstFault_bad {n : Nat} {a b : List Nat} {x : Nat}
    (good : ∀ (p : List Nat) (y : Nat) (q : List Nat), a = p ++ y :: q → s.goodSuccessor n p y) {f : SuccessorFault}
    (hf : s.successorFault n a x = some f) : s.firstFault n [] 1 (a ++ x :: b) = some (a.length + 1, f) := by
  rw [State.firstFault_append _ a [] 1 good, List.nil_append, State.firstFault, hf, Nat.add_comm]

theorem retireFormed_iff {count : Byte} {successors : List Word24} : retireFormed title count successors [] = true ↔
    title ≠ 0 ∧ 1 ≤ count.toNat ∧ count.toNat ≤ 8 ∧ successors.length = count.toNat := by
  have zero : title.toNat ≠ 0 ↔ title ≠ 0 := ⟨fun h e => h (by simp [e]), toNat_ne_zero⟩
  simp only [retireFormed, Bool.and_eq_true, decide_eq_true_eq, zero, and_true, and_assoc]

/-- A RETIRE of at most eight successors and no stray byte passes the header's check (Table 11-3). -/
theorem exec_retire_served (hs : s.serves = true) (tag : Byte) (title : Word24) (count : Byte) {successors : List Word24}
    (h8 : successors.length ≤ 8) :
    exec (.retire tag title count successors []) s = .next (arbitrate
      (if retireFormed title count successors [] = true then retireTitle tag title.toNat (successors.map fun w => w.toNat) s
       else answer tag (.refused .badField) s)) := by
  obtain ⟨hf, hready⟩ := State.serves_spec hs
  refine (execRetire_free hf ..).trans ?_
  rw [if_pos ((lengthAllowed_retire _).mpr (by simp only [List.length_nil]; omega)), takeRetire, screened_ready hready, refuse]

/-- A RETIRE of an ACTIVE title: the checks left of R28, its successors, then the retirement (R29, R30). -/
theorem retireTitle_active {n : Nat} {successors : List Nat} {r : TitleRecord} (hr : s.title? n = some r)
    (ha : r.status = .active) : retireTitle tag n successors s =
      if s.isPending n then answer tag (.refused .titleBusy) s
      else if r.entries.any fun e => decide (e.kind = .caution) then answer tag (.refused .cautioned) s
      else match s.firstFault n [] 1 successors with
        | some (p, f) => answer tag (.badSuccessor p f) s
        | none => answer tag (.retire r.entries.length (closeTitle n successors r.entries.length s).dir.free)
            (closeTitle n successors r.entries.length s) := by
  have active : ¬ r.status = .closed := by simp [ha]
  rw [retireTitle, hr]
  exact if_neg active

/-- Settles O19: the form, the title and the successors item by item, then the closed record and the returned entries. -/
theorem retireClosesTheTitle : Obligations.RetireClosesTheTitle := by
  intro tag title count successors s hs h8
  rw [exec_retire_served hs tag title count h8]
  refine ⟨fun hbad => ?_, fun h0 h1 hle hlen => ?_⟩
  · rw [if_neg]
    rw [retireFormed_iff]
    rintro ⟨h0, h1, hle, hlen⟩
    rcases hbad with h | h | h | h
    · exact h0 h
    all_goals omega
  rw [if_pos (retireFormed_iff.mpr ⟨h0, h1, hle, hlen⟩)]
  refine ⟨fun hn => ?_, fun r hr => ⟨fun hc => ?_, fun ha hp => ?_, fun ha hp hcaution => ?_, fun ha hp hfree => ?_⟩⟩
  · simp only [retireTitle, hn, refuse]
  · simp only [retireTitle, hr, if_pos hc, refuse]
  · rw [retireTitle_active hr ha, if_pos hp]
  · rw [retireTitle_active hr ha, if_neg (by simp [hp]), if_pos (by simpa using hcaution)]
  · rw [retireTitle_active hr ha, if_neg (by simp [hp]), if_neg (by simpa using hfree)]
    refine ⟨fun a x b hsplit good hbad => ?_, fun good => ?_⟩
    · rw [hsplit, State.firstFault_bad good (State.successorFault_of_bad hbad)]
    · rw [State.firstFault_good good]
      rfl

end Sys2Proof.Machine
end

-- ==== Proofs: the bench ====
section
/-!
SUPPORT for the proofs of family 02. What the work of the drives, the picker and the allocator leaves as it was: the figures of the
sides, the filing ring, the orders of the fetch queue, the lodgement in hand, the work lists and the request link. One frame lemma for
each operation, beside those of `State.shell` and `State.claims`; then all that the write engine does in asking for a side.
-/
namespace Sys2Proof.Machine

/-- The figures of a side that only an ending of a run changes (R46, R142, R144). -/
def SideRecord.figures (r : SideRecord) : Nat × Nat × Nat := (r.nextFree, r.defects, r.errors)

/-- The figures of each side held. -/
def State.figures (s : State) (sd : SideId) : Option (Nat × Nat × Nat) := (s.side? sd).map SideRecord.figures

/-- What the drives, the picker and the allocator work on and leave. -/
structure Bench where
  figures : SideId → Option (Nat × Nat × Nat)
  pages   : PageRing
  orders  : List Nat
  inHand  : Option Nat
  work    : DriveNo → List Work
  link    : Link

/-- The bench of a state. -/
def State.bench (s : State) : Bench where
  figures := s.figures
  pages := s.rings[filingRing]
  orders := s.fetch.queue.map fun o => o.number
  inHand := s.inHand
  work := fun d => (s.drives[d]).work
  link := s.link

variable (s : State)

-- Updates of one group ----------------------------------------------------------------------------------------

/-- Changing a drive's record changes that drive and no other. -/
theorem State.modDrive_get (d x : DriveNo) (f : Drive → Drive) :
    (s.modDrive d f).drives[x] = if x = d then f s.drives[x] else s.drives[x] := by
  rcases eq_or_ne x d with rfl | hne
  · simp
  · have hval : d.val ≠ x.val := fun e => hne (Fin.ext e.symm)
    simp [hne, Vector.getElem_set_ne _ _ hval]

/-- A change of a cartridge record that keeps its number and its sides' figures keeps the figures. -/
theorem State.modCart_figures (c : Nat) (f : Cartridge → Cartridge) (hn : ∀ r, (f r).number = r.number)
    (hf : ∀ r a, ((f r).sideRecord a).figures = (r.sideRecord a).figures) : (s.modCart c f).figures = s.figures := by
  funext sd
  simp only [State.figures, State.side?, State.cart?_modCart s c sd.cart f hn, Option.map_map]
  refine congrArg (fun g => (s.cart? sd.cart).map g) (funext fun r => ?_)
  simp only [Function.comp_apply]
  split
  · exact hf r sd.side
  · rfl

@[simp] theorem State.modPicker_bench (f : Picker → Picker) : (s.modPicker f).bench = s.bench := rfl
@[simp] theorem State.modLodgement_bench (n : Nat) (f : Lodgement → Lodgement) : (s.modLodgement n f).bench = s.bench := rfl

@[simp] theorem State.modDrive_bench (d : DriveNo) (f : Drive → Drive) (hf : ∀ r, (f r).work = r.work) :
    (s.modDrive d f).bench = s.bench := by
  have work : ∀ x : DriveNo, ((s.modDrive d f).drives[x]).work = (s.drives[x]).work := fun x => by
    rw [State.modDrive_get]
    split
    · exact hf _
    · rfl
  exact congrArg (fun w => { s.bench with work := w }) (funext work)

@[simp] theorem State.modRing_bench (d : DriveNo) (f : PageRing → PageRing) :
    (s.modRing (driveRing d) f).bench = s.bench := by
  have pages : (s.modRing (driveRing d) f).rings[filingRing] = s.rings[filingRing] :=
    Vector.getElem_set_ne (driveRing d).isLt filingRing.isLt (Nat.ne_of_lt d.isLt)
  exact congrArg (fun g => { s.bench with pages := g }) pages

@[simp] theorem State.modOrder_bench (n : Nat) (f : FetchOrder → FetchOrder) (hf : ∀ o, (f o).number = o.number) :
    (s.modOrder n f).bench = s.bench :=
  congrArg (fun ns => { s.bench with orders := ns }) (map_key_map (fun o : FetchOrder => o.number) f hf n s.fetch.queue)

/-- A new home slot is no side's figure. -/
@[simp] theorem setHome_bench (c : Option Nat) (n : Nat) : (setHome c n s).bench = s.bench := by
  cases c with
  | none => rfl
  | some c =>
    have figures := s.modCart_figures c (fun r => { r with home := some n }) (fun _ => rfl) fun r a => by cases a <;> rfl
    exact congrArg (fun g => { s.bench with figures := g }) figures

theorem forDrives_bench {f : DriveNo → State → State} (h : ∀ d t, (f d t).bench = t.bench) :
    (s.forDrives f).bench = s.bench :=
  forDrives_kept s (P := fun t => t.bench = s.bench) (fun d t ht => (h d t).trans ht) rfl

theorem foldl_bench {α : Type} {f : State → α → State} (h : ∀ t x, (f t x).bench = t.bench) (xs : List α) :
    (xs.foldl f s).bench = s.bench :=
  foldl_kept (P := fun t => t.bench = s.bench) (fun t x ht => (h t x).trans ht) xs s rfl

-- Picker, drives and allocator --------------------------------------------------------------------------------

@[simp] theorem recordStart_bench : (recordStart s).bench = s.bench := rfl
@[simp] theorem setActive_bench (t : Task) (p : PickPoint) : (setActive t p s).bench = s.bench := rfl
@[simp] theorem enqueue_bench (t : Task) : (enqueue t s).bench = s.bench := rfl

@[simp] theorem dropReservation_bench (d : DriveNo) : (dropReservation d s).bench = s.bench := by simp [dropReservation]

@[simp] theorem beginTask_bench (t : Task) (p : PickPoint) : (beginTask t p s).bench = s.bench := by
  simp only [beginTask]
  split <;> simp

@[simp] theorem pickerChoose_bench : (pickerChoose s).bench = s.bench := by
  simp only [pickerChoose]
  repeat' split
  all_goals simp

@[simp] theorem lingerJudge_bench (d : DriveNo) : (lingerJudge d s).bench = s.bench := by simp [lingerJudge]

@[simp] theorem askRelease_bench (d : DriveNo) : (askRelease d s).bench = s.bench := by
  simp only [askRelease]
  repeat' split
  all_goals simp

@[simp] theorem releaseUnrecorded_bench (d : DriveNo) : (releaseUnrecorded d s).bench = s.bench := by
  simp only [releaseUnrecorded]
  split <;> simp

@[simp] theorem allocateSide_bench (sd : SideId) : (allocateSide s sd).bench = s.bench := by
  simp only [allocateSide]
  repeat' split
  all_goals simp [allocate]

@[simp] theorem runAllocator_bench : (runAllocator s).bench = s.bench := by
  simp only [runAllocator]
  repeat' split
  all_goals simp [foldl_bench _ allocateSide_bench]

/-- Work that joins a drive goes to the tail of its list (R66). -/
theorem workJoin_bench (d : DriveNo) (w : Work) :
    (workJoin d w s).bench = (s.modDrive d fun r => { r with work := r.work ++ [w], linger := none }).bench := by
  simp only [workJoin]
  repeat' split
  all_goals simp

@[simp] theorem judgePin_bench (d : DriveNo) : (judgePin d s).bench = s.bench := by
  simp only [judgePin]
  repeat' split
  all_goals simp

@[simp] theorem judgePins_bench : (judgePins s).bench = s.bench := forDrives_bench _ fun d t => judgePin_bench t d

-- Runs and choices --------------------------------------------------------------------------------------------

@[simp] theorem endRun_bench (d : DriveNo) : (endRun d s).bench = s.bench := by simp [endRun]

/-- A step of the lodgement in hand leaves it in hand. -/
theorem setStep_bench {s : State} {n : Nat} (h : s.inHand = some n) (k : EngineStep) : (setStep n k s).bench = s.bench :=
  congrArg (fun x => { s.bench with inHand := x }) h.symm

/-- The write run begins for the lodgement in hand, which stays in hand (R111, R140). -/
theorem beginWrite_bench {s : State} {d : DriveNo} {n : Nat} {e : Location} (h : s.readyWrite d = some (n, e)) :
    (beginWrite d n e s).bench = s.bench := by
  obtain ⟨hand, -⟩ := State.readyWrite_iff.mp h
  have taken : s.inHand = some n := by rw [State.inHand, hand]; rfl
  refine (State.modDrive_bench _ d _ ?_).trans (setStep_bench (s := s.modLodgement n _) taken .run)
  exact fun _ => rfl

@[simp] theorem settleIdle_bench (d : DriveNo) : (settleIdle d s).bench = s.bench := by
  simp only [settleIdle]
  repeat' split
  all_goals simp

@[simp] theorem holdRead_bench (d : DriveNo) : (holdRead d s).bench = s.bench := by
  simp only [holdRead]
  split
  · next h => exact beginWrite_bench h
  · simp

@[simp] theorem chooseRead_bench (d : DriveNo) (o : FetchOrder) : (chooseRead d o s).bench = s.bench := by
  simp only [chooseRead, beginIndexRead, beginPageRead]
  repeat' split
  all_goals simp

@[simp] theorem choose_bench (d : DriveNo) : (choose d s).bench = s.bench := by
  simp only [choose]
  repeat' split
  · exact chooseRead_bench ..
  · next h => exact beginWrite_bench h
  · exact chooseRead_bench ..
  · exact settleIdle_bench ..

@[simp] theorem chooseIfFree_bench (d : DriveNo) : (chooseIfFree d s).bench = s.bench := by
  simp only [chooseIfFree]
  split <;> simp

-- The write engine asks for a side ----------------------------------------------------------------------------

/-- What the write engine spares, whatever it does with its lodgement: the sides' figures, the filing ring, the orders, and every notice
but that of missing filing space. -/
structure State.Spares (s t : State) : Prop where
  figures : t.figures = s.figures
  pages   : t.rings[filingRing] = s.rings[filingRing]
  orders  : (t.fetch.queue.map fun o => o.number) = s.fetch.queue.map fun o => o.number
  noted   : ∀ m : Notice, (∀ k, (Notice.noFilingSpace k).sameSubject m = false) → s.noted m → t.noted m

theorem State.Spares.of_bench {s t : State} (h : t.bench = s.bench) : s.Spares t where
  figures := congrArg Bench.figures h
  pages := congrArg Bench.pages h
  orders := congrArg Bench.orders h
  noted m _ hm := by
    have link : t.link = s.link := congrArg Bench.link h
    rwa [State.noted, link]

theorem State.Spares.trans {s t u : State} (h : s.Spares t) (k : t.Spares u) : s.Spares u where
  figures := k.figures.trans h.figures
  pages := k.pages.trans h.pages
  orders := k.orders.trans h.orders
  noted m hm hs := k.noted m hm (h.noted m hm hs)

/-- All that the bench sees of the write engine's asking for a side: write work of the lodgement in hand may join a drive, and a notice
of missing filing space may be queued (R136 to R138). -/
structure State.Asks (s t : State) : Prop extends State.Spares s t where
  inHand : t.inHand = s.inHand
  work   : ∀ (d : DriveNo) (n : Nat), Work.write n ∈ (t.drives[d]).work → Work.write n ∈ (s.drives[d]).work ∨ s.inHand = some n

theorem State.Asks.of_bench {s t : State} (h : t.bench = s.bench) : s.Asks t where
  toSpares := .of_bench h
  inHand := congrArg Bench.inHand h
  work d _ hw := by
    have work : (t.drives[d]).work = (s.drives[d]).work := congrFun (congrArg Bench.work h) d
    exact .inl (work ▸ hw)

theorem State.Asks.trans {s t u : State} (h : s.Asks t) (k : t.Asks u) : s.Asks u where
  toSpares := h.toSpares.trans k.toSpares
  inHand := k.inHand.trans h.inHand
  work d n hw := (k.work d n hw).elim (h.work d n) fun hn => .inr (h.inHand ▸ hn)

/-- A notice that is noted stays so when one of another kind or subject is queued (R194). -/
theorem State.noted.queueNotice {s : State} {m n : Notice} (h : s.noted m) (hs : n.sameSubject m = false) :
    (queueNotice n s).noted m := by
  rcases h with h | h
  · unfold Machine.queueNotice State.noted
    simp only [State.modLink_link]
    repeat' split
    · exact .inl (List.mem_map.mpr ⟨m, h, by simp [hs]⟩)
    · exact .inl (List.mem_append_left _ h)
    · exact .inr rfl
  · exact .inr (queueNotice_lost n s h)

theorem wantSpace_asks : s.Asks (wantSpace s) := by
  simp only [wantSpace]
  split
  · exact .of_bench rfl
  · exact ⟨⟨rfl, rfl, rfl, fun m hm h => State.noted.queueNotice h (hm _)⟩, rfl, fun _ _ => .inl⟩

/-- Write work of the lodgement in hand joins a drive (R66). -/
theorem workJoin_asks {s : State} {n : Nat} (h : s.inHand = some n) (d : DriveNo) : s.Asks (workJoin d (.write n) s) := by
  refine State.Asks.trans (t := s.modDrive d fun r => { r with work := r.work ++ [.write n], linger := none }) ?_
    (.of_bench (workJoin_bench s d (.write n)))
  refine ⟨⟨rfl, rfl, rfl, fun _ _ => id⟩, rfl, fun x m hw => ?_⟩
  rw [State.modDrive_get] at hw
  split at hw
  · rcases List.mem_append.mp hw with hw | hw
    · exact .inl hw
    · cases List.mem_singleton.mp hw
      exact .inr h
  · exact .inl hw

theorem joinReady_asks {s : State} {n : Nat} (h : s.inHand = some n) (d : DriveNo) : s.Asks (joinReady n d s) :=
  (State.Asks.of_bench (setStep_bench h .ready)).trans ((workJoin_asks rfl d).trans (.of_bench (judgePins_bench _)))

theorem seekDrive_asks {s : State} {n : Nat} (h : s.inHand = some n) (sd : SideId) : s.Asks (seekDrive n sd s) := by
  unfold seekDrive
  split
  · next d _ =>
    refine (joinReady_asks h d).trans (.of_bench ?_)
    simp
  · exact .of_bench ((runAllocator_bench _).trans (setStep_bench h .drive))

/-- A side's role is none of its figures. -/
theorem overflowSide_bench (sd : SideId) : (overflowSide sd s).bench = s.bench := by
  have figures : (s.modSide sd fun r => { r with role := .full }).figures = s.figures :=
    s.modCart_figures sd.cart _ (fun r => Cartridge.modSide_number ..) fun r a => by
      rw [Cartridge.sideRecord_modSide]
      split <;> rfl
  exact congrArg (fun g => { s.bench with figures := g }) figures

theorem askSide_asks (passes : Nat) : s.Asks (askSide passes s) := by
  induction passes generalizing s with
  | zero => exact .of_bench rfl
  | succ passes ih =>
    unfold askSide
    split
    · next n hand =>
      have taken : s.inHand = some n := by rw [State.inHand, hand]; rfl
      split
      · exact (wantSpace_asks s).trans (.of_bench (by simp))
      · next sd _ =>
        dsimp only
        split
        · split
          · -- The side takes the deed (R137).
            refine State.Asks.trans (.of_bench ?_) (seekDrive_asks ?_ sd)
            · exact (judgePins_bench _).trans rfl
            · exact (congrArg Bench.inHand (judgePins_bench _)).trans taken
          · -- It cannot, becomes FULL and is passed over (R137).
            refine State.Asks.trans (.of_bench ?_) (ih _)
            exact (overflowSide_bench _ sd).trans rfl
        · exact .of_bench rfl
    · exact .of_bench rfl

-- The next lodgement ------------------------------------------------------------------------------------------

/-- The earliest of the STAGED lodgements is one of them, where there is one (R135). -/
theorem foldl_earlierStaged (ls : List Lodgement) : ∀ best : Option Lodgement,
    (∃ m, ls.foldl (fun best l => some (earlierStaged l best)) best = some m ∧ (m ∈ ls ∨ best = some m)) ∨
      (ls = [] ∧ best = none) := by
  induction ls with
  | nil => rintro (_ | m) <;> simp
  | cons l ls ih =>
    intro best
    obtain ⟨m, hm, hmem⟩ := (ih (some (earlierStaged l best))).resolve_right fun h => nomatch h.2
    refine .inl ⟨m, hm, ?_⟩
    rcases hmem with hmem | hmem
    · exact .inl (List.mem_cons_of_mem _ hmem)
    · cases best with
      | none =>
        cases hmem
        exact .inl (List.mem_cons_self ..)
      | some b =>
        simp only [earlierStaged] at hmem
        split at hmem
        · cases hmem
          exact .inl (List.mem_cons_self ..)
        · exact .inr hmem

theorem State.nextStaged_some {s : State} {m : Lodgement} (h : s.nextStaged = some m) :
    m ∈ s.filing.table ∧ m.state = .staged := by
  rcases foldl_earlierStaged (s.filing.table.filter fun l => decide (l.state = .staged)) none with ⟨x, hx, hmem⟩ | hnone
  · cases hx.symm.trans h
    simpa using hmem.resolve_right nofun
  · rw [State.nextStaged, hnone.1] at h
    cases h

/-- The write engine keeps the lodgement in hand; with none it takes the next STAGED one, if there is one, and asks for a side
(R135, R136). -/
theorem engineTake_cases : s.Asks (engineTake s) ∧ (s.inHand = none → s.nextStaged = none) ∨
    ∃ m, s.nextStaged = some m ∧ State.Asks (setStep m.number .side s) (engineTake s) := by
  unfold engineTake
  cases hh : s.filing.hand with
  | some h => exact .inl ⟨.of_bench rfl, fun hn => by simp [State.inHand, hh] at hn⟩
  | none =>
    cases hm : s.nextStaged with
    | none => exact .inl ⟨.of_bench rfl, fun _ => rfl⟩
    | some m => exact .inr ⟨m, rfl, askSide_asks _ _⟩

theorem State.modFiling_spares (f : Filing → Filing) : s.Spares (s.modFiling f) := ⟨rfl, rfl, rfl, fun _ _ => id⟩

theorem engineTake_spares : s.Spares (engineTake s) := by
  rcases engineTake_cases s with ⟨asks, -⟩ | ⟨m, -, asks⟩
  · exact asks.toSpares
  · exact State.Spares.trans (s.modFiling_spares _) asks.toSpares

end Sys2Proof.Machine
end

-- ==== Proofs: the commit ====
section
/-!
O33: the commit of a lodgement whose verify run has read the extent back true (R34 to R36, R142, R143).
-/
namespace Sys2Proof.Machine

variable (s : State)

-- The lodgement is let go -------------------------------------------------------------------------------------

/-- A round of distinct drives, each changed alike, changes those drives and no other. -/
theorem foldl_modDrive_get (f : Drive → Drive) (x : DriveNo) : ∀ (ds : List DriveNo) (s : State), ds.Nodup →
    (ds.foldl (fun t d => t.modDrive d f) s).drives[x] = if x ∈ ds then f s.drives[x] else s.drives[x]
  | [], _, _ => rfl
  | d :: ds, s, hnodup => by
    obtain ⟨hd, hds⟩ := List.nodup_cons.mp hnodup
    rw [List.foldl_cons, foldl_modDrive_get f x ds _ hds, State.modDrive_get]
    rcases eq_or_ne x d with rfl | hne
    · simp [hd]
    · simp [hne]

theorem removeWrite_get (n : Nat) (x : DriveNo) : (removeWrite n s).drives[x] =
    { s.drives[x] with work := (s.drives[x]).work.filter fun w => w ≠ .write n } := by
  rw [removeWrite, State.forDrives, foldl_modDrive_get _ x _ _ (by decide), if_pos (by revert x; decide)]

theorem State.modDrive_sameButDrives (d : DriveNo) (f : Drive → Drive) : s.sameButDrives (s.modDrive d f) := rfl

theorem removeWrite_sameButDrives (n : Nat) : s.sameButDrives (removeWrite n s) :=
  forDrives_sameButDrives (fun d t => t.modDrive_sameButDrives d _) s

theorem judgePins_sameButDrives : s.sameButDrives (judgePins s) := by
  refine forDrives_sameButDrives (fun d t => ?_) s
  unfold judgePin
  dsimp only
  repeat' split
  all_goals rfl

/-- What differs in its drives alone is spared. -/
theorem State.sameButDrives.spares {s t : State} (h : s.sameButDrives t) : s.Spares t := by
  rw [h]
  exact ⟨rfl, rfl, rfl, fun _ _ => id⟩

theorem letGo_spares (n : Nat) : s.Spares (letGo n s) := by
  unfold letGo
  split
  · exact (s.modFiling_spares _).trans (removeWrite_sameButDrives _ n).spares
  · exact .of_bench rfl

/-- The lodgement in hand has gone: nothing is in hand, the table stands, and no drive has its write work (R66, R135). -/
theorem letGo_inHand {s : State} {n : Nat} (h : s.inHand = some n) : (letGo n s).filing = { s.filing with hand := none } ∧
    ∀ x : DriveNo, Work.write n ∉ ((letGo n s).drives[x]).work := by
  rw [letGo, if_pos h]
  refine ⟨congrArg State.filing (removeWrite_sameButDrives _ n), fun x => ?_⟩
  rw [removeWrite_get]
  simp

-- What the commit writes --------------------------------------------------------------------------------------

/-- The commit's first part, at the side: next-free passes the extent, and a side that runs low is reported (R142, R143). -/
def passExtent (e : Location) (s : State) : State :=
  warnSpace e.sideId (s.modSide e.sideId fun r => { r with nextFree := e.start + e.blocks })

/-- The commit up to its notice: side, title, pool and table (R34 to R36, R142). -/
def fileDeed (l : Lodgement) (e : Location) (s : State) : State :=
  let t := commitTitle l e (passExtent e s)
  queueNotice (.lodgementFiled l.number l.title (((t.title? l.title).map fun r => r.edition).getD 0)) (leaveTable l.number t)

/-- The commit files the deed, lets the lodgement go and has the engine and the drive go on (R142). -/
theorem commit_eq (d : DriveNo) (l : Lodgement) (e : Location) : commit d l e s =
    choose d (engineTake (judgePins (letGo l.number (endRun d (fileDeed l e s))))) := rfl

/-- The state differs from another one in its request link alone. -/
def State.sameButLink (s t : State) : Prop := t = { s with link := t.link }

theorem warnSpace_sameButLink (sd : SideId) : s.sameButLink (warnSpace sd s) := by
  unfold warnSpace
  dsimp only
  repeat' split
  all_goals rfl

theorem passExtent_eq (e : Location) : passExtent e s =
    { s with lib := (s.modSide e.sideId fun r => { r with nextFree := e.start + e.blocks }).lib
             link := (passExtent e s).link } := warnSpace_sameButLink _ e.sideId

theorem passExtent_lib (e : Location) :
    (passExtent e s).lib = (s.modSide e.sideId fun r => { r with nextFree := e.start + e.blocks }).lib := by rw [passExtent_eq]

theorem passExtent_rings (e : Location) : (passExtent e s).rings = s.rings := by rw [passExtent_eq]
theorem passExtent_fetch (e : Location) : (passExtent e s).fetch = s.fetch := by rw [passExtent_eq]
theorem passExtent_filing (e : Location) : (passExtent e s).filing = s.filing := by rw [passExtent_eq]
theorem passExtent_dir (e : Location) : (passExtent e s).dir = s.dir := by rw [passExtent_eq]
theorem passExtent_cfg (e : Location) : (passExtent e s).cfg = s.cfg := by rw [passExtent_eq]

theorem fileDeed_lib (l : Lodgement) (e : Location) :
    (fileDeed l e s).lib = (s.modSide e.sideId fun r => { r with nextFree := e.start + e.blocks }).lib := by
  simp [fileDeed, leaveTable, releaseLodgement, releaseIn, commitTitle, passExtent_lib]

theorem fileDeed_fetch (l : Lodgement) (e : Location) : (fileDeed l e s).fetch = s.fetch := by
  simp [fileDeed, leaveTable, releaseLodgement, releaseIn, commitTitle, passExtent_fetch]

/-- After the filing of the deed come only operations that spare it. -/
theorem commit_spares (d : DriveNo) (l : Lodgement) (e : Location) : (fileDeed l e s).Spares (commit d l e s) := by
  rw [commit_eq]
  refine State.Spares.trans (.of_bench (endRun_bench _ d)) ((letGo_spares _ l.number).trans ?_)
  exact (State.Spares.of_bench (judgePins_bench _)).trans ((engineTake_spares _).trans (.of_bench (choose_bench _ d)))

-- The directory -----------------------------------------------------------------------------------------------

theorem commitTitle_title? (l : Lodgement) (e : Location) (n : Nat) : (commitTitle l e s).title? n =
    (s.title? n).map fun r => if n = l.title then (r.install e).amend l.kind l.named else r := by
  have titles : (commitTitle l e s).title? n = (s.modTitle l.title fun r => (r.install e).amend l.kind l.named).title? n := by
    simp only [State.title?, commitTitle, State.modDir_dir, Directory.commitPool_titles]
  rw [titles, State.title?_modTitle _ _ _ _ fun r => by simp]

theorem commit_dir (d : DriveNo) (l : Lodgement) (e : Location) : (commit d l e s).dir = (commitTitle l e s).dir :=
  congrArg Register.dir (commit_register s d l e)

theorem commit_title? (d : DriveNo) (l : Lodgement) (e : Location) (n : Nat) : (commit d l e s).title? n =
    (s.title? n).map fun r => if n = l.title then (r.install e).amend l.kind l.named else r := by
  rw [← commitTitle_title?, State.title?, State.title?, commit_dir]

theorem passExtent_shell (e : Location) : (passExtent e s).shell = s.shell := by simp [passExtent]

theorem commit_shell (d : DriveNo) (l : Lodgement) (e : Location) :
    (commit d l e s).shell = (commitTitle l e (passExtent e s)).shell := by simp [commit_eq, fileDeed]

/-- The commit leaves the desk but for the directory. -/
theorem commit_desk (d : DriveNo) (l : Lodgement) (e : Location) :
    (commit d l e s).desk = { s.desk with dir := (commit d l e s).dir } := by
  have desk := desk_of_shell (commit_shell s d l e)
  have dir : (commit d l e s).dir = (commitTitle l e (passExtent e s)).dir := congrArg Desk.dir desk
  rw [desk, dir, ← desk_of_shell (passExtent_shell s e)]
  rfl

/-- The commit leaves the port of the link. -/
theorem commit_port (d : DriveNo) (l : Lodgement) (e : Location) : (commit d l e s).link.port = s.link.port := by
  have passed := port_of_shell (passExtent_shell s e)
  exact (port_of_shell (commit_shell s d l e)).trans passed

/-- The second step of a commit leaves the fee class (R35). -/
theorem TitleRecord.amend_feeClass (k : LodgeKind) (named : Option Nat) (r : TitleRecord) :
    (r.amend k named).feeClass = r.feeClass := by
  unfold TitleRecord.amend
  repeat' split
  all_goals rfl

/-- What an adding kind's commit does to the record and the pool (R35, Table 1-2). -/
theorem commit_adds (d : DriveNo) {l : Lodgement} {k : EntryKind} (hk : l.kind.adds = some k) (e : Location) (r : TitleRecord) :
    ((r.install e).amend l.kind l.named).entries = r.entries ++ [⟨r.nextEntry, k, r.edition + 1⟩] ∧
      ((r.install e).amend l.kind l.named).nextEntry = r.nextEntry + 1 ∧
      (commit d l e s).dir.inUse = s.dir.inUse + 1 ∧ (commit d l e s).dir.reserved = s.dir.reserved - 1 := by
  obtain ⟨entries, next⟩ := TitleRecord.amend_adds l.named (r.install e) hk
  rw [commit_dir]
  exact ⟨entries, next, by simp [commitTitle, Directory.commitPool, hk], by simp [commitTitle, Directory.commitPool, hk]⟩

theorem LodgeKind.removes_of_names {k : LodgeKind} (h : k = .discharge ∨ k = .withdrawal) : k.removes = true := by
  rcases h with rfl | rfl <;> rfl

theorem LodgeKind.leaves_entries {k : LodgeKind} (h : k = .first ∨ k = .transfer) : k.adds = none ∧ k.removes = false := by
  rcases h with rfl | rfl <;> exact ⟨rfl, rfl⟩

/-- What a removing kind's commit does to the record and the pool (R35, Table 1-2). -/
theorem commit_removes (d : DriveNo) {l : Lodgement} (hk : l.kind.removes = true) (e : Location) (r : TitleRecord) :
    ((r.install e).amend l.kind l.named).entries = r.entries.filter (fun x => some x.number ≠ l.named) ∧
      ((r.install e).amend l.kind l.named).nextEntry = r.nextEntry ∧
      (commit d l e s).dir.inUse = s.dir.inUse - 1 ∧ (commit d l e s).dir.reserved = s.dir.reserved := by
  have ha := LodgeKind.adds_of_removes hk
  rw [TitleRecord.amend_removes l.named (r.install e) ha hk, commit_dir]
  exact ⟨rfl, rfl, by simp [commitTitle, Directory.commitPool, ha, hk], by simp [commitTitle, Directory.commitPool, ha, hk]⟩

/-- Any other kind's commit leaves the entries and the pool (R35, Table 1-2). -/
theorem commit_other (d : DriveNo) {l : Lodgement} (ha : l.kind.adds = none) (hk : l.kind.removes = false) (e : Location)
    (r : TitleRecord) : ((r.install e).amend l.kind l.named).entries = r.entries ∧
      ((r.install e).amend l.kind l.named).nextEntry = r.nextEntry ∧
      (commit d l e s).dir.inUse = s.dir.inUse ∧ (commit d l e s).dir.reserved = s.dir.reserved := by
  rw [TitleRecord.amend_other l.named (r.install e) ha hk, commit_dir]
  exact ⟨rfl, rfl, by simp [commitTitle, Directory.commitPool, ha, hk], by simp [commitTitle, Directory.commitPool, ha, hk]⟩

-- The side ----------------------------------------------------------------------------------------------------

theorem side?_nextFree {s : State} {e : Location} {sr : SideRecord} (h : s.side? e.sideId = some sr) :
    (s.modSide e.sideId fun r => { r with nextFree := e.start + e.blocks }).side? e.sideId =
      some { sr with nextFree := e.start + e.blocks } := by
  rw [State.side?_modSide, h, Option.map_some, if_pos rfl]

/-- The side's next-free passes the extent; its other figures stand (R142). -/
theorem commit_side? {s : State} {e : Location} {sr : SideRecord} (h : s.side? e.sideId = some sr) (d : DriveNo) (l : Lodgement) :
    ∃ x, (commit d l e s).side? e.sideId = some x ∧ x.nextFree = e.start + e.blocks ∧ x.defects = sr.defects ∧
      x.errors = sr.errors := by
  have figures : (commit d l e s).figures e.sideId = some (e.start + e.blocks, sr.defects, sr.errors) := by
    rw [(commit_spares s d l e).figures, State.figures, State.side?, State.cart?, fileDeed_lib]
    exact congrArg (Option.map SideRecord.figures) (side?_nextFree h)
  obtain ⟨x, hx, hfigures⟩ := Option.map_eq_some_iff.mp figures
  simp only [SideRecord.figures, Prod.mk.injEq] at hfigures
  exact ⟨x, hx, hfigures⟩

-- The filing ring ---------------------------------------------------------------------------------------------

/-- An entry that a release of its owner leaves LIVE is the one that streams (R94, R97). -/
theorem PageRing.release_streaming {m n : Nat} {g : PageRing} {x : PageEntry}
    (hx : x ∈ (g.release m fun e => decide (e.owner = n)).entries) (hn : x.owner = n) (hl : x.live = true) :
    x.streaming = true := by
  rw [PageRing.release, (PageRing.reclaim_spec _ _).1] at hx
  obtain ⟨e, -, rfl⟩ := List.mem_map.mp ((List.dropWhile_sublist _).subset hx)
  split at hl
  · next released =>
    rw [if_pos released]
    unfold PageEntry.release at hl ⊢
    split at hl
    · next streams => rwa [if_pos streams]
    · cases hl
  · next kept =>
    rw [if_neg kept] at hn
    exact absurd (Bool.and_eq_true_iff.mpr ⟨hl, decide_eq_true hn⟩) kept

/-- A release in a ring changes that ring by its release. -/
theorem releaseIn_get (r : Fin 7) (p : PageEntry → Bool) :
    (releaseIn r p s).rings[r] = (s.rings[r]).release (s.modulus r) p := by simp [releaseIn]

theorem commit_pages (d : DriveNo) (l : Lodgement) (e : Location) : (commit d l e s).rings[filingRing] =
    (s.rings[filingRing]).release (s.modulus filingRing) fun x => decide (x.owner = l.number) := by
  rw [(commit_spares s d l e).pages]
  have released : (fileDeed l e s).rings[filingRing] = (releaseLodgement l.number (passExtent e s)).rings[filingRing] := rfl
  rw [released, releaseLodgement, releaseIn_get, passExtent_rings, State.modulus, passExtent_cfg]
  rfl

-- The notices -------------------------------------------------------------------------------------------------

theorem warnSpace_noted {s : State} {sd : SideId} {r : SideRecord} (h : s.side? sd = some r)
    (hlow : 262144 - r.nextFree < 16001) : (warnSpace sd s).noted (.filingSpaceLow sd.cart sd.side (262144 - r.nextFree)) := by
  have queued : warnSpace sd s = queueNotice (.filingSpaceLow sd.cart sd.side (262144 - r.nextFree)) s := by
    rw [warnSpace, h]
    exact if_pos hlow
  rw [queued]
  exact queueNotice_noted ..

theorem commit_filed {s : State} {l : Lodgement} {r : TitleRecord} (h : s.title? l.title = some r) (d : DriveNo) (e : Location) :
    (commit d l e s).noted (.lodgementFiled l.number l.title (r.edition + 1)) := by
  have passed : (passExtent e s).title? l.title = some r := by
    rw [State.title?, passExtent_dir]
    exact h
  refine (commit_spares s d l e).noted _ (fun _ => rfl) ?_
  rw [fileDeed, commitTitle_title?, passed]
  simp only [Option.map_some, if_true, Option.getD_some, TitleRecord.amend_edition, TitleRecord.install_edition]
  exact queueNotice_noted ..

theorem commit_spaceLow {s : State} {e : Location} {sr : SideRecord} (h : s.side? e.sideId = some sr)
    (hlow : 262144 - (e.start + e.blocks) < 16001) (d : DriveNo) (l : Lodgement) :
    (commit d l e s).noted (.filingSpaceLow e.cart e.side (262144 - (e.start + e.blocks))) := by
  have warned : (passExtent e s).noted (.filingSpaceLow e.cart e.side (262144 - (e.start + e.blocks))) :=
    warnSpace_noted (side?_nextFree h) hlow
  refine (commit_spares s d l e).noted _ (fun _ => rfl) (State.noted.queueNotice ?_ rfl)
  exact warned

-- The table and the write engine ------------------------------------------------------------------------------

theorem fileDeed_filing (l : Lodgement) (e : Location) :
    (fileDeed l e s).filing = { s.filing with table := s.filing.table.filter fun m => m.number ≠ l.number } := by
  exact congrArg (fun g : Filing => { g with table := g.table.filter fun m => m.number ≠ l.number }) (passExtent_filing s e)

theorem commit_numbers (d : DriveNo) (l : Lodgement) (e : Location) :
    (commit d l e s).filing.table.map (fun m => m.number) =
      (s.filing.table.map fun m => m.number).filter (fun m => m ≠ l.number) := by
  have claims : (commit d l e s).claims = s.claims.filter fun c => decide (c.number ≠ l.number) :=
    congrArg Register.claims (commit_register s d l e)
  rw [← State.claims_map_number, claims, ← State.claims_map_number, List.filter_map]
  rfl

/-- Where the committed lodgement is in hand, the engine looks for the next one with nothing in hand, the lodgement out of the table and
its write work out of every list (R66, R135, R142). -/
theorem commit_letsGo {s : State} {l : Lodgement} (h : s.inHand = some l.number) (d : DriveNo) (e : Location) :
    ∃ u, commit d l e s = choose d (engineTake u) ∧
      u.filing = { s.filing with table := s.filing.table.filter fun m => m.number ≠ l.number, hand := none } ∧
      ∀ x : DriveNo, Work.write l.number ∉ (u.drives[x]).work := by
  have filed : (endRun d (fileDeed l e s)).filing =
      { s.filing with table := s.filing.table.filter fun m => m.number ≠ l.number } := fileDeed_filing s l e
  have taken : (endRun d (fileDeed l e s)).inHand = some l.number := by
    rw [State.inHand, filed]
    exact h
  obtain ⟨filing, gone⟩ := letGo_inHand taken
  refine ⟨_, commit_eq s d l e, ?_, fun x => ?_⟩
  · rw [judgePins_sameButDrives, filing, filed]
  · have work : ((judgePins (letGo l.number (endRun d (fileDeed l e s)))).drives[x]).work =
        ((letGo l.number (endRun d (fileDeed l e s))).drives[x]).work := congrFun (congrArg Bench.work (judgePins_bench _)) x
    rw [work]
    exact gone x

theorem State.hand_eq_none {s : State} (h : s.inHand = none) : s.filing.hand = none := Option.map_eq_none_iff.mp h

theorem State.hand_of_inHand {s : State} {n : Nat} (h : s.inHand = some n) : ∃ step, s.filing.hand = some (n, step) := by
  obtain ⟨⟨m, step⟩, hand, rfl⟩ := Option.map_eq_some_iff.mp h
  exact ⟨step, hand⟩

/-- The write engine lets the committed lodgement go, with its write work, and takes the next STAGED one, if there is one (R135,
R142). -/
theorem commit_hand {s : State} {l : Lodgement} (h : s.inHand = some l.number) (d : DriveNo) (e : Location) :
    (∀ x : DriveNo, Work.write l.number ∉ ((commit d l e s).drives[x]).work) ∧
      ((commit d l e s).filing.hand = none ∨ ∃ m ∈ s.filing.table, m.number ≠ l.number ∧ m.state = .staged ∧
        ∃ step, (commit d l e s).filing.hand = some (m.number, step)) ∧
      ((∀ m ∈ s.filing.table, m.number ≠ l.number → m.state ≠ .staged) → (commit d l e s).filing.hand = none) := by
  obtain ⟨u, committed, filing, idle⟩ := commit_letsGo h d e
  have empty : u.inHand = none := by rw [State.inHand, filing]; rfl
  have chosen : (engineTake u).Asks (commit d l e s) := by
    rw [committed]
    exact .of_bench (choose_bench _ d)
  rcases engineTake_cases u with ⟨asks, -⟩ | ⟨m, hnext, asks⟩
  · have asked := asks.trans chosen
    have hand := State.hand_eq_none (asked.inHand.trans empty)
    exact ⟨fun x hw => (asked.work x _ hw).elim (idle x) fun hn => (nomatch empty.symm.trans hn), .inl hand, fun _ => hand⟩
  · have asked := asks.trans chosen
    obtain ⟨held, staged⟩ := State.nextStaged_some hnext
    rw [filing, List.mem_filter, decide_eq_true_eq] at held
    obtain ⟨mem, other⟩ := held
    refine ⟨fun x hw => (asked.work x _ hw).elim (idle x) fun hn => other (Option.some.inj hn), ?_,
      fun none_staged => absurd staged (none_staged m mem other)⟩
    exact .inr ⟨m, mem, other, staged, State.hand_of_inHand asked.inHand⟩

-- The obligation ----------------------------------------------------------------------------------------------

/-- A live verify run that has read its lodgement's extent back true ends in the commit (R141, R142). -/
theorem exec_verifyRunCompletion_true {s : State} {d : DriveNo} {u : Run} {l : Lodgement} {e : Location} {readBack : ReadBack}
    (hstate : (s.drives[d]).state = .verifying) (hrun : (s.drives[d]).run = some u) (hlive : u.mark = .live)
    (hl : s.lodgement? u.owner = some l) (he : l.extent = some e) (hlengths : readBack.lengths = l.lengths)
    (hdata : readBack.data = s.pagesOf l.number) :
    exec (.verifyRunCompletion d readBack) s = .next (arbitrate (commit d l e s)) := by
  have run : s.runIn d .verifying = some u := (if_pos hstate).trans hrun
  have lodgement : s.runLodgement d = some (l, e) := by simp only [State.runLodgement, hrun, hl, he, Option.map_some]
  have true_reading : s.verifies l readBack = true := by simp [State.verifies, hlengths, hdata]
  have completed : verifyCompletion d readBack s = arbitrate (commit d l e s) := by
    simp only [verifyCompletion, run, hlive, if_true, verified, lodgement, true_reading]
  exact congrArg Host.Outcome.next completed

/-- Settles O33: the run ends in `commit`, whose parts the lemmas above give one by one. -/
theorem verifyCommitsTheDeed : Obligations.VerifyCommitsTheDeed := by
  intro d u l e r sr readBack s hstate hrun hlive hl he hlengths hdata hr hsr
  have title : (commit d l e s).title? l.title = some ((r.install e).amend l.kind l.named) := by
    rw [commit_title?, hr, Option.map_some, if_pos rfl]
  have others : ∀ n, n ≠ l.title → (commit d l e s).title? n = s.title? n := fun n hn => by
    simp only [commit_title?, if_neg hn, Option.map_id']
  obtain ⟨-, status, successors, edition, current, priors, copies⟩ := (r.install e).amend_frame l.kind l.named
  refine ⟨commit d l e s, (r.install e).amend l.kind l.named,
    exec_verifyRunCompletion_true hstate hrun hlive hl he hlengths hdata, ?_, ?_, title, others, ?_, edition, current, status, ?_,
    successors, copies, fun hc => ?_, fun loc hc => ?_, fun k hk => commit_adds s d hk e r, fun hk => ?_, fun hk => ?_,
    commit_side? hsr d l, commit_numbers s d l e, commit_filed hr d e, fun x hx => ?_, fun hand => commit_hand hand d e,
    fun hlow => commit_spaceLow hsr hlow d l, ?_⟩
  · exact commit_desk s d l e
  · exact commit_port s d l e
  · rw [commit_dir, commitTitle, State.modDir_dir, Directory.commitPool_count, State.modTitle_dir]
  · exact TitleRecord.amend_feeClass ..
  · rw [priors, TitleRecord.install, TitleRecord.pushed, hc]
  · rw [priors, TitleRecord.install, TitleRecord.pushed, hc]
    rfl
  · exact commit_removes s d (LodgeKind.removes_of_names hk) e r
  · obtain ⟨adds, removes⟩ := LodgeKind.leaves_entries hk
    exact commit_other s d adds removes e r
  · rw [commit_pages] at hx
    exact PageRing.release_streaming hx
  · rw [(commit_spares s d l e).orders, fileDeed_fetch]

end Sys2Proof.Machine
end
-- ==== Proofs: the queries ====
section
/-!
What the four queries answer (O25), and when a cartridge is trapped.
-/
namespace Sys2Proof.Machine

/-- A recorded cartridge is trapped exactly while the drive it is in is in FAULT (R59). -/
theorem State.trapped_iff {s : State} {c : Nat} {r : Cartridge} (hr : s.cart? c = some r) :
    s.trapped c = true ↔ ∃ d : DriveNo, r.place = .drive d ∧ (s.drives[d]).state = .fault := by
  obtain ⟨number, place, home, former, sideA, sideB⟩ := r
  cases place <;> simp [State.trapped, hr]

theorem State.trapped_eq {s : State} {c : Nat} {r : Cartridge} (hr : s.cart? c = some r) :
    s.trapped c = decide (∃ d : DriveNo, r.place = .drive d ∧ (s.drives[d]).state = .fault) := by
  rw [Bool.eq_iff_iff, State.trapped_iff hr, decide_eq_true_iff]

section
variable {s : State} {tag : Byte}

theorem exec_shelfQuery_served (hs : s.serves = true) (tag : Byte) (cart : Word16) :
    exec (.shelfQuery tag cart) s = .next (arbitrate (takeShelfQuery tag cart s)) :=
  congrArg Host.Outcome.next (offer_free (State.serves_spec hs).1)

theorem exec_orderQuery_served (hs : s.serves = true) (tag : Byte) (n : Word16) :
    exec (.orderQuery tag n) s = .next (arbitrate (takeOrderQuery tag n s)) :=
  congrArg Host.Outcome.next (offer_free (State.serves_spec hs).1)

theorem exec_lodgeQuery_served (hs : s.serves = true) (tag : Byte) (n : Word16) :
    exec (.lodgeQuery tag n) s = .next (arbitrate (takeLodgeQuery tag n s)) :=
  congrArg Host.Outcome.next (offer_free (State.serves_spec hs).1)

theorem exec_driveQuery_served (hs : s.serves = true) (tag : Byte) :
    exec (.driveQuery tag) s = .next (arbitrate (answer tag (.drives (allDrives.map s.driveItem) s.pickerItem) s)) := by
  refine (congrArg Host.Outcome.next (offer_free (State.serves_spec hs).1)).trans ?_
  rw [takeDriveQuery, screened_ready (State.serves_spec hs).2]

/-- SHELF_QUERY of a number out of range (R58). -/
theorem takeShelfQuery_badField (hready : s.condition = .ready) {cart : Word16} (h : cart.toNat = 0 ∨ 4095 < cart.toNat) :
    takeShelfQuery tag cart s = answer tag (.refused .badField) s := by
  rw [takeShelfQuery, screened_ready hready]
  exact if_pos h

/-- SHELF_QUERY of a number in range without a record (R58). -/
theorem takeShelfQuery_unknown (hready : s.condition = .ready) {cart : Word16} (h1 : 1 ≤ cart.toNat) (h2 : cart.toNat ≤ 4095)
    (hn : s.cart? cart.toNat = none) : takeShelfQuery tag cart s = answer tag (.refused .unknownCartridge) s := by
  have inRange : ¬ (cart.toNat = 0 ∨ Config.maxCartridgeNumber < cart.toNat) := by rw [Config.maxCartridgeNumber]; omega
  simp only [takeShelfQuery, screened_ready hready, if_neg inRange, hn, refuse]

/-- SHELF_QUERY of a recorded cartridge (R58). -/
theorem takeShelfQuery_found (hready : s.condition = .ready) {cart : Word16} (h1 : 1 ≤ cart.toNat) (h2 : cart.toNat ≤ 4095)
    {r : Cartridge} (hr : s.cart? cart.toNat = some r) :
    takeShelfQuery tag cart s = answer tag (.shelf r (s.isLeaving cart.toNat) (s.trapped cart.toNat)
      (decide (s.lib.active = some ⟨cart.toNat, .A⟩)) (decide (s.lib.active = some ⟨cart.toNat, .B⟩))) s := by
  have inRange : ¬ (cart.toNat = 0 ∨ Config.maxCartridgeNumber < cart.toNat) := by rw [Config.maxCartridgeNumber]; omega
  simp only [takeShelfQuery, screened_ready hready, if_neg inRange, hr]

/-- LODGE_QUERY of number 0, which names no lodgement, or of a number the table does not hold (R150). -/
theorem takeLodgeQuery_unknown (hready : s.condition = .ready) {n : Word16} (h : n = 0 ∨ s.lodgement? n.toNat = none) :
    takeLodgeQuery tag n s = answer tag (.refused .noSuchLodgement) s := by
  rw [takeLodgeQuery, screened_ready hready]
  cases hl : s.lodgement? n.toNat with
  | none => rfl
  | some l =>
    obtain rfl := h.resolve_right (by simp [hl])
    rfl

end

/-- Settles O25, query by query: each reads the record it names. -/
theorem queriesAnswerAndChangeNothing : Obligations.QueriesAnswerAndChangeNothing := by
  intro tag s hs
  obtain ⟨-, hready⟩ := State.serves_spec hs
  refine ⟨fun cart h => ?_, fun cart h1 h2 hn => ?_, fun cart r h1 h2 hr => ?_, fun items starts hitems hstarts => ?_,
    fun n o ho => ?_, fun n hn => ?_, fun n l h0 hl => ?_, fun n hn => ?_⟩
  · rw [State.refuses, exec_shelfQuery_served hs, takeShelfQuery_badField hready h]
  · rw [State.refuses, exec_shelfQuery_served hs, takeShelfQuery_unknown hready h1 h2 hn]
  · rw [exec_shelfQuery_served hs, takeShelfQuery_found hready h1 h2 hr, State.trapped_eq hr, State.isLeaving]
    simp only [List.contains_eq_mem]
  · subst hitems hstarts
    exact exec_driveQuery_served hs tag
  · simp only [exec_orderQuery_served hs, takeOrderQuery, screened_ready hready, ho]
  · simp only [exec_orderQuery_served hs, takeOrderQuery, screened_ready hready, hn, refuse]
  · simp only [exec_lodgeQuery_served hs, takeLodgeQuery, screened_ready hready, if_neg (toNat_ne_zero h0), hl]
  · rw [exec_lodgeQuery_served hs, takeLodgeQuery_unknown hready hn]

end Sys2Proof.Machine
end
-- ==== Proofs: what the part's operations change ====
section
/-!
SUPPORT for the invariants of family 03. Every operation of the part is a chain of small changes. Each kind of change is guarded by
what the model checks where it makes it, so that a law is proved for the few kinds of change and not for every operation.

The flags say which parts are minded. A change that minds the mechanics (`m`) leaves every cartridge where it is, but for the tasks
that the picker begins; one that minds the filing unit (`f`) moves lodgements, extents and filing runs only as the write engine's own
steps do.
-/
namespace Sys2Proof.Machine

-- What the changes speak of ---------------------------------------------------------------------------------------

/-- The parts of a state that the mechanics, the fetch scheduler and the filing unit work on. -/
structure Plant where
  lib       : Library
  drives    : Vector Drive 6
  picker    : Picker
  fetch     : Fetch
  filing    : Filing
  mechReset : Bool
  condition : Condition

/-- The plant of a state. -/
def State.plant (s : State) : Plant where
  lib := s.lib
  drives := s.drives
  picker := s.picker
  fetch := s.fetch
  filing := s.filing
  mechReset := s.mechReset
  condition := s.condition

/-- The capacities of the FIFOs, the notice queue and the counter line (R179, R180, R183, R194). -/
abbrev State.portsLaw (s : State) : Prop :=
  s.link.inbound.length ≤ Config.inboundBytes ∧ s.link.outbound.length ≤ Config.outboundBytes ∧
    s.link.notices.length ≤ Config.maxNotices ∧
    ∀ n : CounterNo, (s.line.counters[n]).posts.length ≤ Config.maxPosts ∧ (s.line.counters[n]).failures ≤ Config.absentFailures

/-- The lodgement whose page is arriving (R131). -/
def Link.arriving (k : Link) : Option Nat :=
  match k.decoder with
  | .body _ (.admitted n _) _ => some n
  | _ => none

/-- The states of a drive as the carrying of cartridges tells them apart; those of a mounted or turning cartridge count as one, IDLE. -/
def DriveState.phase : DriveState → DriveState
  | .empty => .empty
  | .loading => .loading
  | .unloading => .unloading
  | .fault => .fault
  | _ => .idle

/-- What a drive holds. -/
structure Berth where
  phase      : DriveState
  mounted    : Option SideId
  unrecorded : Bool
  fitted     : Bool

/-- What a drive holds, from its record. -/
def Drive.berth (r : Drive) : Berth where
  phase := r.state.phase
  mounted := r.mounted
  unrecorded := r.unrecorded
  fitted := r.fitted

/-- The fields of a drive record that any law of family 03 reads. -/
def Drive.ledger (r : Drive) : DriveState × Option Nat × Option SideId × Bool × Bool × Option Run :=
  (r.state, r.hold, r.mounted, r.unrecorded, r.fitted, r.run)

/-- A drive that is WRITING or VERIFYING has no live read run (Table 4-1). -/
def Drive.readLaw (r : Drive) : Prop :=
  ∀ u ∈ r.run, u.mark = .live → u.kind.isRead = true → r.state ≠ .writing ∧ r.state ≠ .verifying

/-- A change of a drive record: it begins no spin-down in hold time; it leaves what the drive holds, where the mechanics are minded,
and begins no filing run, where the filing unit is. -/
structure Drive.Change (m f : Prop) (r q : Drive) : Prop where
  hold  : (r.state = .spindown → r.hold = none) → q.state = .spindown → q.hold = none
  berth : m → q.berth = r.berth
  run   : f → r.readLaw → q.readLaw ∧ ∀ u ∈ q.run, u.files = true → ∃ v ∈ r.run, v.files = true ∧ v.owner = u.owner

/-- Drive `d` has a cartridge at work, being turned to or from work. -/
def State.running (s : State) (d : DriveNo) : Prop := (s.drives[d]).state.phase = .idle

/-- A change of the picker: no fifth load start (R74); where the mechanics are minded, only LOADs of recorded cartridges join and only
LOADs leave the queue. -/
structure Picker.Change (m : Prop) (s : State) (p q : Picker) : Prop where
  starts : p.starts.length ≤ Config.windowLoads → q.starts.length ≤ Config.windowLoads
  task   : m → q.state = p.state ∧ q.active = p.active
  queue  : m → (q.queue.filter fun k => decide (k.kind ≠ .load)) = (p.queue.filter fun k => decide (k.kind ≠ .load)) ∧
    ∀ k ∈ q.queue, k ∈ p.queue ∨ k.kind = .load ∧ ∃ c, k.cart = some c ∧ (s.cart? c).isSome = true

/-- The number of a cartridge with its sides. -/
def Cartridge.sides (r : Cartridge) : Nat × SideRecord × SideRecord := (r.number, r.sideA, r.sideB)

/-- The number of a cartridge with where it stands. -/
def Cartridge.stand (r : Cartridge) : Nat × Place × Option Nat := (r.number, r.place, r.home)

/-- A change of the library that leaves the side records; the active filing side may become absent, or a FILING side (R48, R49). -/
structure Library.Change (m : Prop) (s : State) (l k : Library) : Prop where
  sides  : k.carts.map Cartridge.sides = l.carts.map Cartridge.sides
  active : ∀ sd ∈ k.active, sd ∈ l.active ∨ (s.side? sd).map (fun r => r.role) = some .filing
  stands : m → k.carts.map Cartridge.stand = l.carts.map Cartridge.stand ∧ k.mail = l.mail

/-- A change of one side record with the active filing side `a` after it: a side that loses its role is active no longer (R48). -/
structure Side.Change (f : Prop) (s : State) (sd : SideId) (g : SideRecord → SideRecord) (a : Option SideId) : Prop where
  lawful : s.sideLaw → ∀ r : SideRecord, r.lawful → (g r).lawful
  active : ∀ x ∈ a, x ∈ s.lib.active ∧ (x = sd → ∀ r : SideRecord, r.role = .filing → (g r).role = .filing)
  free   : f → ∀ r : SideRecord, (g r).nextFree = r.nextFree

/-- A change of the filing unit within the table's capacity: no extent is new (R126, R137). -/
structure Filing.Change (g h : Filing) : Prop where
  room    : g.table.length ≤ Config.maxLodgements → h.table.length ≤ Config.maxLodgements
  extents : ∀ l ∈ h.table, ∀ e ∈ l.extent, ∃ k ∈ g.table, e ∈ k.extent

-- The changes -----------------------------------------------------------------------------------------------------

/-- The kinds of change. -/
inductive State.Change (m f : Prop) : State → State → Prop where
  /-- The desk, the rings, staging memory and the request link, within the capacities. -/
  | outer {s t : State} (plant : t.plant = s.plant) (ports : s.portsLaw → t.portsLaw)
      (desk : f → t.dir.held = s.dir.held ∧
        ∀ n ∈ t.link.arriving, n ∈ s.link.arriving ∨ ∀ l, s.lodgement? n = some l → l.state = .receiving) : Change m f s t
  | drive {s : State} (d : DriveNo) (g : Drive → Drive) (h : Drive.Change m f s.drives[d] (g s.drives[d])) :
      Change m f s (s.modDrive d g)
  /-- The write run of the lodgement in hand begins (R111). -/
  | write {s : State} {d : DriveNo} {n : Nat} {e : Location} (h : s.readyWrite d = some (n, e)) :
      Change m f s (beginWrite d n e s)
  | fetch {s : State} (g : Fetch → Fetch)
      (h : s.fetch.queue.length ≤ Config.maxOrders → (g s.fetch).queue.length ≤ Config.maxOrders) : Change m f s (s.modFetch g)
  | picker {s : State} (g : Picker → Picker) (h : Picker.Change m s s.picker (g s.picker)) : Change m f s (s.modPicker g)
  /-- The picker begins a task (R73). -/
  | begin {s : State} {k : Task} {p : PickPoint} (idle : s.picker.state = .idle) (swept : s.mechReset = false)
      (queued : k ∈ s.picker.queue) (target : s.taskTarget k = some p) : Change m f s (beginTask k p s)
  | lib {s : State} (g : Library → Library) (h : Library.Change m s s.lib (g s.lib)) : Change m f s (s.modLib g)
  | side {s : State} (sd : SideId) (g : SideRecord → SideRecord) (a : Option SideId) (h : Side.Change f s sd g a) :
      Change m f s ((s.modSide sd g).modLib fun l => { l with active := a })
  /-- A cartridge is entered in the table (R52). -/
  | enter {s : State} (c : Nat) (a b : Role) (unminded : ¬ m) (new : s.cart? c = none)
      (room : s.lib.carts.length < Config.maxCartridges) (range : 1 ≤ c ∧ c ≤ Config.maxCartridgeNumber) :
      Change m f s (enterCart c a b s)
  /-- The mechanism reset is complete (R60). -/
  | swept {s : State} (unminded : ¬ m) : Change m f s { s with mechReset := false }
  /-- The write engine takes a STAGED lodgement (R135). -/
  | take {s : State} {l : Lodgement} (hand : s.filing.hand = none) (mem : l ∈ s.filing.table) (staged : l.state = .staged) :
      Change m f s (setStep l.number .side s)
  /-- The lodgement in hand receives its extent and leaves step SIDE (R137). -/
  | allot {s : State} {n : Nat} {l : Lodgement} {r : SideRecord} (e : Location) (k : EngineStep)
      (hand : s.filing.hand = some (n, .side)) (found : s.lodgement? n = some l) (side : s.side? e.sideId = some r)
      (start : e.start = r.nextFree) (fits : e.start + e.blocks ≤ Config.sideBlocks) (step : k = .drive ∨ k = .ready) :
      Change m f s (setStep n k (recordExtent n e s))
  /-- The lodgement in hand passes from step DRIVE to READY (R138). -/
  | mount {s : State} {n : Nat} (hand : s.filing.hand = some (n, .drive)) : Change m f s (setStep n .ready s)
  /-- The space-wanting mark (R136). -/
  | want {s : State} (b : Bool) : Change m f s (s.modFiling fun g => { g with wanting := b })
  /-- The lodgement in hand gives up its extent before its run (R139). -/
  | drop {s : State} {n : Nat} {k : EngineStep} (hand : s.filing.hand = some (n, k)) (step : k ≠ .run) :
      Change m f s (setStep n .side (s.modLodgement n fun l => { l with extent := none, state := .staged }))
  /-- The pages of a RECEIVING lodgement (R131 to R133). -/
  | arrival {s : State} (n : Nat) (g : Lodgement → Lodgement)
      (same : ∀ l, (g l).number = l.number ∧ (g l).state = l.state ∧ (g l).extent = l.extent)
      (receiving : f → ∀ l, s.lodgement? n = some l → l.state = .receiving) : Change m f s (s.modLodgement n g)
  | filing {s : State} (g : Filing → Filing) (unminded : ¬ f) (h : Filing.Change s.filing (g s.filing)) :
      Change m f s (s.modFiling g)

/-- A chain of changes. -/
def State.Changes (m f : Prop) : State → State → Prop := Relation.ReflTransGen (State.Change m f)

variable {m f : Prop} {s t u : State}

theorem State.Changes.refl (s : State) : State.Changes m f s s := Relation.ReflTransGen.refl

theorem State.Changes.trans (h : State.Changes m f s t) (k : State.Changes m f t u) : State.Changes m f s u :=
  Relation.ReflTransGen.trans h k

/-- The last changes of a chain, said first. -/
theorem State.Changes.after (k : State.Changes m f t u) (h : State.Changes m f s t) : State.Changes m f s u := h.trans k

theorem State.Changes.single (h : State.Change m f s t) : State.Changes m f s t := Relation.ReflTransGen.single h

/-- What every change keeps, a chain keeps. -/
theorem State.Changes.keeps {P : State → Prop} (h : State.Changes m f s t) (keep : ∀ s t, State.Change m f s t → P s → P t)
    (hs : P s) : P t := by
  induction h with
  | refl => exact hs
  | tail _ last ih => exact keep _ _ last ih

-- Single changes --------------------------------------------------------------------------------------------------

/-- A change outside the plant, the ports and the directory. -/
theorem State.Changes.outside (plant : t.plant = s.plant) (link : t.link = s.link) (line : t.line = s.line)
    (dir : t.dir = s.dir) : State.Changes m f s t :=
  .single (.outer plant (fun h => by unfold State.portsLaw at h ⊢; rwa [link, line])
    fun _ => ⟨by rw [dir], fun n hn => .inl (link ▸ hn)⟩)

theorem Drive.Change.of_ledger {r q : Drive} (h : q.ledger = r.ledger) : Drive.Change m f r q := by
  simp only [Drive.ledger, Prod.mk.injEq] at h
  obtain ⟨state, hold, mounted, unrecorded, fitted, run⟩ := h
  refine ⟨fun hr hq => ?_, fun _ => ?_, fun _ hr => ⟨?_, fun u hu hfile => ⟨u, run ▸ hu, hfile, rfl⟩⟩⟩
  · rw [hold]
    exact hr (state ▸ hq)
  · simp only [Drive.berth, state, mounted, unrecorded, fitted]
  · unfold Drive.readLaw at hr ⊢
    rwa [run, state]

/-- The record of a drive but for its state, timer, cartridge and run. -/
theorem State.Changes.ledger (d : DriveNo) (g : Drive → Drive) (h : (g s.drives[d]).ledger = s.drives[d].ledger) :
    State.Changes m f s (s.modDrive d g) := .single (.drive d g (.of_ledger h))

/-- A drive at work goes on to a state of work without a filing run. -/
theorem State.Changes.turn (d : DriveNo) (g : Drive → Drive) (hd : m → s.running d)
    (berth : (g s.drives[d]).berth = { s.drives[d].berth with phase := .idle })
    (hold : (g s.drives[d]).state ≠ .spindown ∨ (g s.drives[d]).hold = none)
    (state : (g s.drives[d]).state ≠ .writing ∧ (g s.drives[d]).state ≠ .verifying)
    (run : ∀ u ∈ (g s.drives[d]).run, u ∈ (s.drives[d]).run ∨ u.files = false) : State.Changes m f s (s.modDrive d g) := by
  refine .single (.drive d g ⟨fun _ hs => hold.resolve_left (not_not.mpr hs), fun hm => ?_, fun _ _ =>
    ⟨fun _ _ _ _ => state, fun u hu hfile => ?_⟩⟩)
  · have phase : (s.drives[d]).state.phase = .idle := hd hm
    rw [berth, ← phase]
    rfl
  · rcases run u hu with hv | hno
    · exact ⟨u, hv, hfile, rfl⟩
    · simp [hno] at hfile

/-- A change of the fetch queue's items. -/
theorem State.Changes.order (n : Nat) (g : FetchOrder → FetchOrder) : State.Changes m f s (s.modOrder n g) :=
  .single (.fetch _ fun h => by simpa using h)

theorem queueNotice_arriving (n : Notice) (s : State) : (queueNotice n s).link.arriving = s.link.arriving := by
  have decoder : (queueNotice n s).link.decoder = s.link.decoder := congrArg (fun k => k.decoder) (queueNotice_port s n)
  rw [Link.arriving, decoder]
  rfl

theorem queueNotice_changes (n : Notice) : State.Changes m f s (queueNotice n s) := by
  have port := queueNotice_port s n
  refine State.Changes.single (.outer (t := queueNotice n s) rfl (fun ⟨hin, hout, hn, hc⟩ =>
    ⟨?_, ?_, queueNotice_length n s hn, hc⟩) fun _ => ⟨rfl, fun x hx => .inl (queueNotice_arriving n s ▸ hx)⟩)
  · exact (congrArg (fun k => k.inbound.length) port).le.trans hin
  · exact (congrArg (fun k => k.outbound.length) port).le.trans hout

/-- Only the reopening timer changes (R74). -/
theorem setReopening_changes : State.Changes m f s (setReopening s) := by
  unfold setReopening
  exact .single (.picker _ ⟨id, fun _ => ⟨rfl, rfl⟩, fun _ => ⟨rfl, fun _ hk => .inl hk⟩⟩)

/-- What each drive's turn does in changes, a round of the six drives does. -/
theorem forDrives_changes {g : DriveNo → State → State} (h : ∀ d t, State.Changes m f t (g d t)) :
    State.Changes m f s (s.forDrives g) :=
  forDrives_kept s (P := fun t => State.Changes m f s t) (fun d t ht => ht.trans (h d t)) (.refl s)

theorem foldl_changes {α : Type} {g : State → α → State} (h : ∀ t x, State.Changes m f t (g t x)) (xs : List α) :
    State.Changes m f s (xs.foldl g s) :=
  foldl_kept (P := fun t => State.Changes m f s t) (fun t x ht => ht.trans (h t x)) xs s (.refl s)

theorem State.Changes.ite {c : Prop} [Decidable c] (ht : c → State.Changes m f s t) (hu : ¬ c → State.Changes m f s u) :
    State.Changes m f s (if c then t else u) := by
  split
  · next h => exact ht h
  · next h => exact hu h

-- Drives at work --------------------------------------------------------------------------------------------------

/-- The LOAD that the picker can begin is for an EMPTY drive (R75). -/
theorem State.destination_load {s : State} {k : Task} {p : PickPoint} (hk : k.kind = .load) (h : s.destination k = some p) :
    ∃ c d, k.cart = some c ∧ k.drive = some d ∧ p = .drive d ∧ (s.drives[d]).state = .empty ∧ (s.homeOf k.cart).isSome = true := by
  unfold State.destination at h
  rw [hk] at h
  dsimp only at h
  split at h
  · next c d hc hd =>
    split at h
    · next hcond =>
      obtain ⟨empty, -, home, -⟩ := hcond
      cases h
      exact ⟨c, d, hc, hd, rfl, empty, home⟩
    · cases h
  · cases h

theorem recordStart_drives (s : State) : (recordStart s).drives = s.drives := rfl

/-- A task begun puts the EMPTY drive of a LOAD in LOADING and leaves every other drive (R75). -/
theorem beginTask_get {s : State} {k : Task} {p : PickPoint} (h : s.destination k = some p) (x : DriveNo) :
    (beginTask k p s).drives[x] = s.drives[x] ∨
      (s.drives[x]).state = .empty ∧ (beginTask k p s).drives[x] = { s.drives[x] with state := .loading } := by
  unfold beginTask
  dsimp only
  split
  · left
    unfold setHome
    split <;> rfl
  · next d hkind hd =>
    obtain ⟨-, e, -, he, -, empty, -⟩ := State.destination_load hkind h
    obtain rfl : d = e := Option.some.inj (hd.symm.trans he)
    simp only [recordStart_drives, State.modDrive_get]
    by_cases hx : x = d
    · subst hx
      exact .inr ⟨empty, if_pos rfl⟩
    · exact .inl (if_neg hx)
  · exact .inl rfl

theorem enterCart_drives (c : Nat) (a b : Role) (s : State) : (enterCart c a b s).drives = s.drives := by
  unfold enterCart
  split <;> rfl

/-- A drive at work stays at work, whatever a chain that minds the mechanics changes. -/
theorem State.Changes.running (hm : m) (h : State.Changes m f s t) (d : DriveNo) (hd : s.running d) : t.running d := by
  refine h.keeps (P := fun t => t.running d) (fun s t hc hs => ?_) hd
  unfold State.running at hs ⊢
  cases hc with
  | outer plant => exact (congrArg (fun p => (p.drives[d]).state.phase) plant).trans hs
  | drive e g hg =>
    rw [State.modDrive_get]
    split
    · next hde =>
      subst hde
      exact (congrArg Berth.phase (hg.berth hm)).trans hs
    · exact hs
  | @write e _ _ hw =>
    rw [beginWrite, State.modDrive_get]
    split
    · rfl
    · exact hs
  | begin _ _ _ target =>
    rcases beginTask_get (State.taskTarget_eq_some.mp target).1 d with h | ⟨empty, -⟩
    · rwa [h]
    · rw [empty] at hs
      cases hs
  | enter _ _ _ unminded => exact absurd hm unminded
  | _ => exact hs

-- Picker ----------------------------------------------------------------------------------------------------------

/-- LOADs leave the picker's queue, and nothing else does. -/
theorem Picker.Change.dropLoads (q : Task → Bool) (h : ∀ k : Task, k.kind ≠ .load → q k = true) :
    Picker.Change m s s.picker { s.picker with queue := s.picker.queue.filter q } := by
  refine ⟨id, fun _ => ⟨rfl, rfl⟩, fun _ => ⟨?_, fun k hk => .inl (List.mem_of_mem_filter hk)⟩⟩
  rw [List.filter_filter]
  refine List.filter_congr fun k _ => ?_
  by_cases hk : k.kind = .load
  · simp [hk]
  · simp [hk, h k hk]

theorem dropReservation_changes (d : DriveNo) : State.Changes m f s (dropReservation d s) := by
  refine (State.Changes.ledger d (fun r => { r with reserved := none }) rfl).trans (.single (.picker _ (.dropLoads _ ?_)))
  intro k hk
  simp [hk]

/-- A LOAD of a recorded cartridge joins the picker's queue (R80). -/
theorem enqueueLoad_changes {k : Task} {c : Nat} (load : k.kind = .load) (cart : k.cart = some c)
    (recorded : (s.cart? c).isSome = true) : State.Changes m f s (enqueue k s) := by
  refine State.Changes.single (.picker _ ⟨id, fun _ => ⟨rfl, rfl⟩, fun _ => ⟨?_, fun j hj => ?_⟩⟩)
  · simp [load]
  · rcases List.mem_append.mp hj with hj | hj
    · exact .inl hj
    · obtain rfl := List.mem_singleton.mp hj
      exact .inr ⟨load, c, cart, recorded⟩

theorem State.nextTask_mem {s : State} {k : Task} (h : s.nextTask = some k) : k ∈ s.picker.queue := by
  have oldest : ∀ kinds, s.oldest kinds = some k → k ∈ s.picker.queue := fun _ h => List.mem_of_find?_eq_some h
  unfold State.nextTask at h
  split at h
  · next hu => exact oldest _ (hu.trans h)
  · split at h
    · next hl => exact oldest _ (hl.trans h)
    · exact oldest _ h

theorem pickerChoose_changes : State.Changes m f s (pickerChoose s) := by
  unfold pickerChoose
  split
  · next hidle =>
    split
    · next k hk =>
      split
      · next p hp => exact .single (.begin hidle.1 hidle.2 (State.nextTask_mem hk) hp)
      · exact .refl s
    · exact .refl s
  · exact .refl s

-- Drives and allocator --------------------------------------------------------------------------------------------

theorem lingerJudge_changes (d : DriveNo) : State.Changes m f s (lingerJudge d s) := .ledger d _ rfl

theorem askRelease_changes (d : DriveNo) : State.Changes m f s (askRelease d s) := by
  unfold askRelease
  dsimp only
  split
  · exact .refl s
  · next h =>
    obtain ⟨-, idle, -⟩ := not_or.mp (fun k => h (k.imp_right Or.inl)) |>.imp_right fun k => And.intro (not_not.mp k) trivial
    split
    · exact .ledger d _ rfl
    · next hold =>
      refine .turn d _ (fun _ => congrArg DriveState.phase idle) rfl (.inr ?_) ⟨nofun, nofun⟩ fun u hu => .inl hu
      simpa using hold

theorem releaseUnrecorded_changes (d : DriveNo) : State.Changes m f s (releaseUnrecorded d s) :=
  .ite (fun _ => askRelease_changes d) fun _ => .refl s

theorem allocate_changes (d : DriveNo) (sd : SideId) (recorded : (s.cart? sd.cart).isSome = true) :
    State.Changes m f s (allocate d sd s) :=
  (State.Changes.ledger d (fun r => { r with reserved := some sd }) rfl).trans
    (State.Changes.trans (enqueueLoad_changes rfl rfl recorded) (askRelease_changes d))

theorem allocateSide_changes (sd : SideId) : State.Changes m f s (allocateSide s sd) := by
  unfold allocateSide
  split
  · next h =>
    have recorded : (s.cart? sd.cart).isSome = true := by
      cases hc : s.cart? sd.cart with
      | none => simp [State.passedOver, hc] at h
      | some r => rfl
    split
    · exact allocate_changes _ sd recorded
    · exact .refl s
  · exact .refl s

theorem runAllocator_changes : State.Changes m f s (runAllocator s) := by
  unfold runAllocator
  split
  · exact .refl s
  · have allocated := foldl_changes (m := m) (f := f) (s := s) (fun t sd => allocateSide_changes (s := t) sd) s.sidesInOrder
    dsimp only
    split
    · exact allocated
    · exact allocated.trans pickerChoose_changes

theorem workJoin_changes (d : DriveNo) (w : Work) : State.Changes m f s (workJoin d w s) := by
  have joined : State.Changes m f s (s.modDrive d fun r => { r with work := r.work ++ [w], linger := none }) := .ledger d _ rfl
  unfold workJoin
  dsimp only
  split
  · have withdrawn := joined.trans (State.Changes.ledger (m := m) (f := f) d (fun r => { r with releasePending := false }) rfl)
    split
    · exact withdrawn.trans ((dropReservation_changes d).trans runAllocator_changes)
    · exact withdrawn
  · exact joined

theorem withdrawLoad_changes (sd : SideId) : State.Changes m f s (withdrawLoad sd s) := by
  unfold withdrawLoad
  split
  · exact .refl s
  · dsimp only
    split
    · exact .refl s
    · exact (foldl_changes (fun t d => dropReservation_changes (s := t) d) _).trans runAllocator_changes

theorem judgePin_changes (d : DriveNo) : State.Changes m f s (judgePin d s) := by
  unfold judgePin
  dsimp only
  split
  · exact .ledger d _ rfl
  · split
    · exact (State.Changes.ledger d (fun r => { r with pin := false }) rfl).trans (lingerJudge_changes d)
    · exact .refl s

theorem judgePins_changes : State.Changes m f s (judgePins s) := forDrives_changes fun d _ => judgePin_changes d

-- Runs and choices ------------------------------------------------------------------------------------------------

theorem endRun_changes (d : DriveNo) : State.Changes m f s (endRun d s) :=
  .single (.drive d _ ⟨id, fun _ => rfl, fun _ _ => ⟨nofun, nofun⟩⟩)

/-- A run in flight is marked, or goes on as it is. -/
theorem Drive.Change.mark {r : Drive} (g : Run → Run) (hg : ∀ u, g u = u ∨ (g u).mark ≠ .live) (q : Drive)
    (hq : q.ledger = (r.state, r.hold, r.mounted, r.unrecorded, r.fitted, r.run.map g)) : Drive.Change m f r q := by
  simp only [Drive.ledger, Prod.mk.injEq] at hq
  obtain ⟨state, hold, mounted, unrecorded, fitted, run⟩ := hq
  have live : ∀ u ∈ q.run, u.mark = .live → u ∈ r.run := by
    intro u hu hl
    rw [run, Option.mem_map] at hu
    obtain ⟨v, hv, rfl⟩ := hu
    rcases hg v with h | h
    · rwa [h]
    · exact absurd hl h
  refine ⟨fun hr hs => ?_, fun _ => ?_, fun _ hr => ⟨fun u hu hl hread => ?_, fun u hu hfile => ⟨u, live u hu ?_, hfile, rfl⟩⟩⟩
  · rw [hold]
    exact hr (state ▸ hs)
  · simp only [Drive.berth, state, mounted, unrecorded, fitted]
  · rw [state]
    exact hr u (live u hu hl) hl hread
  · simp only [Run.files, Bool.and_eq_true, decide_eq_true_eq] at hfile
    exact hfile.1

theorem removeOrder_changes (n : Nat) : State.Changes m f s (removeOrder n s) := by
  refine State.Changes.trans (.single (.fetch (fun q => { q with queue := q.queue.filter fun o => o.number ≠ n }) fun h =>
    (List.length_filter_le ..).trans h)) (forDrives_changes fun d t => .single (.drive d _ (.mark _ (fun u => ?_) _ rfl)))
  split
  · exact .inr nofun
  · exact .inl rfl

theorem settleIdle_changes {d : DriveNo} (hd : m → s.running d) : State.Changes m f s (settleIdle d s) := by
  have idle : State.Changes m f s (s.modDrive d fun r => { r with
      state := .idle, idleSince := if (s.drives[d]).state = .idle then r.idleSince else s.now, run := none }) :=
    .turn d _ hd rfl (.inl nofun) ⟨nofun, nofun⟩ nofun
  unfold settleIdle
  dsimp only
  have judged := idle.trans (lingerJudge_changes d)
  have asked := judged.trans (State.Changes.ite (m := m) (f := f) (c := s.holdsLeaving s.drives[d] = true)
    (fun _ => askRelease_changes d) fun _ => .refl _)
  have released := asked.trans (releaseUnrecorded_changes (m := m) (f := f) d)
  exact released.trans (.ite (fun _ => runAllocator_changes) fun _ => .refl _)

theorem holdRead_changes {d : DriveNo} (hd : m → s.running d) : State.Changes m f s (holdRead d s) := by
  unfold holdRead
  split
  · next h => exact .single (.write h)
  · exact .turn d _ hd rfl (.inl nofun) ⟨nofun, nofun⟩ nofun

theorem chooseRead_changes {d : DriveNo} (hd : m → s.running d) (o : FetchOrder) : State.Changes m f s (chooseRead d o s) := by
  have read : ∀ (t : State) (u : Run), (m → t.running d) → u.kind.isRead = true →
      State.Changes m f t (t.modDrive d fun r => { r with state := .reading, run := some u }) := fun t u ht hu =>
    .turn d _ ht rfl (.inl nofun) ⟨nofun, nofun⟩ fun v hv => .inr (by cases hv; simp [Run.files, hu])
  unfold chooseRead
  split
  · exact (State.Changes.order o.number _).trans (read _ _ hd rfl)
  · unfold beginPageRead
    dsimp only
    split
    · exact holdRead_changes hd
    · split
      · next g' _ =>
        exact State.Changes.trans (t := s.modRing (driveRing d) fun _ => g') (.outside rfl rfl rfl rfl) (read _ _ hd rfl)
      · exact holdRead_changes hd

theorem choose_changes {d : DriveNo} (hd : m → s.running d) : State.Changes m f s (choose d s) := by
  unfold choose
  split
  · exact chooseRead_changes hd _
  · split
    · next h => exact .single (.write h)
    · split
      · exact chooseRead_changes hd _
      · exact settleIdle_changes hd

theorem chooseIfFree_changes (d : DriveNo) : State.Changes m f s (chooseIfFree d s) :=
  .ite (fun h => choose_changes fun _ => h.1.elim (congrArg DriveState.phase) (congrArg DriveState.phase)) fun _ => .refl s

theorem chooseIfStalled_changes (d : DriveNo) : State.Changes m f s (chooseIfStalled d s) :=
  .ite (fun h => choose_changes fun _ => congrArg DriveState.phase h.1) fun _ => .refl s

theorem discardEnding_changes {d : DriveNo} (hd : m → s.running d) : State.Changes m f s (discardEnding d s) := by
  have ended := endRun_changes (m := m) (f := f) (s := s) d
  exact ended.trans (choose_changes fun hm => ended.running hm d (hd hm))

theorem wakeLowered_changes (before : State) : State.Changes m f s (wakeLowered before s) :=
  forDrives_changes fun d _ => .ite (fun _ => chooseIfStalled_changes d) fun _ => .refl _

theorem releaseIn_changes (r : Fin 7) (p : PageEntry → Bool) : State.Changes m f s (releaseIn r p s) := .outside rfl rfl rfl rfl

theorem releaseOrder_changes (n : Nat) : State.Changes m f s (releaseOrder n s) :=
  forDrives_changes fun d _ => releaseIn_changes (driveRing d) _

theorem failOrder_changes (n : Nat) (reason : FailReason) : State.Changes m f s (failOrder n reason s) := by
  unfold failOrder
  split
  · exact .refl s
  · exact (removeOrder_changes n).trans ((releaseOrder_changes n).trans ((wakeLowered_changes _).trans
      ((queueNotice_changes _).trans (withdrawLoad_changes _))))

theorem failOrders_changes (ns : List Nat) (reason : FailReason) : State.Changes m f s (failOrders ns reason s) :=
  foldl_changes (fun t n => failOrder_changes (s := t) n reason) ns

end Sys2Proof.Machine
end
-- ==== Proofs: what the write engine and the request link change ====
section
/-!
SUPPORT for the invariants of family 03: the write engine's steps up to its next run, and the request link with its arbiter, as chains of
changes.
-/
namespace Sys2Proof.Machine

variable {m f : Prop} {s t u : State}

-- The write engine ------------------------------------------------------------------------------------------------

theorem removeWrite_changes (n : Nat) : State.Changes m f s (removeWrite n s) := forDrives_changes fun d _ => .ledger d _ rfl

/-- A pin is judged alike in every step of the lodgement in hand. -/
theorem judgePins_setStep (n : Nat) (k : EngineStep) (s : State) : judgePins (setStep n k s) = setStep n k (judgePins s) := by
  have one : ∀ (d : DriveNo) (t : State), judgePin d (setStep n k t) = setStep n k (judgePin d t) := fun d t => by
    unfold judgePin
    dsimp only
    rw [show (setStep n k t).pinned (setStep n k t).drives[d] = t.pinned t.drives[d] from rfl]
    split
    · rfl
    · rw [show (setStep n k t).drives[d] = t.drives[d] from rfl]
      split <;> rfl
  simp only [judgePins, State.forDrives, allDrives, List.foldl, one]

/-- The lodgement in hand, past step SIDE with its extent, is led to a drive or waits for one (R137, R138). -/
theorem seekDrive_changes {n : Nat} {sd : SideId} (h : ∀ k, k = .drive ∨ k = .ready → State.Changes m f s (setStep n k t)) :
    State.Changes m f s (seekDrive n sd (judgePins t)) := by
  have judged : ∀ k, k = .drive ∨ k = .ready → State.Changes m f s (setStep n k (judgePins t)) := fun k hk => by
    rw [← judgePins_setStep]
    exact (h k hk).trans judgePins_changes
  unfold seekDrive
  split
  · next d _ =>
    exact (judged .ready (.inr rfl)).trans ((workJoin_changes d _).trans (judgePins_changes.trans
      ((chooseIfFree_changes d).trans runAllocator_changes)))
  · exact (judged .drive (.inl rfl)).trans runAllocator_changes

theorem State.usable_filing {s : State} {sd : SideId} (h : s.usable sd = true) :
    (s.side? sd).map (fun r => r.role) = some .filing := by
  unfold State.usable at h
  unfold State.side?
  cases hc : s.cart? sd.cart with
  | none => simp [hc] at h
  | some r =>
    simp only [hc, Bool.and_eq_true, decide_eq_true_eq] at h
    simp [h.2]

/-- The write engine's active filing side is the one that stands, or a FILING side (R48). -/
theorem State.filingSide_spec {s : State} {sd : SideId} (h : s.filingSide = some sd) :
    sd ∈ s.lib.active ∨ (s.side? sd).map (fun r => r.role) = some .filing := by
  unfold State.filingSide at h
  split at h
  · next active => exact .inl (active.trans h)
  · exact .inr (State.usable_filing (List.find?_some h))

/-- A side becomes FULL and is active no longer (R46, R137). -/
theorem fillSide_changes (sd : SideId) (a : Option SideId) (h : ∀ x ∈ a, x ∈ s.lib.active ∧ x ≠ sd) :
    State.Changes m f s ((s.modSide sd fun r => { r with role := .full }).modLib fun l => { l with active := a }) :=
  .single (.side sd _ a ⟨fun _ _ => id, fun x hx => ⟨(h x hx).1, fun e => absurd e (h x hx).2⟩, fun _ _ => rfl⟩)

theorem wantSpace_changes : State.Changes m f s (wantSpace s) :=
  .ite (fun _ => .refl s) fun _ => State.Changes.trans (.single (.want true)) (queueNotice_changes _)

theorem askSide_changes (passes : Nat) : State.Changes m f s (askSide passes s) := by
  induction passes generalizing s with
  | zero => exact .refl s
  | succ passes ih =>
    unfold askSide
    split
    · next n hand =>
      split
      · exact wantSpace_changes.trans (judgePins_changes.trans runAllocator_changes)
      · next sd hside =>
        have chosen : State.Changes m f s (s.modLib fun l => { l with active := some sd }) :=
          .single (.lib _ ⟨rfl, fun x hx => by cases hx; exact State.filingSide_spec hside, fun _ => ⟨rfl, rfl⟩⟩)
        have wanted := chosen.trans (State.Changes.single (.want (m := m) (f := f) false))
        dsimp only
        split
        · next l r found side =>
          split
          · next fits =>
            refine seekDrive_changes fun k hk => wanted.trans (.single ?_)
            exact .allot (l.extentOn sd r.nextFree) k hand found side rfl fits hk
          · exact wanted.trans (State.Changes.trans (fillSide_changes sd none nofun) ih)
        · exact wanted
    · exact .refl s

theorem engineAsk_changes : State.Changes m f s (engineAsk s) := askSide_changes _

theorem engineTake_changes : State.Changes m f s (engineTake s) := by
  unfold engineTake
  split
  · exact .refl s
  · next hand =>
    split
    · next l hl =>
      obtain ⟨mem, staged⟩ := State.nextStaged_some hl
      exact State.Changes.trans (.single (.take hand mem staged)) engineAsk_changes
    · exact .single (.want false)

theorem engineMounted_changes (d : DriveNo) : State.Changes m f s (engineMounted d s) := by
  unfold engineMounted
  split
  · next n sd hand _ =>
    exact .ite (fun _ => State.Changes.trans (.single (.mount hand)) ((workJoin_changes d _).trans judgePins_changes))
      fun _ => .refl s
  · exact .refl s

theorem activeLost_changes : State.Changes m f s (activeLost s) := by
  unfold activeLost
  split
  · next ready =>
    split
    · next n hn =>
      split
      · next e _ =>
        refine .ite (fun _ => .refl s) fun _ => ?_
        obtain ⟨⟨_, k⟩, hand, rfl⟩ := Option.map_eq_some_iff.mp hn
        have step : k ≠ .run := by
          rintro rfl
          simp [Filing.readyForSide, hand] at ready
        exact State.Changes.trans (.single (.drop hand step)) ((removeWrite_changes _).trans (judgePins_changes.trans
          ((withdrawLoad_changes _).trans engineAsk_changes)))
      · exact .refl s
    · exact .refl s
  · exact .refl s

theorem clearActiveOf_changes (c : Nat) : State.Changes m f s (clearActiveOf c s) :=
  .single (.lib _ ⟨rfl, fun _ hx => .inl (Option.mem_filter_iff.mp hx).1, fun _ => ⟨rfl, rfl⟩⟩)

/-- A media error counts on its side and may retire it (R46). -/
theorem sideError_changes (sd : SideId) : State.Changes m f s (sideError sd s) := by
  have counted : State.Changes m f s (s.modSide sd fun r => { r with errors := min Config.maxErrors (r.errors + 1) }) :=
    .single (.side sd _ s.lib.active ⟨fun _ r hr => ⟨hr.1, Nat.min_le_left ..⟩, fun x hx => ⟨hx, fun _ _ => id⟩, fun _ _ => rfl⟩)
  unfold sideError
  dsimp only
  split
  · refine .ite (fun _ => ?_) fun _ => counted
    refine counted.trans (State.Changes.trans (fillSide_changes sd _ fun x hx => ?_) (queueNotice_changes _))
    rw [Option.mem_filter_iff] at hx
    exact ⟨hx.1, by simpa using hx.2⟩
  · exact counted

-- The request link ------------------------------------------------------------------------------------------------

/-- The lodgement whose page is arriving, if the table holds it, is RECEIVING (R131). -/
def State.arrivalOpen (s : State) : Prop := ∀ n ∈ s.link.arriving, ∀ l, s.lodgement? n = some l → l.state = .receiving

/-- A change of the request link within its capacities. -/
theorem State.Changes.link (g : Link → Link)
    (inbound : s.link.inbound.length ≤ Config.inboundBytes → (g s.link).inbound.length ≤ Config.inboundBytes)
    (outbound : s.link.outbound.length ≤ Config.outboundBytes → (g s.link).outbound.length ≤ Config.outboundBytes)
    (notices : (g s.link).notices.length ≤ s.link.notices.length)
    (arriving : f → (g s.link).arriving = none ∨ (g s.link).arriving = s.link.arriving) : State.Changes m f s (s.modLink g) :=
  .single (.outer rfl (fun ⟨hi, ho, hn, hc⟩ => ⟨inbound hi, outbound ho, notices.trans hn, hc⟩) fun hf =>
    ⟨rfl, fun n hn => (arriving hf).elim (fun none => by rw [State.modLink_link, none] at hn; cases hn) fun same => .inl (same ▸ hn)⟩)

theorem answer_changes (tag : Byte) (a : Answer) : State.Changes m f s (answer tag a s) :=
  .link _ id id (Nat.le_refl _) fun _ => .inl rfl

theorem refuse_changes (tag : Byte) (c : Code) : State.Changes m f s (refuse tag c s) := answer_changes tag _

theorem judgeOut_changes : State.Changes m f s (judgeOut s) := by
  have judged : State.Changes m f s (s.modLink (Link.judgeOut s.cfg.levels)) := .link _ id id (Nat.le_refl _) fun _ => .inr rfl
  exact .ite (fun _ => judged.trans (forDrives_changes fun d _ => chooseIfStalled_changes d)) fun _ => judged

/-- Bytes that the outbound FIFO has room for enter it. -/
theorem putOut_changes {bs : List OutByte} (h : bs.length ≤ s.link.room) : State.Changes m f s (putOut bs s) := by
  refine State.Changes.trans (.link _ id (fun ho => ?_) (Nat.le_refl _) fun _ => .inr rfl) judgeOut_changes
  simp only [Link.room, Link.outLevel] at h
  simp only [List.length_append]
  omega

theorem outBytes_length (recovery : Bool) : ∀ bs : List Byte, (outBytes recovery bs).length = bs.length
  | [] => rfl
  | [_] => rfl
  | _ :: c :: rest => congrArg (· + 1) (outBytes_length recovery (c :: rest))

theorem chooseIfStalled_bench (d : DriveNo) (s : State) : (chooseIfStalled d s).bench = s.bench := by
  unfold chooseIfStalled
  split
  · exact choose_bench s d
  · rfl

theorem forDrives_link {g : DriveNo → State → State} (h : ∀ d t, (g d t).bench = t.bench) (s : State) :
    (s.forDrives g).link = s.link := congrArg Bench.link (forDrives_bench s h)

/-- Judging the outbound level is all that a judgement does to the link. -/
theorem judgeOut_link (s : State) : (judgeOut s).link = s.link.judgeOut s.cfg.levels := by
  unfold judgeOut
  dsimp only
  split
  · rw [forDrives_link chooseIfStalled_bench, State.modLink_link]
  · rw [State.modLink_link]

theorem putOut_arriving (bs : List OutByte) (s : State) : (putOut bs s).link.arriving = s.link.arriving := by
  rw [putOut, judgeOut_link]
  rfl

/-- What a change that leaves a lodgement's state finds under its number. -/
theorem receiving_of_modLodgement {n : Nat} {g : Lodgement → Lodgement} (number : ∀ l, (g l).number = l.number)
    (state : ∀ l, (g l).state = l.state) (h : ∀ l, s.lodgement? n = some l → l.state = .receiving) :
    ∀ l, (s.modLodgement n g).lodgement? n = some l → l.state = .receiving := by
  intro l hl
  rw [State.lodgement?_modLodgement _ _ _ _ number, Option.map_eq_some_iff] at hl
  obtain ⟨k, hk, rfl⟩ := hl
  rw [if_pos rfl, state]
  exact h k hk

theorem startIdle_changes {n : Nat} (h : f → ∀ l, s.lodgement? n = some l → l.state = .receiving) :
    State.Changes m f s (startIdle n s) := by
  unfold startIdle
  exact .single (.arrival n _ (fun _ => ⟨rfl, rfl, rfl⟩) h)

theorem dropArrival_changes {n : Nat} (h : f → ∀ l, s.lodgement? n = some l → l.state = .receiving) :
    State.Changes m f s (dropArrival n s) := by
  have cut : ∀ t : State, (f → ∀ l, t.lodgement? n = some l → l.state = .receiving) →
      State.Changes m f t (startIdle n (t.modLodgement n fun l => { l with lengths := l.lengths.take l.received })) :=
    fun t ht => State.Changes.trans (t := t.modLodgement n fun l => { l with lengths := l.lengths.take l.received })
      (.single (.arrival n _ (fun _ => ⟨rfl, rfl, rfl⟩) ht)) (startIdle_changes fun hf => receiving_of_modLodgement (fun _ => rfl) (fun _ => rfl) (ht hf))
  exact (releaseIn_changes filingRing _).trans (cut _ h)

theorem endRequest_changes (h : f → s.arrivalOpen) : State.Changes m f s (endRequest s) := by
  unfold endRequest
  split
  · next n _ _ decoder =>
    exact dropArrival_changes fun hf => h hf n (by simp [Link.arriving, decoder])
  · exact .refl s

theorem detectOverflow_changes (h : f → s.arrivalOpen) : State.Changes m f s (detectOverflow s) := by
  unfold detectOverflow
  exact (endRequest_changes h).trans (.link _ (fun _ => Nat.zero_le _) id (Nat.le_refl _) fun _ => .inl rfl)

theorem placeAnswer_changes : State.Changes m f s (placeAnswer s) := by
  unfold placeAnswer
  split
  · next p _ _ =>
    refine .ite (fun room => ?_) fun _ => .refl s
    have headed : State.Changes m f s (s.modLink fun k => { k with decoder := .header [], lost := false, discarding := false }) :=
      .link _ id id (Nat.le_refl _) fun _ => .inl rfl
    have put : State.Changes m f s (putAnswer p s) := headed.trans (putOut_changes (by rw [outBytes_length]; exact room))
    have header : (putAnswer p s).link.arriving = none := putOut_arriving ..
    refine put.trans (.ite (fun _ => detectOverflow_changes fun _ n hn => ?_) fun _ => .refl _)
    rw [header] at hn
    cases hn
  · exact .refl s

theorem placeNotice_changes : State.Changes m f s (placeNotice s) := by
  unfold placeNotice
  split
  · next n rest _ hn =>
    refine .ite (fun h => ?_) fun _ => .refl s
    simp only [Bool.and_eq_true, decide_eq_true_eq] at h
    refine State.Changes.trans (.link _ id id ?_ fun _ => .inr rfl) (putOut_changes (by rw [outBytes_length]; exact h.2))
    rw [hn]
    exact Nat.le_succ _
  · exact .refl s

theorem Memory.loadPage_length (m : Memory) (shape : RingShape) (start : Nat) : ∀ j n,
    (m.loadPage shape start j n).length = n
  | _, 0 => rfl
  | j, n + 1 => congrArg (· + 1) (Memory.loadPage_length m shape start (j + 1) n)

theorem pump_changes : State.Changes m f s (pump s) := by
  unfold pump
  split
  · exact .refl s
  · split
    · exact .refl s
    · dsimp only
      refine .ite (fun _ => .refl s) fun _ => State.Changes.trans (.link _ id id (Nat.le_refl _) fun _ => .inr rfl)
        (putOut_changes ?_)
      rw [List.length_map, State.streamBytes, Memory.loadPage_length]
      exact Nat.min_le_left ..

/-- A PAGE_OUT begins with eleven bytes (R190). -/
theorem pageOutHead_length (order page pages length : Nat) : (pageOutHead order page pages length).length = headBytes := rfl

theorem beginPageOut_changes : State.Changes m f s (beginPageOut s) := by
  unfold beginPageOut
  split
  · exact .refl s
  · split
    · next d e _ =>
      refine .ite (fun room => ?_) fun _ => .refl s
      have marked : State.Changes m f s (markStreaming d s) := .outside rfl rfl rfl rfl
      have begun : State.Changes m f (markStreaming d s)
          ((markStreaming d s).modLink fun k => { k with lastRing := d.val + 1, streaming := some ⟨d, 0⟩ }) :=
        .link _ id id (Nat.le_refl _) fun _ => .inr rfl
      refine (marked.trans begun).trans ((putOut_changes ?_).trans pump_changes)
      rw [List.length_map, pageOutHead_length]
      exact room
    · exact .refl s

theorem arbitrate_changes : State.Changes m f s (arbitrate s) :=
  arbitrate_kept (P := fun t => State.Changes m f s t)
    (fun _ ht => arbiterChoose_kept ht (ht.trans placeAnswer_changes) (ht.trans placeNotice_changes)
      (ht.trans beginPageOut_changes)) (.refl s)

-- Counters and fees -----------------------------------------------------------------------------------------------

/-- A change of one counter within its capacities (R179, R180). -/
theorem State.Changes.counter (n : CounterNo) (g : Counter → Counter)
    (posts : (s.line.counters[n]).posts.length ≤ Config.maxPosts → (g s.line.counters[n]).posts.length ≤ Config.maxPosts)
    (failures : (s.line.counters[n]).failures ≤ Config.absentFailures → (g s.line.counters[n]).failures ≤ Config.absentFailures) :
    State.Changes m f s (s.modCounter n g) := by
  refine .single (.outer rfl (fun ⟨hi, ho, hn, hc⟩ => ⟨hi, ho, hn, fun x => ?_⟩) fun _ => ⟨rfl, fun _ => .inl⟩)
  rw [State.modCounter_line]
  by_cases h : x = n
  · subst h
    simpa using ⟨posts (hc x).1, failures (hc x).2⟩
  · have hval : n.val ≠ x.val := fun e => h (Fin.ext e.symm)
    simpa [Vector.getElem_set_ne _ _ hval] using hc x

/-- A change of the line that leaves its counters. -/
theorem State.Changes.line (g : Line → Line) (h : (g s.line).counters = s.line.counters) : State.Changes m f s (s.modLine g) := by
  refine .single (.outer rfl (fun ⟨hi, ho, hn, hc⟩ => ⟨hi, ho, hn, ?_⟩) fun _ => ⟨rfl, fun _ => .inl⟩)
  rw [State.modLine_line, h]
  exact hc

theorem lineChoose_changes : State.Changes m f s (lineChoose s) := by
  unfold lineChoose
  split
  · split
    · unfold beginPost
      split
      · exact .line _ rfl
      · exact .refl s
    · split
      · exact (State.Changes.counter _ _ id id).trans (.line _ rfl)
      · exact .refl s
  · exact .refl s

theorem offerItem_changes (n : CounterNo) (item : PostItem) : State.Changes m f s (offerItem n item s) :=
  .counter n _ (offerTo_length item _) id

theorem offerForAccount_changes (a : Fin 13) (item : PostItem) : State.Changes m f s (offerForAccount a item s) := by
  unfold offerForAccount
  split
  · exact (offerItem_changes _ item).trans lineChoose_changes
  · exact .refl s

theorem State.Changes.account (a : Fin 13) (g : Account → Account) : State.Changes m f s (s.modAccount a g) :=
  .outside rfl rfl rfl rfl

theorem postFee_changes (o : FetchOrder) : State.Changes m f s (postFee o s) :=
  (State.Changes.account o.account _).trans (offerForAccount_changes _ _)

theorem attemptGood_changes (n : CounterNo) : State.Changes m f s (attemptGood n s) :=
  .counter n _ id fun _ => Nat.zero_le _

theorem attemptFailed_changes (n : CounterNo) : State.Changes m f s (attemptFailed n s) := by
  unfold attemptFailed
  dsimp only
  split
  · exact (State.Changes.counter n _ id fun _ => Nat.min_le_left ..).trans (queueNotice_changes _)
  · exact .counter n _ id fun _ => Nat.min_le_left ..

theorem addressAcked_changes (n : CounterNo) : State.Changes m f s (addressAcked n s) := by
  refine .counter n _ (fun h => ?_) fun h => ?_
  · split <;> exact h
  · split
    · exact h
    · exact Nat.zero_le _

theorem settleCounter_changes (n : CounterNo) (amount : Nat) : State.Changes m f s (settleCounter n amount s) :=
  (State.Changes.account _ _).trans ((queueNotice_changes _).trans (offerItem_changes n _))

-- The end of a PAGE_OUT -------------------------------------------------------------------------------------------

/-- A change of title records that leaves what they hold on disc. -/
theorem State.Changes.title (n : Nat) (g : TitleRecord → TitleRecord)
    (h : ∀ r, (g r).current = r.current ∧ (g r).priors = r.priors) : State.Changes m f s (s.modTitle n g) := by
  refine .single (.outer rfl id fun _ => ⟨?_, fun _ => .inl⟩)
  unfold Directory.held
  rw [State.modTitle_dir, List.flatMap_map]
  congr 1
  funext r
  split
  · rw [(h r).1, (h r).2]
  · rfl

theorem countCopy_changes (n : Nat) : State.Changes m f s (countCopy n s) := .title n _ fun _ => ⟨rfl, rfl⟩

theorem completeOrder_changes (o : FetchOrder) : State.Changes m f s (completeOrder o s) := by
  have left : ∀ t : State, State.Changes m f t
      (t.modFetch fun q => { q with queue := q.queue.filter fun p => p.number ≠ o.number }) :=
    fun t => .single (.fetch _ fun h => (List.length_filter_le ..).trans h)
  exact (postFee_changes o).trans ((countCopy_changes _).trans ((left _).trans (queueNotice_changes _)))

theorem countDelivered_changes (n : Nat) : State.Changes m f s (countDelivered n s) := by
  unfold countDelivered
  dsimp only
  split
  · exact (State.Changes.order n _).trans (.ite (fun _ => completeOrder_changes _) fun _ => .refl _)
  · exact .order n _

theorem State.Changes.ring (r : Fin 7) (g : PageRing → PageRing) : State.Changes m f s (s.modRing r g) :=
  .outside rfl rfl rfl rfl

theorem endStream_changes (d : DriveNo) : State.Changes m f s (endStream d s) := by
  unfold endStream
  exact (State.Changes.ring _ _).trans (wakeLowered_changes s)

theorem endPageOut_changes : State.Changes m f s (endPageOut s) := by
  unfold endPageOut
  split
  · exact .refl s
  · split
    · exact .refl s
    · next st _ _ e _ =>
      refine .ite (fun room => ?_) fun _ => .refl s
      have put : State.Changes m f s (putLast st e s) := by
        refine State.Changes.trans (.link _ id id (Nat.le_refl _) fun _ => .inr rfl) (putOut_changes ?_)
        rw [outBytes_length, State.streamBytes, Memory.loadPage_length]
        exact room
      exact put.trans ((endStream_changes _).trans ((countDelivered_changes _).trans arbitrate_changes))

theorem levelFell_changes : State.Changes m f s (levelFell s) := by
  unfold levelFell
  split
  · exact State.Changes.trans (t := pump s) pump_changes endPageOut_changes
  · exact arbitrate_changes

-- Strobes and bytes -----------------------------------------------------------------------------------------------

theorem readByte_changes : State.Changes m f s (readByte s) := by
  have driven : ∀ b, State.Changes m f s (drive b s) := fun b => .link _ id id (Nat.le_refl _) fun _ => .inr rfl
  unfold readByte
  split
  · exact driven 0
  · split
    · exact driven 0
    · next b rest hout =>
      refine State.Changes.trans (.link _ (fun h => ?_) (fun h => ?_) ?_ fun _ => .inr ?_)
        (judgeOut_changes.trans levelFell_changes)
      · unfold endRecovery; split <;> exact h
      · rw [hout] at h
        unfold endRecovery; split <;> exact (Nat.le_succ _).trans h
      · unfold endRecovery; split <;> exact Nat.le_refl _
      · unfold endRecovery; split <;> rfl

theorem writeByte_changes (b : Byte) (h : f → s.arrivalOpen) : State.Changes m f s (writeByte b s) := by
  unfold writeByte
  split
  · exact .refl s
  · split
    · have marked : State.Changes m f s (s.modLink fun k => { k with overflow := true, hold := true }) :=
        .link _ id id (Nat.le_refl _) fun _ => .inr rfl
      unfold overflow
      exact .ite (fun _ => marked) fun _ => marked.trans (State.Changes.trans (detectOverflow_changes h) arbitrate_changes)
    · next room =>
      refine .link _ (fun _ => ?_) id (Nat.le_refl _) fun _ => .inr rfl
      simp only [Link.inLevel, Nat.not_le] at room
      simp only [Link.holdOnWrite, List.length_append, List.length_singleton]
      omega

end Sys2Proof.Machine
end
-- ==== Proofs: what the requests and the events change ====
section
/-!
SUPPORT for the invariants of family 03: every request, every event and the part's own moves as chains of changes, but for FORMAT and the
full reset, which begin anew.
-/
namespace Sys2Proof.Machine

variable {m f : Prop} {s t u : State}

-- Changes that do not mind the mechanics --------------------------------------------------------------------------

/-- Where a cartridge stands. -/
theorem State.Changes.cart (hm : ¬ m) (c : Nat) (g : Cartridge → Cartridge) (h : ∀ r, (g r).sides = r.sides) :
    State.Changes m f s (s.modCart c g) := by
  refine .single (.lib _ ⟨?_, fun _ => .inl, fun h => absurd h hm⟩)
  rw [List.map_map]
  refine List.map_congr_left fun r _ => ?_
  simp only [Function.comp_apply]
  split
  · exact h r
  · rfl

theorem setHome_changes (hm : ¬ m) (c : Option Nat) (n : Nat) : State.Changes m f s (setHome c n s) := by
  cases c with
  | none => exact .refl s
  | some c => exact .cart hm c _ fun _ => rfl

theorem modCartOf_changes (hm : ¬ m) (c : Option Nat) (g : Cartridge → Cartridge) (h : ∀ r, (g r).sides = r.sides) :
    State.Changes m f s (modCartOf c g s) := by
  cases c with
  | none => exact .refl s
  | some c => exact .cart hm c g h

/-- The mail slot, the leaving marks and the blocked slots. -/
theorem State.Changes.slots (hm : ¬ m) (g : Library → Library) (carts : (g s.lib).carts = s.lib.carts)
    (active : (g s.lib).active = s.lib.active) : State.Changes m f s (s.modLib g) :=
  .single (.lib _ ⟨by rw [carts], fun x hx => .inl (active ▸ hx), fun h => absurd h hm⟩)

/-- The tasks of the picker. -/
theorem State.Changes.tasks (hm : ¬ m) (g : Picker → Picker) (h : (g s.picker).starts = s.picker.starts) :
    State.Changes m f s (s.modPicker g) :=
  .single (.picker _ ⟨fun hs => h ▸ hs, fun h => absurd h hm, fun h => absurd h hm⟩)

/-- What a drive holds. -/
theorem State.Changes.held (hm : ¬ m) (d : DriveNo) (g : Drive → Drive) (hold : (g s.drives[d]).hold = (s.drives[d]).hold)
    (run : (g s.drives[d]).run = (s.drives[d]).run)
    (state : (g s.drives[d]).state = (s.drives[d]).state ∨
      (g s.drives[d]).state ∉ [DriveState.spindown, .writing, .verifying]) : State.Changes m f s (s.modDrive d g) := by
  refine .single (.drive d g ⟨fun hr hq => ?_, fun h => absurd h hm, fun _ hr => ⟨fun v hv hl hread => ?_, fun v hv hfile =>
    ⟨v, run ▸ hv, hfile, rfl⟩⟩⟩)
  · rcases state with same | other
    · rw [hold]
      exact hr (same ▸ hq)
    · rw [hq] at other
      simp at other
  · rcases state with same | other
    · rw [same]
      exact hr v (run ▸ hv) hl hread
    · simp only [List.mem_cons, List.not_mem_nil, or_false, not_or] at other
      exact other.2

-- Requests of the directory, the fee unit and the link ------------------------------------------------------------

theorem screened_changes {tag : Byte} {take : State → State} (h : s.condition = .ready → State.Changes m f s (take s)) :
    State.Changes m f s (screened tag take s) := by
  unfold screened
  split
  · exact refuse_changes tag _
  · next ready => exact h ready

/-- A change of the pool's figures. -/
theorem State.Changes.pool (g : Directory → Directory) (h : (g s.dir).titles = s.dir.titles) :
    State.Changes m f s (s.modDir g) :=
  .single (.outer rfl id fun _ => ⟨by unfold Directory.held; rw [State.modDir_dir, h], fun _ => .inl⟩)

theorem takeLookup_changes (tag : Byte) (t : Word24) : State.Changes m f s (takeLookup tag t s) :=
  screened_changes fun _ => .ite (fun _ => refuse_changes ..) fun _ => by
    split
    · exact refuse_changes ..
    · exact answer_changes ..

theorem takeList_changes (tag : Byte) (a b : Word24) : State.Changes m f s (takeList tag a b s) :=
  screened_changes fun _ => .ite (fun _ => refuse_changes ..) fun _ => answer_changes ..

/-- A record without a deed holds nothing on disc. -/
theorem held_insertTitle {r : TitleRecord} (current : r.current = none) (priors : r.priors = []) (ts : List TitleRecord) :
    ((insertTitle r ts).flatMap fun r => r.current.toList ++ r.priors.map fun p => p.loc) =
      ts.flatMap fun r => r.current.toList ++ r.priors.map fun p => p.loc := by
  induction ts with
  | nil => simp [insertTitle, current, priors]
  | cons q rest ih =>
    rw [insertTitle]
    split
    · simp [current, priors]
    · rw [List.flatMap_cons, List.flatMap_cons, ih]

theorem takeNewTitle_changes (tag : Byte) (t : Word24) (c : Byte) : State.Changes m f s (takeNewTitle tag t c s) :=
  screened_changes fun _ => by
    split
    · exact refuse_changes ..
    · next cls _ =>
      refine .ite (fun _ => refuse_changes ..) fun _ => .ite (fun _ => refuse_changes ..) fun _ =>
        .ite (fun _ => refuse_changes ..) fun _ => State.Changes.trans (t := addTitle (TitleRecord.fresh t.toNat cls) s) ?_
          (answer_changes ..)
      exact .single (.outer rfl id fun _ => ⟨held_insertTitle rfl rfl _, fun _ => .inl⟩)

theorem takeSetClass_changes (tag : Byte) (t : Word24) (c : Byte) : State.Changes m f s (takeSetClass tag t c s) :=
  screened_changes fun _ => by
    split
    · exact refuse_changes ..
    · refine .ite (fun _ => refuse_changes ..) fun _ => ?_
      split
      · exact refuse_changes ..
      · exact .ite (fun _ => refuse_changes ..) fun _ =>
          (answer_changes ..).after (.title _ _ fun _ => ⟨rfl, rfl⟩)

theorem closeTitle_changes (n : Nat) (successors : List Nat) (returned : Nat) :
    State.Changes m f s (closeTitle n successors returned s) :=
  State.Changes.after (.pool _ rfl) (.title _ _ fun _ => ⟨rfl, rfl⟩)

theorem takeRetire_changes (tag : Byte) (t : Word24) (n : Byte) (ts : List Word24) (stray : List Byte) :
    State.Changes m f s (takeRetire tag t n ts stray s) :=
  screened_changes fun _ => .ite (fun _ => by
    unfold retireTitle
    split
    · exact refuse_changes ..
    · refine .ite (fun _ => refuse_changes ..) fun _ => .ite (fun _ => refuse_changes ..) fun _ =>
        .ite (fun _ => refuse_changes ..) fun _ => ?_
      split
      · exact answer_changes ..
      · exact (answer_changes ..).after (closeTitle_changes ..))
    fun _ => refuse_changes ..

theorem takeFeeClass_changes (tag c : Byte) (d r ce h : Word16) : State.Changes m f s (takeFeeClass tag c d r ce h s) :=
  screened_changes fun _ => by
    split
    · exact refuse_changes ..
    · exact (answer_changes ..).after (.outside rfl rfl rfl rfl)

theorem takeDuty_changes (tag : Byte) (r : Word16) : State.Changes m f s (takeDuty tag r s) :=
  screened_changes fun _ => (answer_changes ..).after (.outside rfl rfl rfl rfl)

theorem takeAccount_changes (tag n k : Byte) (d : Word16) : State.Changes m f s (takeAccount tag n k d s) :=
  screened_changes fun _ => by
    split
    · exact (State.Changes.account _ _).trans (answer_changes ..)
    · exact refuse_changes ..

theorem takeAccountQuery_changes (tag n : Byte) : State.Changes m f s (takeAccountQuery tag n s) :=
  screened_changes fun _ => by
    split
    · exact refuse_changes ..
    · exact answer_changes ..

theorem takeSettle_changes (tag n : Byte) (a : Word32) : State.Changes m f s (takeSettle tag n a s) :=
  screened_changes fun _ => by
    split
    · exact refuse_changes ..
    · exact (State.Changes.account _ _).trans ((offerForAccount_changes _ _).trans (answer_changes ..))

theorem takeDayClose_changes (tag : Byte) : State.Changes m f s (takeDayClose tag s) :=
  screened_changes fun _ =>
    State.Changes.trans (t := closeDays s) (foldl_changes (fun _ a => .account a _) allAccounts) (answer_changes ..)

theorem takeCounterLine_changes (tag a r : Byte) : State.Changes m f s (takeCounterLine tag a r s) :=
  screened_changes fun _ => .ite (fun _ => refuse_changes ..) fun _ =>
    (answer_changes ..).after (.outside rfl rfl rfl rfl)

theorem takeLinkLevels_changes (tag : Byte) (a b c d e : Word16) : State.Changes m f s (takeLinkLevels tag a b c d e s) := by
  unfold takeLinkLevels setLevels
  have set : ∀ v, State.Changes m f s (s.modCfg fun c => { c with levels := v }) := fun v => .outside rfl rfl rfl rfl
  exact (set _).trans (State.Changes.trans (.link _ id id (Nat.le_refl _) fun _ => .inr rfl)
    (judgeOut_changes.trans (answer_changes ..)))

-- Requests of the library -----------------------------------------------------------------------------------------

/-- What IMPORT's checks leave where the table has no record (R41, R51). -/
theorem State.importRefusal_room {s : State} {c : Nat} (h : s.importRefusal c = none) (new : s.cart? c = none) :
    s.lib.carts.length < Config.maxCartridges := by
  simp only [State.importRefusal, ite_some_eq_none] at h
  exact Nat.lt_of_not_le fun full => h.2.2.2.1 ⟨new, full⟩

theorem enterCart_changes (hm : ¬ m) (c : Nat) (a b : Role) (room : s.cart? c = none → s.lib.carts.length < Config.maxCartridges)
    (range : 1 ≤ c ∧ c ≤ Config.maxCartridgeNumber) : State.Changes m f s (enterCart c a b s) := by
  cases new : s.cart? c with
  | none => exact .single (.enter c a b hm new (room new) range)
  | some r =>
    rw [show enterCart c a b s = s by simp only [enterCart, new]]
    exact .refl s

theorem enqueue_changes (hm : ¬ m) (k : Task) : State.Changes m f s (enqueue k s) := .tasks hm _ rfl

theorem acceptImport_changes (hm : ¬ m) (c : Nat) (a b : Role) (n : Nat)
    (room : s.cart? c = none → s.lib.carts.length < Config.maxCartridges) (range : 1 ≤ c ∧ c ≤ Config.maxCartridgeNumber) :
    State.Changes m f s (acceptImport c a b n s) := by
  have held : ∀ t : State, State.Changes m f t (holdForMail t) := fun t => .tasks hm _ rfl
  have placed : ∀ t : State, State.Changes m f t (t.modCart c fun r => { r with place := .mail, home := some n }) :=
    fun t => .cart hm c _ fun _ => rfl
  exact ((enterCart_changes hm c a b room range).trans (held _)).trans
    ((placed _).trans ((enqueue_changes hm _).trans pickerChoose_changes))

theorem takeImport_changes (hm : ¬ m) (tag : Byte) (c : Word16) (a b : Byte) : State.Changes m f s (takeImport tag c a b s) :=
  screened_changes fun _ => by
    split
    · refine .ite (fun _ => refuse_changes ..) fun range => ?_
      split
      · exact refuse_changes ..
      · next hpass =>
        split
        · exact refuse_changes ..
        · refine (answer_changes ..).after (acceptImport_changes hm c.toNat _ _ _ (State.importRefusal_room hpass) ?_)
          exact ⟨Nat.pos_of_ne_zero fun h => range (.inl h), Nat.le_of_not_lt fun h => range (.inr h)⟩
    · exact refuse_changes ..

theorem releaseFor_changes (p : Place) : State.Changes m f s (releaseFor p s) := by
  cases p with
  | drive d => exact askRelease_changes d
  | _ => exact .refl s

theorem acceptExport_changes (hm : ¬ m) (c : Nat) (p : Place) : State.Changes m f s (acceptExport c p s) := by
  have marked : State.Changes m f s (s.modLib fun l => { l with leaving := l.leaving ++ [c] }) :=
    .single (.lib _ ⟨rfl, fun _ => .inl, fun _ => ⟨rfl, rfl⟩⟩)
  have judged := marked.trans ((clearActiveOf_changes c).trans judgePins_changes)
  exact (judged.trans (enqueue_changes hm _)).trans ((releaseFor_changes p).trans pickerChoose_changes)

theorem takeExport_changes (hm : ¬ m) (tag : Byte) (c : Word16) : State.Changes m f s (takeExport tag c s) :=
  screened_changes fun _ => by
    split
    · exact refuse_changes ..
    · split
      · exact refuse_changes ..
      · exact (answer_changes ..).after (acceptExport_changes hm ..)

/-- A side takes the role FILING; the active filing side stands (R57). -/
theorem fileSide_changes (sd : SideId) : State.Changes m f s (s.modSide sd fun r => { r with role := .filing }) :=
  .single (.side sd _ s.lib.active ⟨fun _ _ => id, fun _ hx => ⟨hx, fun _ _ _ => rfl⟩, fun _ _ => rfl⟩)

/-- A side takes a role and is active no longer (R57). -/
theorem closeSide_changes (sd : SideId) (role : Role) : State.Changes m f s
    ((s.modSide sd fun r => { r with role := role }).modLib fun l => { l with active := l.active.filter fun a => a ≠ sd }) := by
  refine .single (.side sd _ (s.lib.active.filter fun a => a ≠ sd) ⟨fun _ _ => id, fun x hx => ?_, fun _ _ => rfl⟩)
  rw [Option.mem_filter_iff] at hx
  exact ⟨hx.1, fun e => absurd e (by simpa using hx.2)⟩

theorem changeRole_changes (sd : SideId) (role : Role) : State.Changes m f s (changeRole sd role s) := by
  cases role with
  | filing => exact State.Changes.after engineAsk_changes (fileSide_changes sd)
  | archive => exact (runAllocator_changes.after judgePins_changes).after (closeSide_changes sd .archive)
  | full => exact (runAllocator_changes.after judgePins_changes).after (closeSide_changes sd .full)

theorem takeSideRole_changes (tag : Byte) (c : Word16) (sd r : Byte) : State.Changes m f s (takeSideRole tag c sd r s) :=
  screened_changes fun _ => by
    split
    · refine .ite (fun _ => refuse_changes ..) fun _ => ?_
      split
      · exact refuse_changes ..
      · exact .ite (fun _ => answer_changes ..) fun _ => .ite (fun _ => refuse_changes ..) fun _ =>
          .ite (fun _ => refuse_changes ..) fun _ => (changeRole_changes _ _).trans (answer_changes ..)
    · exact refuse_changes ..

theorem takeShelfQuery_changes (tag : Byte) (c : Word16) : State.Changes m f s (takeShelfQuery tag c s) :=
  screened_changes fun _ => .ite (fun _ => refuse_changes ..) fun _ => by
    split
    · exact refuse_changes ..
    · exact answer_changes ..

theorem takeTiming_changes (tag : Byte) (h l w q i r : SentSetting) : State.Changes m f s (takeTiming tag h l w q i r s) :=
  screened_changes fun _ => by
    split
    · exact refuse_changes ..
    · next v _ =>
      refine .ite (fun _ => refuse_changes ..) fun _ => ?_
      have set : State.Changes m f s (s.modCfg fun c => { c with timing := v }) := .outside rfl rfl rfl rfl
      exact set.trans (setReopening_changes.trans (pickerChoose_changes.trans (answer_changes ..)))

theorem takeDriveQuery_changes (tag : Byte) : State.Changes m f s (takeDriveQuery tag s) :=
  screened_changes fun _ => answer_changes ..

theorem takeRing_changes (tag n : Byte) (b k : Word16) : State.Changes m f s (takeRing tag n b k s) :=
  screened_changes fun _ => by
    split
    · exact refuse_changes ..
    · refine .ite (fun _ => refuse_changes ..) fun _ => .ite (fun _ => refuse_changes ..) fun _ => ?_
      exact (answer_changes ..).after (.outside rfl rfl rfl rfl)

-- Requests of the fetch scheduler ---------------------------------------------------------------------------------

theorem attach_changes (d : DriveNo) (n : Nat) : State.Changes m f s (attach d n s) :=
  (State.Changes.order n _).trans (workJoin_changes d _)

theorem placeOrder_changes (o : FetchOrder) (room : s.fetch.queue.length < Config.maxOrders) :
    State.Changes m f s (placeOrder o s) := by
  have entered : State.Changes m f s (enterOrder o s) := .single (.fetch _ fun _ => by simpa using room)
  unfold placeOrder
  split
  · exact entered.trans ((attach_changes _ _).trans (chooseIfFree_changes _))
  · refine .ite (fun _ => ?_) fun _ => entered.trans runAllocator_changes
    have numbered : State.Changes m f s (s.modFetch fun q => { q with last := o.number }) := .single (.fetch _ id)
    exact numbered.trans (queueNotice_changes _)

theorem takeOrder_changes (tag : Byte) (t : Word24) (e : Word16) (a k : Byte) : State.Changes m f s (takeOrder tag t e a k s) :=
  screened_changes fun _ => by
    split
    · exact refuse_changes ..
    · refine .ite (fun _ => refuse_changes ..) fun _ => .ite (fun _ => answer_changes ..) fun _ =>
        .ite (fun _ => refuse_changes ..) fun _ => ?_
      split
      · exact refuse_changes ..
      · refine .ite (fun _ => refuse_changes ..) fun _ => .ite (fun _ => refuse_changes ..) fun _ => ?_
        split
        · exact .ite (fun _ => refuse_changes ..) fun room =>
            (placeOrder_changes _ (Nat.lt_of_not_le room)).trans (answer_changes ..)
        · exact refuse_changes ..

theorem cancelOrder_changes (o : FetchOrder) : State.Changes m f s (cancelOrder o s) := by
  have removed : State.Changes m f s
      (wakeLowered (removeOrder o.number s) (releaseOrder o.number (removeOrder o.number s))) :=
    (removeOrder_changes _).trans ((releaseOrder_changes _).trans (wakeLowered_changes _))
  unfold cancelOrder
  dsimp only
  split
  · exact removed.trans (chooseIfStalled_changes _)
  · exact .ite (fun _ => removed.trans (withdrawLoad_changes _)) fun _ => removed

theorem takeCancel_changes (tag : Byte) (n : Word16) : State.Changes m f s (takeCancel tag n s) :=
  screened_changes fun _ => by
    split
    · exact refuse_changes ..
    · exact .ite (fun _ => refuse_changes ..) fun _ => (cancelOrder_changes _).trans (answer_changes ..)

theorem takeOrderQuery_changes (tag : Byte) (n : Word16) : State.Changes m f s (takeOrderQuery tag n s) :=
  screened_changes fun _ => by
    split
    · exact refuse_changes ..
    · exact answer_changes ..

-- Requests of the filing unit -------------------------------------------------------------------------------------

/-- The lodgement table loses lodgements or none, and the rest changes. -/
theorem Filing.Change.sublist {g h : Filing} (sub : h.table.Sublist g.table) : Filing.Change g h :=
  ⟨fun hg => sub.length_le.trans hg, fun l hl _ he => ⟨l, sub.subset hl, he⟩⟩

/-- One lodgement changes and gains no extent. -/
theorem State.Changes.lodgement (hf : ¬ f) (n : Nat) (g : Lodgement → Lodgement) (h : ∀ l, ∀ e ∈ (g l).extent, e ∈ l.extent) :
    State.Changes m f s (s.modLodgement n g) := by
  refine .single (.filing _ hf ⟨fun room => by simpa using room, fun l hl e he => ?_⟩)
  obtain ⟨k, hk, rfl⟩ := List.mem_map.mp hl
  refine ⟨k, hk, ?_⟩
  split at he
  · exact h k e he
  · exact he

theorem enterLodgement_changes (hf : ¬ f) {l : Lodgement} (extent : l.extent = none)
    (room : s.filing.table.length < Config.maxLodgements) : State.Changes m f s (enterLodgement l s) := by
  have reserved : ∀ t : State, State.Changes m f t (reserve l.kind t) := fun t => by
    unfold reserve
    split
    · exact .pool _ rfl
    · exact .refl t
  refine (reserved _).after (.single (.filing _ hf ⟨fun _ => by simpa using room, fun q hq x hx => ?_⟩))
  rcases List.mem_append.mp hq with hq | hq
  · exact ⟨q, hq, hx⟩
  · obtain rfl := List.mem_singleton.mp hq
    rw [extent] at hx
    cases hx

theorem takeLodge_changes (hf : ¬ f) (tag : Byte) (t : Word24) (k n e : Byte) : State.Changes m f s (takeLodge tag t k n e s) :=
  screened_changes fun _ => by
    split
    · exact refuse_changes ..
    · split
      · exact refuse_changes ..
      · refine .ite (fun _ => refuse_changes ..) fun _ => ?_
        split
        · exact refuse_changes ..
        · next hnone =>
          exact (answer_changes ..).after (enterLodgement_changes hf rfl (State.lodgeRefusal_none hnone).2.2.2.2.2)

theorem enterBody_changes {tag : Byte} {fate : BodyFate} {left : Nat}
    (h : f → ∀ n length, fate = .admitted n length → ∀ l, s.lodgement? n = some l → l.state = .receiving) :
    State.Changes m f s (enterBody tag fate left s) := by
  refine .single (.outer rfl id fun hf => ⟨rfl, fun n hn => .inr ?_⟩)
  cases fate with
  | admitted k length =>
    obtain rfl : k = n := by simpa [enterBody, Link.arriving] using hn
    exact h hf k length rfl
  | refused a => simp [enterBody, Link.arriving] at hn

theorem refuseBody_changes (tag : Byte) (c : Code) (left : Nat) : State.Changes m f s (refuseBody tag c left s) :=
  .ite (fun _ => refuse_changes ..) fun _ => enterBody_changes fun _ _ _ h => by cases h

theorem takePageIn_changes (tag : Byte) (n : Word16) (l : Byte) (bytes : Nat) : State.Changes m f s (takePageIn tag n l bytes s) := by
  unfold takePageIn
  split
  · exact refuseBody_changes ..
  · unfold checkPage
    split
    · exact refuseBody_changes ..
    · next k hk =>
      refine .ite (fun _ => refuseBody_changes ..) fun _ => .ite (fun _ => refuseBody_changes ..) fun receiving =>
        .ite (fun _ => refuseBody_changes ..) fun _ => ?_
      split
      · exact refuseBody_changes ..
      · next g _ =>
        obtain ⟨number, -⟩ := State.lodgement?_spec hk
        have state : ∀ q, s.lodgement? n.toNat = some q → q.state = .receiving := fun q hq => by
          obtain rfl := Option.some.inj (hk.symm.trans hq)
          exact not_not.mp receiving
        have admitted : State.Changes m f (s.modRing filingRing fun _ => g) (admitPage k l.toNat g s) :=
          .single (.arrival k.number (fun m => { m with lengths := m.lengths ++ [l.toNat], idle := none })
            (fun _ => ⟨rfl, rfl, rfl⟩) fun _ => by rw [number]; exact state)
        refine (State.Changes.ring _ _).trans (admitted.trans (enterBody_changes fun _ i _ hi => ?_))
        cases hi
        unfold admitPage
        rw [number]
        exact receiving_of_modLodgement (s := s.modRing filingRing fun _ => g) (fun _ => rfl) (fun _ => rfl) state

theorem discardBody_changes (tag : Byte) (a : Answer) (left : Nat) : State.Changes m f s (discardBody tag a left s) :=
  .ite (fun _ => answer_changes ..) fun _ => .link _ id id (Nat.le_refl _) fun _ => .inl rfl

theorem leaveTable_changes (hf : ¬ f) (n : Nat) : State.Changes m f s (leaveTable n s) := by
  unfold leaveTable releaseLodgement
  exact (releaseIn_changes _ _).trans (.single (.filing _ hf (.sublist List.filter_sublist)))

theorem letGo_changes (hf : ¬ f) (n : Nat) : State.Changes m f s (letGo n s) :=
  .ite (fun _ => State.Changes.trans (.single (.filing (fun g => { g with hand := none }) hf (.sublist (.refl _))))
    (removeWrite_changes n)) fun _ => .refl s

theorem endLodgement_changes (hf : ¬ f) (l : Lodgement) : State.Changes m f s (endLodgement l s) := by
  have returned : State.Changes m f s (dropReserved l.kind s) := by
    unfold dropReserved
    split
    · exact .pool _ rfl
    · exact .refl s
  exact returned.trans ((leaveTable_changes hf _).trans (letGo_changes hf _))

theorem stopRuns_changes (n : Nat) : State.Changes m f s (stopRuns n s) := by
  refine forDrives_changes fun d t => .single (.drive d _ (.mark _ (fun u => ?_) _ rfl))
  split
  · exact .inr nofun
  · exact .inl rfl

theorem abandonLodgement_changes (hf : ¬ f) (l : Lodgement) : State.Changes m f s (abandonLodgement l s) := by
  have ended : State.Changes m f s (judgePins (endLodgement l (stopRuns l.number s))) :=
    (stopRuns_changes _).trans ((endLodgement_changes hf l).trans judgePins_changes)
  have met : ∀ t : State, State.Changes m f t (runAllocator (engineTake (meetDrives t))) := fun t =>
    State.Changes.trans (forDrives_changes fun d _ => .ite (fun _ => lingerJudge_changes d) fun _ => .refl _)
      (engineTake_changes.trans runAllocator_changes)
  unfold abandonLodgement
  dsimp only
  split
  · exact (ended.trans (withdrawLoad_changes _)).trans (met _)
  · exact ended.trans (met _)

theorem takeAbandon_changes (hf : ¬ f) (tag : Byte) (n : Word16) : State.Changes m f s (takeAbandon tag n s) :=
  screened_changes fun _ => by
    split
    · exact refuse_changes ..
    · exact .ite (fun _ => refuse_changes ..) fun _ => (abandonLodgement_changes hf _).trans (answer_changes ..)

theorem takeLodgeQuery_changes (tag : Byte) (n : Word16) : State.Changes m f s (takeLodgeQuery tag n s) :=
  screened_changes fun _ => by
    split
    · exact refuse_changes ..
    · exact .ite (fun _ => refuse_changes ..) fun _ => answer_changes ..

-- The queue reset -------------------------------------------------------------------------------------------------

theorem Run.resetMark_mark (u : Run) : u.resetMark.mark ≠ .live := by
  unfold Run.resetMark
  split <;> nofun

/-- A queue reset leaves what a drive holds and begins no run (R85). -/
theorem Drive.queueReset_change (t : Nat) (loading : Bool) (r : Drive) : Drive.Change m f r (r.queueReset t loading) := by
  have live : ∀ u ∈ (r.queueReset t loading).run, u.mark ≠ .live := fun u hu => by
    obtain ⟨v, -, rfl⟩ := Option.mem_map.mp hu
    exact v.resetMark_mark
  refine ⟨fun hr hq => ?_, fun _ => ?_, fun _ _ => ⟨fun u hu hl => absurd hl (live u hu), fun u hu hfile => ?_⟩⟩
  · refine hr ?_
    simp only [Drive.queueReset] at hq
    split at hq
    · cases hq
    · exact hq
  · have phase : (r.queueReset t loading).state.phase = r.state.phase := by
      simp only [Drive.queueReset]
      split
      · next h => rw [h]; rfl
      · rfl
    rw [Drive.berth, Drive.berth, phase]
    rfl
  · simp only [Run.files, Bool.and_eq_true, decide_eq_true_eq] at hfile
    exact absurd hfile.1 (live u hu)

theorem resetQueues_changes (d : DriveNo) : State.Changes m f s (resetQueues d s) := by
  have reset : State.Changes m f s (s.modDrive d (Drive.queueReset s.now (s.loadQueued d))) :=
    .single (.drive d _ (Drive.queueReset_change ..))
  unfold resetQueues
  dsimp only
  split
  · exact reset.trans ((askRelease_changes d).trans (lingerJudge_changes d))
  · exact reset.trans (lingerJudge_changes d)

theorem withdrawLoads_changes : State.Changes m f s (withdrawLoads s) :=
  .single (.picker _ (.dropLoads _ fun k hk => by simp [hk]))

theorem emptyQueues_changes (hf : ¬ f) : State.Changes m f s (emptyQueues s) := by
  have returned : State.Changes m f s (s.modDir fun d => { d with reserved := d.reserved - s.filing.adding }) := .pool _ rfl
  have unqueued : ∀ t : State, State.Changes m f t (t.modFetch fun q => { q with queue := [] }) := fun t =>
    .single (.fetch _ fun _ => Nat.zero_le _)
  have cleared : ∀ t : State, State.Changes m f t (t.modFiling fun g => { g with table := [], hand := none, wanting := false }) :=
    fun t => .single (.filing _ hf (.sublist (List.nil_sublist _)))
  exact (returned.trans (unqueued _)).trans (cleared _)

theorem resetBlocks_changes (hf : ¬ f) : State.Changes m f s (resetBlocks s) := by
  have released : State.Changes m f s (releaseRings s) := foldl_changes (fun t r => releaseIn_changes r _) _
  have emptied := released.trans (emptyQueues_changes (m := m) hf)
  exact emptied.trans ((forDrives_changes fun d _ => resetQueues_changes d).trans withdrawLoads_changes)

-- The body of a PAGE_IN -------------------------------------------------------------------------------------------

theorem countPage_changes (l : Lodgement) (n : Nat) (h : f → ∀ q, s.lodgement? l.number = some q → q.state = .receiving) :
    State.Changes m f s (countPage l n s) :=
  State.Changes.after (.single (.arrival _ _ (fun _ => ⟨rfl, rfl, rfl⟩) h)) (.ring _ _)

theorem stageLodgement_changes (hf : ¬ f) (n : Nat) : State.Changes m f s (stageLodgement n s) :=
  (engineTake_changes.after judgePins_changes).after
    (State.Changes.after (.single (.filing _ hf (.sublist (.refl _)))) (.lodgement hf n _ fun _ _ => id))

theorem endBody_changes (hf : ¬ f) (tag : Byte) (fate : BodyFate) : State.Changes m f s (endBody tag fate s) := by
  unfold endBody
  split
  · unfold pageArrived
    split
    · exact refuse_changes ..
    · dsimp only
      refine .ite (fun _ => ?_) fun _ => ?_
      · exact (countPage_changes _ _ fun h => absurd h hf).trans ((stageLodgement_changes hf _).trans (answer_changes ..))
      · exact (countPage_changes _ _ fun h => absurd h hf).trans ((startIdle_changes fun h => absurd h hf).trans (answer_changes ..))
  · exact answer_changes ..

theorem storeArrival_changes (n length left : Nat) (bs : List Byte) : State.Changes m f s (storeArrival n length left bs s) := by
  unfold storeArrival
  split
  · exact .outside rfl rfl rfl rfl
  · exact .refl s

theorem readBody_changes (hf : ¬ f) (tag : Byte) (fate : BodyFate) (left : Nat) (bs : List Byte) :
    State.Changes m f s (readBody tag fate left bs s) := by
  have read : ∀ t : State, State.Changes m f t
      (if left ≤ bs.length then endBody tag fate t else enterBody tag fate (left - bs.length) t) := fun t =>
    .ite (fun _ => endBody_changes hf ..) fun _ => enterBody_changes fun h => absurd h hf
  refine (read _).after ?_
  cases fate with
  | admitted n length => exact storeArrival_changes ..
  | refused a => exact .refl s

end Sys2Proof.Machine
end
-- ==== Proofs: what the events change ====
section
/-!
SUPPORT for the invariants of family 03: every event of the mechanism port, of the timers and of the counter line as a chain of changes.
-/
namespace Sys2Proof.Machine

variable {m f : Prop} {s t u : State}

-- Picker and mail slot --------------------------------------------------------------------------------------------

theorem endTask_changes (hm : ¬ m) : State.Changes m f s (endTask s) := .tasks hm _ rfl

theorem clearLeaving_changes (c : Nat) : State.Changes m f s (clearLeaving c s) :=
  .single (.lib _ ⟨rfl, fun _ => .inl, fun _ => ⟨rfl, rfl⟩⟩)

theorem retarget_changes (hm : ¬ m) : State.Changes m f s (retarget s) := by
  unfold retarget
  split
  · split
    · exact (setHome_changes hm _ _).after (.tasks hm _ rfl)
    · exact .refl s
  · exact .refl s

theorem slotOpened_changes (hm : ¬ m) : State.Changes m f s (slotOpened s) :=
  (retarget_changes hm).trans (State.Changes.trans (forDrives_changes fun d _ => releaseUnrecorded_changes d) pickerChoose_changes)

theorem leavePoint_changes (hm : ¬ m) (p : PickPoint) : State.Changes m f s (leavePoint p s) := by
  cases p with
  | slot n => exact .refl s
  | drive d => exact (judgePin_changes d).after (.held hm d _ rfl rfl (.inl rfl))
  | mail => exact .slots hm (fun l => { l with mail := false }) rfl rfl

theorem pickDone_changes (hm : ¬ m) (p : PickPoint) (a : Active) : State.Changes m f s (pickDone p a s) := by
  have left := (leavePoint_changes (f := f) hm p).after (modCartOf_changes (s := s) hm a.task.cart (fun r => { r with place := .picker })
    fun _ => rfl)
  unfold pickDone
  exact left.trans (.tasks hm _ rfl)

theorem picked_changes (hm : ¬ m) (p : PickPoint) : State.Changes m f s (picked p s) := by
  unfold picked
  split
  · exact .ite (fun _ => pickDone_changes hm p _) fun _ => .refl s
  · exact .refl s

theorem afterTask_changes : State.Changes m f s (afterTask s) := pickerChoose_changes.after runAllocator_changes

theorem emptyDrive_changes (hm : ¬ m) (a : Active) : State.Changes m f s (emptyDrive a s) := by
  unfold emptyDrive
  split
  · next d _ _ =>
    refine .held hm d _ ?_ ?_ ?_
    · split <;> rfl
    · split <;> rfl
    · split
      · exact .inr (by simp)
      · exact .inl rfl
  · exact .refl s

theorem importPlaced_changes (a : Active) (n : Nat) : State.Changes m f s (importPlaced a n s) := by
  unfold importPlaced
  split
  · exact engineAsk_changes.after (queueNotice_changes _)
  · exact .refl s

theorem placeInSlot_changes (hm : ¬ m) (n : Nat) (a : Active) : State.Changes m f s (placeInSlot n a s) :=
  (afterTask_changes.after (importPlaced_changes a n)).after ((endTask_changes hm).after ((emptyDrive_changes hm a).after
    (modCartOf_changes hm _ _ fun _ => rfl)))

theorem trapPlaced_changes (d : DriveNo) (c : Option Nat) : State.Changes m f s (trapPlaced d c s) := by
  unfold trapPlaced
  split
  · exact .ite (fun _ => activeLost_changes.after ((failOrders_changes _ _).after (clearActiveOf_changes _))) fun _ => .refl s
  · exact .refl s

theorem placeInDrive_changes (hm : ¬ m) (d : DriveNo) (a : Active) : State.Changes m f s (placeInDrive d a s) := by
  have moved : State.Changes m f s (modCartOf a.task.cart (fun r => { r with place := .drive d }) s) :=
    modCartOf_changes hm _ _ fun _ => rfl
  have ended : ∀ t : State, State.Changes m f t (afterTask (endTask t)) := fun t => afterTask_changes.after (endTask_changes hm)
  have loaded : ∀ t : State, State.Changes m f t (t.modDrive d (takeLoad a)) := fun t =>
    .held hm d _ rfl rfl (.inr (by simp [takeLoad]))
  have back : ∀ t : State, State.Changes m f t (t.modDrive d (takeBack a)) := fun t => .held hm d _ rfl rfl <| by
    simp only [takeBack]
    split
    · next h => exact .inl h.symm
    · exact .inr (by decide)
  unfold placeInDrive
  dsimp only
  split
  · exact (ended _).after ((loaded _).after moved)
  · exact (ended _).after ((trapPlaced_changes d _).after ((dropReservation_changes d).after ((back _).after moved)))

theorem mailNotice_changes (a : Active) : State.Changes m f s (mailNotice a s) := by
  unfold mailNotice
  split
  · exact (queueNotice_changes _).after (clearLeaving_changes _)
  · exact queueNotice_changes _
  · exact .refl s

theorem placeInMail_changes (hm : ¬ m) (a : Active) : State.Changes m f s (placeInMail a s) := by
  have occupied : ∀ t : State, State.Changes m f t (t.modLib fun l => { l with mail := true }) := fun t => .slots hm _ rfl rfl
  exact ((slotOpened_changes hm).after runAllocator_changes).after ((endTask_changes hm).after ((mailNotice_changes a).after
    ((occupied _).after (modCartOf_changes hm _ _ fun _ => rfl))))

theorem placed_changes (hm : ¬ m) (p : PickPoint) : State.Changes m f s (placed p s) := by
  unfold placed
  split
  · next a _ =>
    refine .ite (fun _ => arbitrate_changes.after ?_) fun _ => .refl s
    cases p with
    | slot n => exact placeInSlot_changes hm n a
    | drive d => exact placeInDrive_changes hm d a
    | mail => exact placeInMail_changes hm a
  · exact .refl s

theorem slotOccupied_changes (hm : ¬ m) (n : Nat) : State.Changes m f s (slotOccupied n s) := by
  have blocked : State.Changes m f s (blockSlot n s) := .slots hm _ rfl rfl
  unfold slotOccupied
  split
  · refine .ite (fun _ => ?_) fun _ => .refl s
    unfold retargetTask
    split
    · exact ((setHome_changes hm _ _).after (.tasks hm _ rfl)).after blocked
    · exact State.Changes.after (.tasks hm _ rfl) blocked
  · exact .refl s

theorem mailPlaced_changes (hm : ¬ m) : State.Changes m f s (s.modLib fun l => { l with mail := true }) := .slots hm _ rfl rfl

theorem removeImport_changes (hm : ¬ m) (c : Nat) : State.Changes m f s (removeImport c s) :=
  .ite (fun _ => (queueNotice_changes _).after (.tasks hm _ rfl)) fun _ => .refl s

theorem mailEmptied_changes (hm : ¬ m) : State.Changes m f s (mailEmptied s) := by
  have emptied : State.Changes m f s (s.modLib fun l => { l with mail := false }) := .slots hm _ rfl rfl
  have out : ∀ t : State, State.Changes m f t (takeOut t) := fun t => by
    unfold takeOut
    split
    · exact .ite (fun _ => .refl t) fun _ => (removeImport_changes hm _).after (.cart hm _ _ fun _ => rfl)
    · exact .refl t
  have freed : ∀ t : State, State.Changes m f t (freeMail t) := fun t => .tasks hm _ rfl
  exact .ite (fun _ => (arbitrate_changes.after (slotOpened_changes hm)).after ((freed _).after ((out _).after emptied)))
    fun _ => .refl s

-- The picker fault ------------------------------------------------------------------------------------------------

theorem dropTask_changes (hm : ¬ m) (k : Task) : State.Changes m f s (dropTask k s) := by
  unfold dropTask
  split
  · refine .cart hm _ _ fun r => ?_
    split <;> rfl
  · exact engineAsk_changes.after (clearLeaving_changes _)
  · exact .refl s

theorem endDriveTask_changes (hm : ¬ m) (a : Active) : State.Changes m f s (endDriveTask a s) := by
  unfold endDriveTask
  split
  · next d _ =>
    refine .held hm d _ ?_ ?_ ?_
    · split <;> rfl
    · split <;> rfl
    · split
      · exact .inr (by simp)
      · exact .inl rfl
  · exact .refl s

theorem pickerFaults_changes (hm : ¬ m) : State.Changes m f s (pickerFaults s) := by
  have dropped : ∀ t : State, State.Changes m f t (t.modPicker fun p => { p with state := .fault, queue := [], active := none }) :=
    fun t => .tasks hm _ rfl
  have released : ∀ t : State, State.Changes m f t (t.forDrives fun d t => t.modDrive d Drive.pickerFault) := fun t =>
    forDrives_changes fun d _ => .ledger d _ rfl
  have tasks : ∀ t : State, State.Changes m f t (s.picker.tasks.foldl (fun t k => dropTask k t) t) := fun t =>
    foldl_changes (fun _ k => dropTask_changes hm k) _
  unfold pickerFaults
  dsimp only
  split
  · exact ((failOrders_changes _ _).after (tasks _)).after ((released _).after ((dropped _).after (endDriveTask_changes hm _)))
  · exact ((failOrders_changes _ _).after (tasks _)).after ((released _).after (dropped _))

theorem faultPicker_changes (hm : ¬ m) : State.Changes m f s (faultPicker s) :=
  .ite (fun _ => .refl s) fun _ => arbitrate_changes.after ((queueNotice_changes _).after (pickerFaults_changes hm))

-- The mechanism reset ---------------------------------------------------------------------------------------------

theorem settleCart_changes (hm : ¬ m) (rep : DriveReport) (c : Nat) : State.Changes m f s (settleCart rep c s) := by
  have lost : State.Changes m f s (s.modCart c Cartridge.lost) := .cart hm c _ fun _ => rfl
  cases rep with
  | absent | vacant => exact (clearActiveOf_changes c).after lost
  | fault _ => exact clearActiveOf_changes c
  | holding _ => exact .refl s

theorem resetDrive_changes (hm : ¬ m) (report : MechReport) (d : DriveNo) : State.Changes m f s (resetDrive report d s) := by
  have set : State.Changes m f s (s.modDrive d (DriveReport.set report.drives[d] (s.cartAt (.drive d)))) := by
    refine .held hm d _ ?_ ?_ ?_
    · cases report.drives[d] <;> rfl
    · cases report.drives[d] <;> rfl
    · cases report.drives[d] <;> exact .inr (by simp [DriveReport.set])
  have dropped : ∀ t : State, State.Changes m f t (dropLoadOf d t) := fun t =>
    .ite (fun _ => dropReservation_changes d) fun _ => .refl t
  unfold resetDrive
  dsimp only
  split
  · exact (dropped _).after ((settleCart_changes hm _ _).after set)
  · exact (dropped _).after set

theorem resetGrip_changes (hm : ¬ m) (rep : PickerReport) : State.Changes m f s (resetGrip rep s) := by
  unfold resetGrip
  split
  · exact (clearActiveOf_changes _).after (.cart hm _ _ fun _ => rfl)
  · exact .refl s

theorem resetMailCarts_changes (hm : ¬ m) : State.Changes m f s (resetMailCarts s) := by
  refine .single (.lib _ ⟨?_, fun x hx => .inl (Option.mem_filter_iff.mp hx).1, fun h => absurd h hm⟩)
  rw [List.map_map]
  refine List.map_congr_left fun r _ => ?_
  simp only [Function.comp_apply, Cartridge.resetMail]
  split <;> rfl

theorem queueSweep_changes (hm : ¬ m) (rep : PickerReport) : State.Changes m f s (queueSweep rep s) :=
  .ite (fun _ => pickerFaults_changes hm) fun _ => .tasks hm _ rfl

theorem mechanismReset_changes (hm : ¬ m) (report : MechReport) : State.Changes m f s (mechanismReset report s) := by
  have found : State.Changes m f s (resetMailCarts (resetGrip report.picker (s.forDrives (resetDrive report)))) :=
    ((resetMailCarts_changes hm).after (resetGrip_changes hm _)).after (forDrives_changes fun d _ => resetDrive_changes hm report d)
  have done : ∀ t : State, State.Changes m f t { t with mechReset := false } := fun t => .single (.swept hm)
  exact .ite (fun _ => ((arbitrate_changes.after pickerChoose_changes).after (runAllocator_changes.after activeLost_changes)).after
    (judgePins_changes.after ((queueSweep_changes hm _).after ((done _).after found)))) fun _ => .refl s

-- Drives ----------------------------------------------------------------------------------------------------------

theorem State.runIn_eq_some {s : State} {d : DriveNo} {state : DriveState} {u : Run} :
    s.runIn d state = some u ↔ (s.drives[d]).state = state ∧ (s.drives[d]).run = some u := by
  unfold State.runIn
  split <;> simp_all

theorem running_of_runIn {d : DriveNo} {state : DriveState} {u : Run} (h : s.runIn d state = some u) (phase : state.phase = .idle) :
    s.running d := (congrArg DriveState.phase (State.runIn_eq_some.mp h).1).trans phase

theorem attachWaiting_changes (d : DriveNo) : State.Changes m f s (attachWaiting d s) := by
  unfold attachWaiting
  split
  · exact .ite (fun _ => .refl s) fun _ => foldl_changes (fun _ n => attach_changes d n) _
  · exact .refl s

/-- A drive in SPINUP enters IDLE (R63). -/
theorem spunUp_changes {d : DriveNo} (h : (s.drives[d]).state = .spinup) (now hold : Nat) :
    State.Changes m f s (s.modDrive d (Drive.spunUp now hold)) :=
  .turn d _ (fun _ => congrArg DriveState.phase h) rfl (.inl nofun) ⟨nofun, nofun⟩ fun _ => .inl

theorem spinUp_changes (d : DriveNo) : State.Changes m f s (spinUp d s) := by
  refine .ite (fun h => ?_) fun _ => .refl s
  have begun := spunUp_changes (m := m) (f := f) h s.now s.cfg.timing.hold.quarters
  have idle : (s.modDrive d (Drive.spunUp s.now s.cfg.timing.hold.quarters)).running d := by
    unfold State.running
    rw [State.modDrive_get, if_pos rfl]
    rfl
  have joined := (judgePins_changes.after (engineMounted_changes d)).after (attachWaiting_changes (m := m) (f := f)
    (s := s.modDrive d (Drive.spunUp s.now s.cfg.timing.hold.quarters)) d)
  exact (begun.trans joined).trans (choose_changes fun hm => joined.running hm d idle)

theorem spinDown_changes (hm : ¬ m) (d : DriveNo) : State.Changes m f s (spinDown d s) := by
  have unloading : State.Changes m f s (s.modDrive d fun r => { r with state := .unloading }) :=
    .held hm d _ rfl rfl (.inr (by simp))
  exact .ite (fun _ => .ite (fun _ => unloading) fun _ => (pickerChoose_changes.after (enqueue_changes hm _)).after unloading)
    fun _ => .refl s

theorem indexRead_changes {d : DriveNo} (hd : m → s.running d) (n : Nat) (ls : List Nat) :
    State.Changes m f s (indexRead d n ls s) := by
  have buffered : State.Changes m f s (s.modDrive d fun r => { r with indexBuffer := ls }) := .ledger d _ rfl
  have ended := buffered.trans (endRun_changes (m := m) (f := f) d)
  have next : ∀ t : State, State.Changes m f (endRun d (s.modDrive d fun r => { r with indexBuffer := ls })) t →
      State.Changes m f s (choose d t) := fun t ht =>
    (ended.trans ht).trans (choose_changes fun hm => (ended.trans ht).running hm d (hd hm))
  unfold indexRead
  dsimp only
  split
  · split
    · exact next _ (.order n _)
    · exact arbitrate_changes.after (next _ (failOrder_changes n _))
  · exact next _ (.refl _)

theorem indexCompletion_changes (d : DriveNo) (ls : List Nat) : State.Changes m f s (indexCompletion d ls s) := by
  unfold indexCompletion
  split
  · next u hu =>
    have hd : m → s.running d := fun _ => running_of_runIn hu rfl
    exact .ite (fun _ => .refl s) fun _ => .ite (fun _ => indexRead_changes hd _ ls) fun _ => discardEnding_changes hd
  · exact .refl s

theorem storePage_changes (d : DriveNo) (n page : Nat) (data : List Byte) : State.Changes m f s (storePage d n page data s) := by
  unfold storePage
  split
  · exact (State.Changes.ring _ _).after (.outside rfl rfl rfl rfl)
  · exact .refl s

theorem countRead_changes (d : DriveNo) (n : Nat) : State.Changes m f s (countRead d n s) := by
  unfold countRead
  split
  · exact .ite (fun _ => State.Changes.after (.ledger d _ rfl) (.order n _)) fun _ => .order n _
  · exact .refl s

theorem pageCompletion_changes (d : DriveNo) (data : List Byte) : State.Changes m f s (pageCompletion d data s) := by
  unfold pageCompletion
  split
  · next u hu =>
    have hd : m → s.running d := fun _ => running_of_runIn hu rfl
    refine .ite (fun _ => .refl s) fun _ => .ite (fun _ => ?_) fun _ => discardEnding_changes hd
    have read : State.Changes m f s (countRead d u.owner (storePage d u.owner u.page data (endRun d s))) :=
      ((countRead_changes d _).after (storePage_changes d _ _ data)).after (endRun_changes d)
    exact read.trans (arbitrate_changes.after (choose_changes fun hm => read.running hm d (hd hm)))
  · exact .refl s

theorem mediaError_changes (d : DriveNo) : State.Changes m f s (mediaError d s) := by
  unfold mediaError
  split
  · next u hu =>
    have hd : m → s.running d := fun _ => running_of_runIn hu rfl
    refine .ite (fun _ => ?_) fun _ => discardEnding_changes hd
    unfold readError
    split
    · next o _ =>
      refine .ite (fun _ => ?_) fun _ => .order u.owner _
      have failed : State.Changes m f s (activeLost (judgePins (sideError o.loc.sideId (failOrder o.number .media (endRun d s))))) :=
        (activeLost_changes.after judgePins_changes).after ((sideError_changes _).after ((failOrder_changes _ _).after
          (endRun_changes d)))
      exact failed.trans (arbitrate_changes.after (choose_changes fun hm => failed.running hm d (hd hm)))
    · exact discardEnding_changes hd
  · exact .refl s

theorem State.filingRun_eq_some {s : State} {d : DriveNo} {u : Run} (h : s.filingRun d = some u) :
    s.runIn d .writing = some u ∨ s.runIn d .verifying = some u := by
  unfold State.filingRun at h
  split at h
  · next hw => exact .inl (hw.trans h)
  · exact .inr h

theorem running_of_filingRun {d : DriveNo} {u : Run} (h : s.filingRun d = some u) : s.running d :=
  (State.filingRun_eq_some h).elim (running_of_runIn · rfl) (running_of_runIn · rfl)

theorem writeCompletion_changes (hf : ¬ f) (d : DriveNo) : State.Changes m f s (writeCompletion d s) := by
  unfold writeCompletion
  split
  · next u hu =>
    have hd : s.running d := running_of_runIn hu rfl
    refine .ite (fun _ => ?_) fun _ => discardEnding_changes fun _ => hd
    refine State.Changes.after (.single (.drive d _ ⟨fun _ => nofun, fun _ => ?_, fun h => absurd h hf⟩))
      (.lodgement hf u.owner _ fun _ _ => id)
    have phase : (s.drives[d]).state.phase = .idle := hd
    exact congrArg (fun p => { (s.drives[d]).berth with phase := p }) phase.symm
  · exact .refl s

theorem stopCompletion_changes (d : DriveNo) : State.Changes m f s (stopCompletion d s) := by
  unfold stopCompletion
  split
  · next u hu => exact .ite (fun _ => discardEnding_changes fun _ => running_of_filingRun hu) fun _ => .refl s
  · exact .refl s

-- Endings of filing runs ------------------------------------------------------------------------------------------

/-- The lodgement of a run in flight stands in the table with the extent that the run is of. -/
theorem State.runLodgement_extent {s : State} {d : DriveNo} {l : Lodgement} {e : Location} (h : s.runLodgement d = some (l, e)) :
    ∃ u, (s.drives[d]).run = some u ∧ s.lodgement? u.owner = some l ∧ l.extent = some e := by
  unfold State.runLodgement at h
  split at h
  · next u hu =>
    split at h
    · next k hk =>
      obtain ⟨x, hx, he⟩ := Option.map_eq_some_iff.mp h
      cases he
      exact ⟨u, hu, hk, hx⟩
    · cases h
  · cases h

/-- The next-free block passes an extent of the table (R45, R142, R144). -/
theorem passSide_changes (hf : ¬ f) {l : Lodgement} {e : Location} (hl : l ∈ s.filing.table) (he : l.extent = some e)
    (g : SideRecord → SideRecord) (free : ∀ r, (g r).nextFree = e.start + e.blocks)
    (same : ∀ r, (g r).errors = r.errors ∧ (g r).role = r.role) : State.Changes m f s (s.modSide e.sideId g) := by
  refine .single (.side _ g s.lib.active ⟨fun hs r hr => ⟨?_, ?_⟩, fun x hx => ⟨hx, fun _ r hr => ?_⟩, fun h => absurd h hf⟩)
  · rw [free]
    exact hs.2 l hl e he
  · rw [(same r).1]
    exact hr.2
  · rw [(same r).2, hr]

theorem warnSpace_changes (sd : SideId) : State.Changes m f s (warnSpace sd s) := by
  unfold warnSpace
  split
  · exact .ite (fun _ => queueNotice_changes _) fun _ => .refl s
  · exact .refl s

/-- The directory changes, where the filing unit is not minded. -/
theorem State.Changes.directory (hf : ¬ f) (g : Directory → Directory) : State.Changes m f s (s.modDir g) :=
  .single (.outer rfl id fun h => absurd h hf)

theorem commit_changes (hf : ¬ f) {d : DriveNo} (hd : m → s.running d) {l : Lodgement} {e : Location} (hl : l ∈ s.filing.table)
    (he : l.extent = some e) : State.Changes m f s (commit d l e s) := by
  have passed : State.Changes m f s (s.modSide e.sideId fun r => { r with nextFree := e.start + e.blocks }) :=
    passSide_changes hf hl he _ (fun _ => rfl) fun _ => ⟨rfl, rfl⟩
  have filed : ∀ t : State, State.Changes m f t (commitTitle l e t) := fun t =>
    State.Changes.after (.directory hf _) (.directory hf _)
  have left := ((passed.trans (warnSpace_changes e.sideId)).trans (filed _)).trans (leaveTable_changes hf l.number)
  have noticed : ∀ (n : Notice) (t : State), State.Changes m f s t →
      State.Changes m f s (choose d (engineTake (judgePins (letGo l.number (endRun d (queueNotice n t)))))) := fun n t ht => by
    have done := ht.trans ((engineTake_changes.after judgePins_changes).after ((letGo_changes hf l.number).after
      ((endRun_changes d).after (queueNotice_changes n))))
    exact done.trans (choose_changes fun hm => done.running hm d (hd hm))
  exact noticed _ _ left

/-- The lodgement in hand gives up its extent after its run (R144). -/
theorem dropExtent_changes (hf : ¬ f) (n : Nat) : State.Changes m f s (dropExtent n s) :=
  (removeWrite_changes n).after (State.Changes.after (.single (.filing _ hf (.sublist (.refl _))))
    (.lodgement hf n _ fun _ _ => nofun))

theorem afterAttempt_changes (hf : ¬ f) (n : Nat) (reason : LodgeFailReason) : State.Changes m f s (afterAttempt n reason s) := by
  unfold afterAttempt
  split
  · exact .refl s
  · exact .ite (fun _ => engineAsk_changes) fun _ => (engineTake_changes.after judgePins_changes).after
      ((queueNotice_changes _).after (endLodgement_changes hf _))

theorem failAttempt_changes (hf : ¬ f) {d : DriveNo} (hd : m → s.running d) {l : Lodgement} {e : Location}
    (hl : l ∈ s.filing.table) (he : l.extent = some e) : State.Changes m f s (failAttempt d l e s) := by
  have given : State.Changes m f s (giveUp e s) := passSide_changes hf hl he _ (fun _ => rfl) fun _ => ⟨rfl, rfl⟩
  have dropped : ∀ t : State, State.Changes m f t (afterAttempt l.number .media (judgePins (dropExtent l.number (endRun d t)))) :=
    fun t => ((afterAttempt_changes hf _ _).after judgePins_changes).after ((dropExtent_changes hf _).after (endRun_changes d))
  have done := (given.trans (sideError_changes e.sideId)).trans (dropped _)
  exact done.trans (choose_changes fun hm => done.running hm d (hd hm))

theorem writeError_changes (hf : ¬ f) (d : DriveNo) : State.Changes m f s (writeError d s) := by
  unfold writeError
  split
  · next u hu =>
    have hd : m → s.running d := fun _ => running_of_filingRun hu
    refine .ite (fun _ => ?_) fun _ => discardEnding_changes hd
    unfold failRun
    split
    · next l e hrun =>
      obtain ⟨v, -, hl, he⟩ := State.runLodgement_extent hrun
      exact arbitrate_changes.after (failAttempt_changes hf hd (State.lodgement?_spec hl).2 he)
    · exact discardEnding_changes hd
  · exact .refl s

theorem verifyCompletion_changes (hf : ¬ f) (d : DriveNo) (readBack : ReadBack) : State.Changes m f s (verifyCompletion d readBack s) := by
  unfold verifyCompletion
  split
  · next u hu =>
    have hd : m → s.running d := fun _ => running_of_runIn hu rfl
    refine .ite (fun _ => ?_) fun _ => discardEnding_changes hd
    unfold verified
    split
    · next l e hrun =>
      obtain ⟨v, -, hl, he⟩ := State.runLodgement_extent hrun
      have mem := (State.lodgement?_spec hl).2
      exact arbitrate_changes.after (.ite (fun _ => commit_changes hf hd mem he) fun _ => failAttempt_changes hf hd mem he)
    · exact discardEnding_changes hd
  · exact .refl s

-- The drive fault -------------------------------------------------------------------------------------------------

theorem endTasksOf_changes (hm : ¬ m) (d : DriveNo) : State.Changes m f s (endTasksOf d s) := by
  have dropped : State.Changes m f s (s.modPicker fun p => { p with
      queue := p.queue.filter fun k => !(decide (k.kind = .unload) && decide (k.drive = some d)) }) := .tasks hm _ rfl
  have turned : ∀ (a : Active) (t : State), State.Changes m f t (turnLoad a t) := fun a t => by
    unfold turnLoad
    refine .ite (fun _ => ?_) fun _ => endTask_changes hm
    split
    · exact (setHome_changes hm _ _).after (.tasks hm _ rfl)
    · exact .tasks hm _ rfl
  unfold endTasksOf
  dsimp only
  split
  · exact .ite (fun _ => (turned _ _).after dropped) fun _ => .ite (fun _ => (endTask_changes hm).after dropped) fun _ => dropped
  · exact dropped

theorem loseAttempt_changes (hf : ¬ f) (run : Option Run) : State.Changes m f s (loseAttempt run s) := by
  unfold loseAttempt
  split
  · exact .ite (fun _ => ((afterAttempt_changes hf _ _).after judgePins_changes).after (dropExtent_changes hf _)) fun _ => .refl s
  · exact .refl s

theorem failForFault_changes (r : Drive) (c : Option Nat) : State.Changes m f s (failForFault r c s) := by
  unfold failForFault
  dsimp only
  split
  · exact (failOrders_changes _ _).after (failOrders_changes _ _)
  · exact failOrders_changes _ _

/-- The record of a faulting drive: its run, timers and marks are cleared (R81). -/
theorem faulted_changes (hm : ¬ m) (d : DriveNo) : State.Changes m f s (s.modDrive d Drive.faulted) :=
  .single (.drive d _ ⟨fun _ => nofun, fun h => absurd h hm, fun _ _ => ⟨nofun, nofun⟩⟩)

theorem clearTrapped_changes (c : Option Nat) : State.Changes m f s (clearTrapped c s) := by
  cases c with
  | none => exact .refl s
  | some c => exact clearActiveOf_changes c

/-- The picker's part of a drive fault. -/
theorem faultTasks_changes (hm : ¬ m) (d : DriveNo) (c : Option Nat) :
    State.Changes m f s (endTasksOf d (dropReservation d (clearTrapped c s))) :=
  ((endTasksOf_changes hm d).after (dropReservation_changes d)).after (clearTrapped_changes c)

theorem faultDrive_changes (hm : ¬ m) (hf : ¬ f) (d : DriveNo) : State.Changes m f s (faultDrive d s) := by
  refine .ite (fun _ => .refl s) fun _ => arbitrate_changes.after ?_
  have tasks : State.Changes m f s (endTasksOf d (dropReservation d (clearTrapped (s.heldCart d) (s.modDrive d Drive.faulted)))) :=
    (faultTasks_changes hm d _).after (faulted_changes hm d)
  have failed := tasks.trans ((failForFault_changes s.drives[d] (s.heldCart d)).after (loseAttempt_changes hf (s.drives[d]).run))
  exact failed.trans ((pickerChoose_changes.after runAllocator_changes).after ((queueNotice_changes _).after
    (activeLost_changes.after judgePins_changes)))

-- Timers ----------------------------------------------------------------------------------------------------------

theorem reach_changes (now : Nat) : State.Changes m f s (s.reach now) := .outside rfl rfl rfl rfl

theorem Drive.holdOver_change (r : Drive) : Drive.Change m f r r.holdOver := by
  unfold Drive.holdOver
  split
  · next h =>
    refine ⟨fun _ _ => rfl, fun _ => ?_, fun _ _ => ⟨fun _ _ _ _ => ⟨nofun, nofun⟩, fun u hu hfile => ⟨u, hu, hfile, rfl⟩⟩⟩
    simp only [Drive.berth, h.1]
    rfl
  · exact ⟨fun _ _ => rfl, fun _ => rfl, fun _ hr => ⟨hr, fun u hu hfile => ⟨u, hu, hfile, rfl⟩⟩⟩

theorem holdExpires_changes (d : DriveNo) : State.Changes m f s (holdExpires d s) := by
  unfold holdExpires
  split
  · exact (reach_changes _).trans (.single (.drive d _ (Drive.holdOver_change _)))
  · exact .refl s

theorem lingerExpires_changes (d : DriveNo) : State.Changes m f s (lingerExpires d s) := by
  unfold lingerExpires
  split
  · exact (askRelease_changes d).after (State.Changes.after (.ledger d _ rfl) (reach_changes _))
  · exact .refl s

theorem reopens_changes : State.Changes m f s (reopens s) := by
  unfold reopens
  split
  · exact (pickerChoose_changes.after setReopening_changes).after (reach_changes _)
  · exact .refl s

theorem idleExpires_changes (hf : ¬ f) (n : Nat) : State.Changes m f s (idleExpires n s) := by
  unfold idleExpires
  split
  · split
    · exact (arbitrate_changes.after (queueNotice_changes _)).after ((endLodgement_changes hf _).after (reach_changes _))
    · exact .refl s
  · exact .refl s

theorem pollExpires_changes : State.Changes m f s (pollExpires s) := by
  have marked : ∀ t : State, State.Changes m f t (markDue t) := fun t =>
    forCounters_kept t (P := fun u => State.Changes m f t u) (fun n u hu => hu.trans (.counter n _ id id)) (.refl t)
  unfold pollExpires
  split
  · exact lineChoose_changes.after (State.Changes.after (.line _ rfl) ((marked _).after (reach_changes _)))
  · exact .refl s

-- The counter line ------------------------------------------------------------------------------------------------

theorem endTransaction_changes : State.Changes m f s (endTransaction s) := .line _ rfl

theorem postEnds_changes (ending : PostEnd) : State.Changes m f s (postEnds ending s) := by
  have dropped : ∀ (n : CounterNo) (orphan : Bool), State.Changes m f s (dropHead n orphan s) := fun n orphan =>
    .ite (fun _ => .refl s) fun _ => .counter n _ (fun h => (List.length_drop ▸ Nat.sub_le ..).trans h) id
  have result : ∀ (n : CounterNo) (orphan : Bool), State.Changes m f s (postResult n orphan ending s) := fun n orphan => by
    cases ending with
    | completed => exact (attemptGood_changes n).after (dropped n orphan)
    | notAcknowledged k => exact attemptFailed_changes n
  unfold postEnds
  split
  · exact (arbitrate_changes.after lineChoose_changes).after (endTransaction_changes.after (result _ _))
  · exact .refl s

theorem pollReply_changes (n : CounterNo) (bs : List Byte) : State.Changes m f s (pollReply n bs s) := by
  unfold pollReply
  split
  · exact attemptGood_changes n
  · exact (settleCounter_changes n _).after (attemptGood_changes n)
  · exact attemptFailed_changes n

theorem pollEnds_changes (ending : PollEnd) : State.Changes m f s (pollEnds ending s) := by
  have result : ∀ n : CounterNo, State.Changes m f s (pollResult n ending s) := fun n => by
    cases ending with
    | reply bs => exact (pollReply_changes n bs).after (addressAcked_changes n)
    | addressNotAcknowledged => exact attemptFailed_changes n
    | commandNotAcknowledged => exact (attemptFailed_changes n).after (addressAcked_changes n)
  unfold pollEnds
  split
  · exact (arbitrate_changes.after lineChoose_changes).after (endTransaction_changes.after (result _))
  · exact .refl s

theorem stretched_changes : State.Changes m f s (stretched s) := by
  unfold stretched
  split
  · exact arbitrate_changes.after (State.Changes.after (.line _ rfl) (endTransaction_changes.after (attemptFailed_changes _)))
  · exact .refl s

theorem clockRelease_changes : State.Changes m f s (lineChoose (s.modLine fun l => { l with clockHeld := false, stopOwed := false })) :=
  lineChoose_changes.after (.line _ rfl)

theorem pollAcked_changes : State.Changes m f s (pollAcked s) := by
  unfold pollAcked
  split
  · exact (addressAcked_changes _).after (.line _ rfl)
  · exact .refl s

end Sys2Proof.Machine
end
-- ==== Proofs: what a step does ====
section
/-!
SUPPORT for the invariants of family 03. Every step is a chain of deeds: the small changes, FORMAT, the full reset, and the operations
that go beyond the changes where the mechanics or the filing unit is minded.
-/
namespace Sys2Proof.Machine

/-- The laws that the filing unit's deeds rest on: rings, layout and directory. -/
abbrev State.baseLaw (s : State) : Prop := s.ringLaw ∧ s.layoutLaw ∧ s.directoryLaw

theorem State.baseLaw.congr {s t : State} (h : s.baseLaw) (rings : t.rings = s.rings) (cfg : t.cfg = s.cfg) (dir : t.dir = s.dir)
    (filing : t.filing = s.filing) (condition : t.condition = s.condition) : t.baseLaw := by
  simp only [State.baseLaw, State.ringLaw, State.layoutLaw, State.directoryLaw, State.unformattedLaw, State.modulus, rings, cfg, dir,
    filing, condition]
  exact h

/-- The kinds of deed: the operations of the mechanics stand by themselves where `m` minds them, those of the filing unit where `f`
does. -/
inductive State.Deed (m f : Prop) : State → State → Prop where
  | change {s t : State} (h : State.Change m f s t) : Deed m f s t
  | formatNew {s : State} (base : f → s.baseLaw) (new : s.condition = .unformatted) : Deed m f s (formatNew s)
  | formatQuiet {s : State} (ready : s.condition = .ready) (quiet : s.quiet = true) : Deed m f s (formatQuiet s)
  | fullReset (s : State) (cause : ResetCause) (kept : Bool) : Deed m f s (fullReset cause kept s)
  | importCart {s : State} {c n : Nat} (a b : Role) (minded : m) (ready : s.condition = .ready)
      (range : 1 ≤ c ∧ c ≤ Config.maxCartridgeNumber) (allowed : s.importRefusal c = none)
      (slot : s.importSlot (s.cart? c) = some n) : Deed m f s (acceptImport c a b n s)
  | exportCart {s : State} {c : Nat} {r : Cartridge} (minded : m) (ready : s.condition = .ready) (found : s.cart? c = some r)
      (allowed : s.exportRefusal c r = none) : Deed m f s (acceptExport c r.place s)
  | mechanismReset (s : State) (report : MechReport) (minded : m) : Deed m f s (mechanismReset report s)
  | picked (s : State) (p : PickPoint) (minded : m) : Deed m f s (picked p s)
  | placed (s : State) (p : PickPoint) (minded : m) : Deed m f s (placed p s)
  | slotOccupied (s : State) (n : Nat) (minded : m) : Deed m f s (slotOccupied n s)
  | mailPlaced (s : State) (minded : m) : Deed m f s (s.modLib fun l => { l with mail := true })
  | mailEmptied (s : State) (minded : m) : Deed m f s (mailEmptied s)
  | spinDown (s : State) (d : DriveNo) (minded : m) : Deed m f s (spinDown d s)
  | faultPicker (s : State) (minded : m) : Deed m f s (faultPicker s)
  | faultDrive (s : State) (d : DriveNo) (minded : m ∨ f) : Deed m f s (faultDrive d s)
  | lodge {s : State} (tag : Byte) (title : Word24) (kind pages entry : Byte) (base : s.baseLaw) (minded : f) :
      Deed m f s (takeLodge tag title kind pages entry s)
  | abandon {s : State} {n : Nat} {l : Lodgement} (minded : f) (found : s.lodgement? n = some l) : Deed m f s (abandonLodgement l s)
  | queueReset (s : State) (minded : f) : Deed m f s (resetBlocks s)
  | body {s : State} {tag : Byte} {fate : BodyFate} {left : Nat} (bs : List Byte) (minded : f)
      (decoder : s.link.decoder = .body tag fate left) : Deed m f s (readBody tag fate left bs s)
  | byte (s : State) (b : Byte) (minded : f) : Deed m f s (writeByte b s)
  | overflow (s : State) (minded : f) : Deed m f s (detectOverflow s)
  | writeCompletion (s : State) (d : DriveNo) (minded : f) : Deed m f s (writeCompletion d s)
  | writeError (s : State) (d : DriveNo) (minded : f) : Deed m f s (writeError d s)
  | verifyCompletion {s : State} (d : DriveNo) (readBack : ReadBack) (base : s.baseLaw) (minded : f) : Deed m f s (verifyCompletion d readBack s)
  | idleExpires (s : State) (n : Nat) (minded : f) : Deed m f s (idleExpires n s)

/-- A chain of deeds. -/
def State.Deeds (m f : Prop) : State → State → Prop := Relation.ReflTransGen (State.Deed m f)

variable {m f : Prop} {s t u : State}

theorem State.Deeds.refl (s : State) : State.Deeds m f s s := Relation.ReflTransGen.refl

theorem State.Deeds.trans (h : State.Deeds m f s t) (k : State.Deeds m f t u) : State.Deeds m f s u :=
  Relation.ReflTransGen.trans h k

theorem State.Deeds.after (k : State.Deeds m f t u) (h : State.Deeds m f s t) : State.Deeds m f s u := h.trans k

theorem State.Deeds.single (h : State.Deed m f s t) : State.Deeds m f s t := Relation.ReflTransGen.single h

theorem State.Changes.deeds (h : State.Changes m f s t) : State.Deeds m f s t :=
  h.keeps (P := fun t => State.Deeds m f s t) (fun _ _ hc ht => ht.trans (Relation.ReflTransGen.single (.change hc))) (.refl s)

/-- What every deed keeps, a chain of deeds keeps. -/
theorem State.Deeds.keeps {P : State → Prop} (h : State.Deeds m f s t) (keep : ∀ s t, State.Deed m f s t → P s → P t)
    (hs : P s) : P t := by
  induction h with
  | refl => exact hs
  | tail _ last ih => exact keep _ _ last ih

theorem State.Deeds.ite {c : Prop} [Decidable c] (ht : c → State.Deeds m f s t) (hu : ¬ c → State.Deeds m f s u) :
    State.Deeds m f s (if c then t else u) := by
  split
  · next h => exact ht h
  · next h => exact hu h

/-- A deed of a minded part, a chain of changes where the part is not minded. -/
theorem State.Deeds.minding {c : Prop} (deed : c → State.Deed m f s t) (changes : ¬ c → State.Changes m f s t) :
    State.Deeds m f s t := by
  by_cases h : c
  · exact .single (deed h)
  · exact (changes h).deeds

-- Bytes of the host -----------------------------------------------------------------------------------------------

theorem writeByte_deeds (b : Byte) : State.Deeds m f s (writeByte b s) :=
  .minding (c := f) (.byte s b) fun hf => writeByte_changes b fun h => absurd h hf

theorem writeBytes_deeds (bs : List Byte) : State.Deeds m f s (writeBytes bs s) :=
  foldl_kept (P := fun t => State.Deeds m f s t) (fun _ b ht => ht.trans (writeByte_deeds b)) bs s (.refl s)

theorem detectOverflow_deeds : State.Deeds m f s (detectOverflow s) :=
  .minding (c := f) (.overflow s) fun hf => detectOverflow_changes fun h => absurd h hf

theorem offer_deeds {i : Instr} {take : State → State} (h : State.Deeds m f s (take s)) : State.Deeds m f s (offer i take s) :=
  .ite (fun _ => h.trans arbitrate_changes.deeds) fun _ => writeBytes_deeds _

theorem readBody_deeds {tag : Byte} {fate : BodyFate} {left : Nat} (h : s.link.decoder = .body tag fate left) (bs : List Byte) :
    State.Deeds m f s (readBody tag fate left bs s) :=
  .minding (c := f) (fun hf => .body bs hf h) fun hf => readBody_changes hf ..

theorem readInbound_deeds {tag : Byte} {fate : BodyFate} {left : Nat} (h : s.link.decoder = .body tag fate left) :
    State.Deeds m f s (readInbound tag fate left s) := by
  refine State.Deeds.trans (State.Changes.deeds (.link (fun k => Link.holdOnRead s.cfg.levels { k with inbound := k.inbound.drop left })
    (fun hi => ?_) id (Nat.le_refl _) fun _ => .inr rfl)) (readBody_deeds (by exact h) _)
  exact (List.length_drop ▸ Nat.sub_le ..).trans hi

theorem readInbound_decoder {tag : Byte} {fate : BodyFate} {left : Nat} (h : ¬ left ≤ s.link.inbound.length) :
    (readInbound tag fate left s).link.decoder = .body tag fate (left - s.link.inbound.length) := by
  have taken : (s.link.inbound.take left).length = s.link.inbound.length := by simp only [List.length_take]; omega
  unfold readInbound readBody
  rw [taken]
  dsimp only
  rw [if_neg h]
  rfl

theorem takeBodyData_deeds (data : List Byte) : State.Deeds m f s (takeBodyData data s) := by
  unfold takeBodyData
  split
  · next tag fate left hd =>
    dsimp only
    refine .ite (fun _ => ?_) fun h => ?_
    · exact (readInbound_deeds hd).trans (arbitrate_changes.deeds.trans (writeBytes_deeds _))
    · exact (readInbound_deeds hd).trans ((readBody_deeds (readInbound_decoder h) _).trans
        (arbitrate_changes.deeds.trans (writeBytes_deeds _)))
  · exact writeBytes_deeds data

-- Requests --------------------------------------------------------------------------------------------------------

theorem screened_deeds {tag : Byte} {take : State → State} (h : s.condition = .ready → State.Deeds m f s (take s)) :
    State.Deeds m f s (screened tag take s) := by
  unfold screened
  split
  · exact (refuse_changes ..).deeds
  · next hc => exact h hc

theorem takeFormat_deeds (base : f → s.baseLaw) (tag : Byte) : State.Deeds m f s (takeFormat tag s) := by
  unfold takeFormat
  split
  · next h => exact (State.Deeds.single (.formatNew base h)).trans (answer_changes ..).deeds
  · next h =>
    exact .ite (fun q => (State.Deeds.single (.formatQuiet h q)).trans (answer_changes ..).deeds) fun _ => (refuse_changes ..).deeds

theorem takeImport_deeds (tag : Byte) (c : Word16) (a b : Byte) : State.Deeds m f s (takeImport tag c a b s) := by
  by_cases hm : m
  · refine screened_deeds fun ready => ?_
    split
    · refine .ite (fun _ => (refuse_changes ..).deeds) fun range => ?_
      split
      · exact (refuse_changes ..).deeds
      · next allowed =>
        split
        · exact (refuse_changes ..).deeds
        · next n slot =>
          have range : 1 ≤ c.toNat ∧ c.toNat ≤ Config.maxCartridgeNumber := by omega
          exact (State.Deeds.single (.importCart _ _ hm ready range allowed slot)).trans (answer_changes ..).deeds
    · exact (refuse_changes ..).deeds
  · exact (takeImport_changes hm ..).deeds

theorem takeExport_deeds (tag : Byte) (c : Word16) : State.Deeds m f s (takeExport tag c s) := by
  by_cases hm : m
  · refine screened_deeds fun ready => ?_
    split
    · exact (refuse_changes ..).deeds
    · next found =>
      split
      · exact (refuse_changes ..).deeds
      · next allowed => exact (State.Deeds.single (.exportCart hm ready found allowed)).trans (answer_changes ..).deeds
  · exact (takeExport_changes hm ..).deeds

theorem takeAbandon_deeds (tag : Byte) (n : Word16) : State.Deeds m f s (takeAbandon tag n s) := by
  by_cases hf : f
  · refine screened_deeds fun _ => ?_
    split
    · exact (refuse_changes ..).deeds
    · next found =>
      exact .ite (fun _ => (refuse_changes ..).deeds) fun _ => (State.Deeds.single (.abandon hf found)).trans (answer_changes ..).deeds
  · exact (takeAbandon_changes hf ..).deeds

theorem takeQueueReset_deeds (tag : Byte) : State.Deeds m f s (takeQueueReset tag s) := by
  have discarding : ∀ (t : State) (v : Levels), State.Changes m f t
      (t.modLink fun k => Link.holdOnRead v { k with inbound := [], discarding := true }) := fun t v =>
    .link _ (fun _ => Nat.zero_le _) id (Nat.le_refl _) fun _ => .inr rfl
  have reset : State.Deeds m f s (resetBlocks s) := .minding (c := f) (.queueReset s) fun hf => resetBlocks_changes hf
  exact reset.trans ((discarding _ _).trans (answer_changes ..)).deeds

/-- Every request at its owner is a chain of deeds (Table 10-3). -/
theorem takeRequest_deeds (base : f → s.baseLaw) (i : Instr) : State.Deeds m f s (takeRequest i s) := by
  cases i with
  | format tag => exact takeFormat_deeds base tag
  | lookup => exact (takeLookup_changes ..).deeds
  | list => exact (takeList_changes ..).deeds
  | newTitle => exact (takeNewTitle_changes ..).deeds
  | setClass => exact (takeSetClass_changes ..).deeds
  | retire => exact (takeRetire_changes ..).deeds
  | importCart tag c a b => exact takeImport_deeds tag c a b
  | exportCart tag c => exact takeExport_deeds tag c
  | sideRole => exact (takeSideRole_changes ..).deeds
  | shelfQuery => exact (takeShelfQuery_changes ..).deeds
  | timing => exact (takeTiming_changes ..).deeds
  | driveQuery => exact (takeDriveQuery_changes ..).deeds
  | ring => exact (takeRing_changes ..).deeds
  | order => exact (takeOrder_changes ..).deeds
  | cancel => exact (takeCancel_changes ..).deeds
  | orderQuery => exact (takeOrderQuery_changes ..).deeds
  | lodge tag t k p e => exact .minding (c := f) (fun hf => .lodge tag t k p e (base hf) hf) fun hf => takeLodge_changes hf ..
  | pageIn => exact (takePageIn_changes ..).deeds
  | abandon tag n => exact takeAbandon_deeds tag n
  | lodgeQuery => exact (takeLodgeQuery_changes ..).deeds
  | feeClass => exact (takeFeeClass_changes ..).deeds
  | duty => exact (takeDuty_changes ..).deeds
  | account => exact (takeAccount_changes ..).deeds
  | accountQuery => exact (takeAccountQuery_changes ..).deeds
  | settle => exact (takeSettle_changes ..).deeds
  | dayClose => exact (takeDayClose_changes ..).deeds
  | counterLine => exact (takeCounterLine_changes ..).deeds
  | linkLevels => exact (takeLinkLevels_changes ..).deeds
  | queueReset tag => exact takeQueueReset_deeds tag
  | _ => exact .refl s

-- The decoder -----------------------------------------------------------------------------------------------------

theorem takeFields_deeds (base : f → s.baseLaw) (kind tag : Byte) (n : Nat) (got : List Byte) : State.Deeds m f s (takeFields kind tag n got s) := by
  have passed : State.Deeds m f s (passRequest kind tag n got s) := by
    unfold passRequest
    split
    · exact takeRequest_deeds base _
    · exact (refuse_changes ..).deeds
  exact .ite (fun _ => passed.trans arbitrate_changes.deeds) fun _ =>
    State.Changes.deeds (.link _ id id (Nat.le_refl _) fun _ => .inl rfl)

theorem readHeader_deeds (base : f → s.baseLaw) (got : List Byte) : State.Deeds m f s (readHeader got s) := by
  unfold readHeader
  split
  · unfold takeHeader
    split
    · exact ((discardBody_changes ..).trans arbitrate_changes).deeds
    · exact ((discardBody_changes ..).trans arbitrate_changes).deeds
    · exact takeFields_deeds base ..
  · exact State.Changes.deeds (.link _ id id (Nat.le_refl _) fun _ => .inl rfl)

theorem readInboundByte_changes {b : Byte} {rest : List Byte} (h : s.link.inbound = b :: rest) :
    State.Changes m f s (readInboundByte rest s) := by
  refine .link _ (fun hi => ?_) id (Nat.le_refl _) fun _ => .inr rfl
  rw [h] at hi
  exact (Nat.le_succ _).trans hi

theorem discardInbound_changes (tag : Byte) (a : Answer) (left : Nat) : State.Changes m f s (discardInbound tag a left s) := by
  have dropped : State.Changes m f s (s.modLink fun k => Link.holdOnRead s.cfg.levels { k with inbound := k.inbound.drop left }) :=
    .link _ (fun h => (List.length_drop ▸ Nat.sub_le ..).trans h) id (Nat.le_refl _) fun _ => .inr rfl
  exact .ite (fun _ => dropped.trans (answer_changes ..)) fun _ =>
    dropped.trans (.link _ id id (Nat.le_refl _) fun _ => .inl rfl)

theorem decoderMove_deeds (base : f → s.baseLaw) : State.Deeds m f s (decoderMove s) := by
  refine .ite (fun _ => detectOverflow_deeds.trans arbitrate_changes.deeds) fun _ => ?_
  split
  · next h => exact (readInboundByte_changes h).deeds.trans (readHeader_deeds (s := readInboundByte _ s) (fun hf => (base hf).congr rfl rfl rfl rfl rfl) _)
  · next h => exact (readInboundByte_changes h).deeds.trans (takeFields_deeds (s := readInboundByte _ s) (fun hf => (base hf).congr rfl rfl rfl rfl rfl) ..)
  · next h => exact (readInbound_deeds h).trans arbitrate_changes.deeds
  · exact ((discardInbound_changes ..).trans arbitrate_changes).deeds
  · exact .refl s

-- Every step ------------------------------------------------------------------------------------------------------

theorem faultDrive_deeds (d : DriveNo) : State.Deeds m f s (faultDrive d s) :=
  .minding (c := m ∨ f) (.faultDrive s d) fun h => faultDrive_changes (not_or.mp h).1 (not_or.mp h).2 d

theorem idleExpires_deeds (n : Nat) : State.Deeds m f s (idleExpires n s) :=
  .minding (c := f) (.idleExpires s n) fun hf => idleExpires_changes hf n

/-- Every command is a chain of deeds. -/
theorem exec_deeds (base : f → s.baseLaw) (i : Instr) (h : exec i s = .next t) : State.Deeds m f s t := by
  have request : ∀ i : Instr, State.Deeds m f s (offer i (takeRequest i) s) := fun i => offer_deeds (takeRequest_deeds base i)
  cases i <;> cases h
  case pageInBodyEnd data => exact takeBodyData_deeds data
  case wrStrobe b => exact writeByte_deeds b
  case rdStrobe => exact readByte_changes.deeds
  case answerPlaced => exact placeAnswer_changes.deeds
  case noticePlaced => exact placeNotice_changes.deeds
  case pageOutBegin => exact beginPageOut_changes.deeds
  case pageOutEnd => exact endPageOut_changes.deeds
  case fullReset cause kept => exact .single (.fullReset s cause kept)
  case resetRelease => exact State.Changes.deeds (.outside rfl rfl rfl rfl)
  case mechanismResetCompletion r => exact .minding (c := m) (.mechanismReset s r) fun hm => mechanismReset_changes hm r
  case pickCompletion p => exact .minding (c := m) (.picked s p) fun hm => picked_changes hm p
  case placementCompletion p => exact .minding (c := m) (.placed s p) fun hm => placed_changes hm p
  case targetSlotOccupied n => exact .minding (c := m) (.slotOccupied s n) fun hm => slotOccupied_changes hm n
  case mailSlotPlaced => exact .minding (c := m) (.mailPlaced s) fun hm => mailPlaced_changes hm
  case mailSlotEmptied => exact .minding (c := m) (.mailEmptied s) fun hm => mailEmptied_changes hm
  case spinUpCompletion d => exact (spinUp_changes d).deeds
  case spinDownCompletion d => exact .minding (c := m) (.spinDown s d) fun hm => spinDown_changes hm d
  case indexReadCompletion d ls => exact (indexCompletion_changes d ls).deeds
  case pageReadCompletion d data => exact (pageCompletion_changes d data).deeds
  case mediaError d => exact (mediaError_changes d).deeds
  case writeRunCompletion d => exact .minding (c := f) (.writeCompletion s d) fun hf => writeCompletion_changes hf d
  case writeMediaError d => exact .minding (c := f) (.writeError s d) fun hf => writeError_changes hf d
  case verifyRunCompletion d r => exact .minding (c := f) (fun hf => .verifyCompletion d r (base hf) hf) fun hf => verifyCompletion_changes hf d r
  case stopCompletion d => exact (stopCompletion_changes d).deeds
  case driveFault d => exact faultDrive_deeds d
  case pickerFault => exact .minding (c := m) (.faultPicker s) fun hm => faultPicker_changes hm
  case holdExpiry d => exact (holdExpires_changes d).deeds
  case lingerExpiry d => exact (lingerExpires_changes d).deeds
  case reopeningExpiry => exact reopens_changes.deeds
  case idleTimeout n => exact idleExpires_deeds n.toNat
  case pollIntervalExpiry => exact pollExpires_changes.deeds
  case post ending => exact (postEnds_changes ending).deeds
  case poll ending => exact (pollEnds_changes ending).deeds
  case clockStretchTimeout => exact stretched_changes.deeds
  case clockRelease => exact clockRelease_changes.deeds
  case pollAddressAcknowledged => exact pollAcked_changes.deeds
  case clockHeldLow => exact State.Changes.deeds (.line _ rfl)
  case retire tag t n ts stray =>
    refine offer_deeds ?_
    split
    · exact (takeRetire_changes tag t n ts stray).deeds
    · exact (answer_changes ..).deeds
  case pageIn tag n l bytes =>
    refine offer_deeds ?_
    split
    · exact (takePageIn_changes tag n l bytes).deeds
    · exact (discardBody_changes ..).deeds
  case unknownKind => exact offer_deeds (answer_changes ..).deeds
  case badFrame => exact offer_deeds (answer_changes ..).deeds
  case format tag => exact request (.format tag)
  case lookup tag t => exact request (.lookup tag t)
  case list tag a b => exact request (.list tag a b)
  case newTitle tag t c => exact request (.newTitle tag t c)
  case setClass tag t c => exact request (.setClass tag t c)
  case importCart tag c a b => exact request (.importCart tag c a b)
  case exportCart tag c => exact request (.exportCart tag c)
  case sideRole tag c sd r => exact request (.sideRole tag c sd r)
  case shelfQuery tag c => exact request (.shelfQuery tag c)
  case timing tag h l w p i q => exact request (.timing tag h l w p i q)
  case driveQuery tag => exact request (.driveQuery tag)
  case ring tag n b k => exact request (.ring tag n b k)
  case order tag t e a k => exact request (.order tag t e a k)
  case cancel tag n => exact request (.cancel tag n)
  case orderQuery tag n => exact request (.orderQuery tag n)
  case lodge tag t k p e => exact request (.lodge tag t k p e)
  case abandon tag n => exact request (.abandon tag n)
  case lodgeQuery tag n => exact request (.lodgeQuery tag n)
  case feeClass tag c d r ce h => exact request (.feeClass tag c d r ce h)
  case duty tag r => exact request (.duty tag r)
  case account tag n k d => exact request (.account tag n k d)
  case accountQuery tag n => exact request (.accountQuery tag n)
  case settle tag n a => exact request (.settle tag n a)
  case dayClose tag => exact request (.dayClose tag)
  case counterLine tag p r => exact request (.counterLine tag p r)
  case linkLevels tag a b c d e => exact request (.linkLevels tag a b c d e)
  case queueReset tag => exact request (.queueReset tag)

/-- The part's own move is a chain of deeds. -/
theorem idle_deeds (base : f → s.baseLaw) : State.Deeds m f s (idle s) := by
  refine .ite (fun _ => decoderMove_deeds base) fun _ => .ite (fun _ => ?_) fun _ => ?_
  · unfold arbiterMove
    split
    · exact endPageOut_changes.deeds
    · exact arbitrate_changes.deeds
  · unfold timeMove
    split
    · next g hg =>
      unfold State.dueExpiry at hg
      repeat' split at hg
      all_goals cases hg
      · exact (holdExpires_changes _).deeds
      · exact (lingerExpires_changes _).deeds
      · exact reopens_changes.deeds
      · exact idleExpires_deeds _
      · exact pollExpires_changes.deeds
    · exact State.Changes.deeds (.outside rfl rfl rfl rfl)

/-- Every step is a chain of deeds. -/
theorem step_deeds (base : f → s.baseLaw) (h : step s = .next t) : State.Deeds m f s t := by
  unfold step at h
  split at h
  · cases h
    exact idle_deeds base
  · next i rest _ =>
    exact (exec_deeds (s := { s with pending := rest }) (fun hf => (base hf).congr rfl rfl rfl rfl rfl) i h).after (State.Changes.deeds (.outside (t := { s with pending := rest }) rfl rfl rfl rfl))

end Sys2Proof.Machine
end
-- ==== Proofs: sides, holds and capacities ====
section
/-!
The active filing side, the side records and the hold timers (O13), and the capacities (O14): each kind of change keeps them, and so
do FORMAT and the full reset.
-/
namespace Sys2Proof.Machine

variable {m f : Prop} {s t : State}

-- FORMAT and the full reset as chains of changes ------------------------------------------------------------------

theorem refreshLine_changes : State.Changes m f s (refreshLine s) := by
  have same : refreshLine s = { s with line := (refreshLine s).line } := refreshLine_sameButLine s
  have counters := refreshLine_counters s
  generalize (refreshLine s).line = l at same counters
  rw [same]
  refine .single (.outer rfl (fun ⟨hi, ho, hn, hc⟩ => ⟨hi, ho, hn, fun n => ?_⟩) fun _ => ⟨rfl, fun _ => .inl⟩)
  show (l.counters[n]).posts.length ≤ Config.maxPosts ∧ (l.counters[n]).failures ≤ Config.absentFailures
  rw [counters]
  exact ⟨(by decide : 1 ≤ Config.maxPosts), (hc n).2⟩

theorem formatLine_changes : State.Changes m f s (formatLine s) :=
  (lineChoose_changes.after refreshLine_changes).after (.line _ rfl)

theorem judgeDefaults_changes : State.Changes m f s (judgeDefaults s) :=
  (setReopening_changes.after judgeOut_changes).after (.link _ id id (Nat.le_refl _) fun _ => .inr rfl)

theorem releaseDrives_changes (hm : ¬ m) : State.Changes m f s (releaseDrives s) :=
  State.Changes.trans
    (forDrives_changes fun d _ => (lingerJudge_changes d).after (.held hm d _ rfl rfl (.inl rfl)))
    (forDrives_changes fun d _ => releaseUnrecorded_changes d)

-- Side records ----------------------------------------------------------------------------------------------------

theorem State.side?_of_sides (h : t.lib.carts.map Cartridge.sides = s.lib.carts.map Cartridge.sides) (sd : SideId) :
    t.side? sd = s.side? sd := by
  have read : ∀ u : State, u.side? sd = ((u.lib.carts.map Cartridge.sides).find? fun x => x.1 = sd.cart).map fun x =>
      match sd.side with
      | .A => x.2.1
      | .B => x.2.2 := fun u => by
    rw [List.find?_map, Option.map_map, State.side?, State.cart?]
    refine congrArg₂ Option.map (funext fun r => ?_) rfl
    cases sd.side <;> rfl
  rw [read, read, h]

/-- Every side record of a table is lawful. -/
def lawfulSides (cs : List Cartridge) : Prop := ∀ c ∈ cs, c.sideA.lawful ∧ c.sideB.lawful

theorem lawfulSides_of_sides {cs ds : List Cartridge} (h : ds.map Cartridge.sides = cs.map Cartridge.sides) (hs : lawfulSides cs) :
    lawfulSides ds := by
  intro c hc
  obtain ⟨r, hr, he⟩ := List.mem_map.mp (h ▸ List.mem_map_of_mem hc : c.sides ∈ cs.map Cartridge.sides)
  simp only [Cartridge.sides, Prod.mk.injEq] at he
  obtain ⟨-, a, b⟩ := he
  exact a ▸ b ▸ hs r hr

theorem insertCart_find? (p : Cartridge → Bool) (r : Cartridge) (h : p r = false) (cs : List Cartridge) :
    (insertCart r cs).find? p = cs.find? p := by
  induction cs with
  | nil => simp [insertCart, h]
  | cons q rest ih =>
    rw [insertCart]
    split
    · rw [List.find?_cons, h]
    · rw [List.find?_cons, List.find?_cons, ih]

theorem enterCart_new {c : Nat} (h : s.cart? c = none) (a b : Role) :
    enterCart c a b s = s.modLib fun l => { l with carts := insertCart (Cartridge.fresh c a b) l.carts } := by
  simp only [enterCart, h]

theorem cart?_enterCart {c x : Nat} (new : s.cart? c = none) (a b : Role) (hx : x ≠ c) :
    (enterCart c a b s).cart? x = s.cart? x := by
  rw [enterCart_new new]
  exact insertCart_find? _ _ (decide_eq_false fun h => hx h.symm) _

theorem State.side?_cart {sd : SideId} {p : SideRecord → Role} {x : Role} (h : (s.side? sd).map p = some x) :
    s.cart? sd.cart ≠ none := by
  intro none
  simp [State.side?, none] at h

/-- Beginning a task leaves every side record and the active filing side. -/
theorem beginTask_sides (k : Task) (p : PickPoint) :
    (beginTask k p s).lib.carts.map Cartridge.sides = s.lib.carts.map Cartridge.sides ∧
      (beginTask k p s).lib.active = s.lib.active := by
  have home : ∀ (c : Option Nat) (n : Nat) (t : State), (setHome c n t).lib.carts.map Cartridge.sides = t.lib.carts.map Cartridge.sides ∧
      (setHome c n t).lib.active = t.lib.active := fun c n t => by
    cases c with
    | none => exact ⟨rfl, rfl⟩
    | some c =>
      refine ⟨?_, rfl⟩
      simp only [setHome, State.modCart_lib, List.map_map]
      refine List.map_congr_left fun r _ => ?_
      simp only [Function.comp_apply]
      split <;> rfl
  unfold beginTask
  dsimp only
  split
  · exact home _ _ _
  · exact ⟨rfl, rfl⟩
  · exact ⟨rfl, rfl⟩

-- Sides and holds -------------------------------------------------------------------------------------------------

/-- What O13 keeps. -/
def State.sidesLaw (s : State) : Prop := s.activeLaw ∧ s.sideLaw ∧ s.holdLaw

/-- The law reads the side records, the active filing side, the extents of the lodgement table and the drives. -/
theorem State.sidesLaw.congr (h : s.sidesLaw) (sides : t.lib.carts.map Cartridge.sides = s.lib.carts.map Cartridge.sides)
    (active : ∀ sd ∈ t.lib.active, sd ∈ s.lib.active ∨ (s.side? sd).map (fun r => r.role) = some .filing)
    (extents : ∀ l ∈ t.filing.table, ∀ e ∈ l.extent, e.start + e.blocks ≤ Config.sideBlocks)
    (hold : t.holdLaw) : t.sidesLaw := by
  refine ⟨fun sd hsd => ?_, ⟨lawfulSides_of_sides sides h.2.1.1, extents⟩, hold⟩
  rw [State.side?_of_sides sides]
  exact (active sd hsd).elim (h.1 sd) id

/-- A change of lodgements whose extents end within their side. -/
theorem State.sidesLaw.table (h : s.sidesLaw) (lib : t.lib = s.lib) (drives : t.drives = s.drives)
    (extents : ∀ l ∈ t.filing.table, ∀ e ∈ l.extent, e.start + e.blocks ≤ Config.sideBlocks) : t.sidesLaw := by
  refine h.congr (by rw [lib]) (fun sd hsd => .inl (lib ▸ hsd)) extents ?_
  unfold State.holdLaw
  rw [drives]
  exact h.2.2

theorem modLodgement_extents {n : Nat} {g : Lodgement → Lodgement}
    (h : ∀ l ∈ s.filing.table, ∀ e ∈ l.extent, e.start + e.blocks ≤ Config.sideBlocks)
    (hg : ∀ l, ∀ e ∈ (g l).extent, e ∈ l.extent ∨ e.start + e.blocks ≤ Config.sideBlocks) :
    ∀ l ∈ (s.modLodgement n g).filing.table, ∀ e ∈ l.extent, e.start + e.blocks ≤ Config.sideBlocks := by
  intro l hl e he
  obtain ⟨k, hk, rfl⟩ := List.mem_map.mp hl
  split at he
  · exact (hg k e he).elim (h k hk e) id
  · exact h k hk e he

/-- A drive record changes, and nothing else. -/
theorem State.sidesLaw.drive (h : s.sidesLaw) (d : DriveNo) (g : Drive → Drive)
    (hg : (g s.drives[d]).state = .spindown → (g s.drives[d]).hold = none) : (s.modDrive d g).sidesLaw := by
  refine ⟨h.1, h.2.1, fun x hx => ?_⟩
  rw [State.modDrive_get] at hx ⊢
  split at hx
  · next hxd =>
    subst hxd
    rw [if_pos rfl]
    exact hg hx
  · next hxd =>
    rw [if_neg hxd]
    exact h.2.2 x hx

theorem State.sidesLaw.side (h : s.sidesLaw) {sd : SideId} {g : SideRecord → SideRecord} {a : Option SideId}
    (hc : Side.Change f s sd g a) : ((s.modSide sd g).modLib fun l => { l with active := a }).sidesLaw := by
  refine ⟨fun x hx => ?_, ⟨fun c hcart => ?_, h.2.1.2⟩, h.2.2⟩
  · obtain ⟨old, kept⟩ := hc.active x hx
    have filing := h.1 x old
    change ((s.modSide sd g).side? x).map (fun r => r.role) = some .filing
    rw [State.side?_modSide]
    cases hr : s.side? x with
    | none => simp [hr] at filing
    | some r =>
      rw [hr] at filing
      have role : r.role = .filing := Option.some.inj filing
      by_cases hx : x = sd
      · simp [hx, kept hx r role]
      · simp [hx, role]
  · have lawful := hc.lawful h.2.1
    obtain ⟨r, hr, rfl⟩ := List.mem_map.mp hcart
    obtain ⟨ha, hb⟩ := h.2.1.1 r hr
    split
    · cases sd.side with
      | A => exact ⟨lawful _ ha, hb⟩
      | B => exact ⟨ha, lawful _ hb⟩
    · exact ⟨ha, hb⟩

theorem State.sidesLaw.enter (h : s.sidesLaw) {c : Nat} (new : s.cart? c = none) (a b : Role) : (enterCart c a b s).sidesLaw := by
  have active : (enterCart c a b s).lib.active = s.lib.active := by rw [enterCart_new new]; rfl
  refine ⟨fun sd hsd => ?_, ⟨fun r hr => ?_, ?_⟩, ?_⟩
  · have filing := h.1 sd (active ▸ hsd)
    have other : sd.cart ≠ c := fun hc => State.side?_cart filing (hc ▸ new)
    rw [State.side?, cart?_enterCart new a b other]
    exact filing
  · rw [enterCart_new new] at hr
    rcases List.mem_cons.mp ((insertCart_perm _ _).mem_iff.mp hr) with rfl | hr
    · exact ⟨⟨Nat.zero_le _, Nat.zero_le _⟩, ⟨Nat.zero_le _, Nat.zero_le _⟩⟩
    · exact h.2.1.1 r hr
  · rw [enterCart_new new]
    exact h.2.1.2
  · unfold State.holdLaw
    rw [enterCart_drives]
    exact h.2.2

/-- Every change keeps the law of sides and holds. -/
theorem State.Change.keeps_sidesLaw (hc : State.Change m f s t) (h : s.sidesLaw) : t.sidesLaw := by
  have extents := h.2.1.2
  cases hc with
  | outer plant =>
    refine h.table (congrArg Plant.lib plant) (congrArg Plant.drives plant) ?_
    rw [show t.filing = s.filing from congrArg Plant.filing plant]
    exact extents
  | drive d g hg => exact h.drive d g (hg.hold (h.2.2 d))
  | @write d n e =>
    have written : ((s.modLodgement n fun l => { l with state := .writing, attempts := l.attempts + 1 }).modFiling fun g =>
        { g with hand := some (n, .run) }).sidesLaw := h.table rfl rfl (modLodgement_extents extents fun _ _ => .inl)
    exact written.drive d _ fun hs => by cases hs
  | fetch | picker | swept | want => exact h.table rfl rfl extents
  | @begin k p _ _ _ target =>
    obtain ⟨sides, active⟩ := beginTask_sides (s := s) k p
    have filing : (beginTask k p s).filing = s.filing := by
      unfold beginTask setHome
      dsimp only
      split
      · split <;> rfl
      · rfl
      · rfl
    refine h.congr sides (fun sd hsd => .inl (active ▸ hsd)) (by rw [filing]; exact extents) fun d hd => ?_
    rcases beginTask_get (State.taskTarget_eq_some.mp target).1 d with same | ⟨-, loading⟩
    · rw [same] at hd ⊢
      exact h.2.2 d hd
    · rw [loading] at hd
      cases hd
  | lib g hg => exact h.congr hg.sides hg.active extents h.2.2
  | side sd g a hg => exact h.side hg
  | enter c a b _ new => exact h.enter new a b
  | take | mount => exact h.table rfl rfl extents
  | @allot n _ _ e k _ _ _ _ fits =>
    refine State.sidesLaw.table (t := recordExtent n e s) h rfl rfl (modLodgement_extents extents fun l x hx => ?_)
    cases hx
    exact .inr fits
  | @drop n =>
    exact State.sidesLaw.table h rfl rfl (modLodgement_extents (n := n) (g := fun l => { l with extent := none, state := .staged }) extents
      fun _ _ he => by cases he)
  | arrival n g same => exact State.sidesLaw.table h rfl rfl (modLodgement_extents extents fun l e he => .inl ((same l).2.2 ▸ he))
  | filing g _ hg =>
    refine h.table rfl rfl fun l hl e he => ?_
    obtain ⟨k, hk, hx⟩ := hg.extents l hl e he
    exact extents k hk e hx

theorem State.Changes.keeps_sidesLaw (hc : State.Changes m f s t) (h : s.sidesLaw) : t.sidesLaw :=
  hc.keeps (P := State.sidesLaw) (fun _ _ => State.Change.keeps_sidesLaw) h

/-- A library without cartridges and without an active filing side has no side record to keep lawful. -/
theorem State.sidesLaw.bare (active : s.lib.active = none) (carts : s.lib.carts = [])
    (extents : ∀ l ∈ s.filing.table, ∀ e ∈ l.extent, e.start + e.blocks ≤ Config.sideBlocks) (hold : s.holdLaw) : s.sidesLaw :=
  ⟨fun sd hsd => (by cases active ▸ hsd), ⟨fun c hc => (by cases carts ▸ hc), extents⟩, hold⟩

theorem sidesLaw_writeInitial (h : s.sidesLaw) : (writeInitial s).sidesLaw := .bare rfl rfl h.2.1.2 h.2.2

theorem clearVolatile_drive (w : Nat) (s : State) (d : DriveNo) : (clearVolatile w s).drives[d] = Drive.initial := by
  simp only [clearVolatile, Fin.getElem_fin, Vector.getElem_replicate]

theorem sidesLaw_fullReset (h : s.sidesLaw) (cause : ResetCause) (kept : Bool) : (fullReset cause kept s).sidesLaw := by
  have idle : ∀ (w : Nat) (u : State), (clearVolatile w u).holdLaw := fun w u d hd => by
    rw [clearVolatile_drive] at hd
    cases hd
  have none : ∀ l ∈ Filing.initial.table, ∀ e ∈ l.extent, e.start + e.blocks ≤ Config.sideBlocks := fun l hl => by cases hl
  have ready : ∀ u : State, u.sidesLaw → (resetReady u).sidesLaw := fun u hu => by
    refine (lineChoose_changes.after refreshLine_changes).keeps_sidesLaw (m := False) (f := False) ?_
    exact ⟨hu.1, ⟨hu.2.1.1, none⟩, idle _ _⟩
  unfold fullReset
  dsimp only
  split
  · exact ready _ h
  · exact .bare rfl rfl none (idle _ _)

/-- Every deed keeps the law of sides and holds. -/
theorem State.Deed.keeps_sidesLaw (hd : State.Deed False False s t) (h : s.sidesLaw) : t.sidesLaw := by
  cases hd with
  | change hc => exact hc.keeps_sidesLaw h
  | formatNew =>
    exact (formatLine_changes.after judgeDefaults_changes).keeps_sidesLaw (m := False) (f := False)
      (State.sidesLaw.table (s := writeInitial s) (sidesLaw_writeInitial h) rfl rfl h.2.1.2)
  | formatQuiet =>
    exact ((formatLine_changes.after (releaseDrives_changes id)).after judgeDefaults_changes).keeps_sidesLaw (f := False)
      (sidesLaw_writeInitial h)
  | fullReset cause kept => exact sidesLaw_fullReset h cause kept
  | faultDrive _ minded => exact minded.elim False.elim False.elim
  | importCart _ _ minded | exportCart minded | mechanismReset _ minded | picked _ minded | placed _ minded | slotOccupied _ minded
  | mailPlaced minded | mailEmptied minded | spinDown _ minded | faultPicker minded | lodge _ _ _ _ _ _ minded | abandon minded
  | queueReset minded | body _ minded | byte _ minded | overflow minded | writeCompletion _ minded | writeError _ minded
  | verifyCompletion _ _ _ minded | idleExpires _ minded => exact minded.elim

/-- Settles O13: every step is a chain of deeds, each of which keeps the law. -/
theorem stepKeepsSidesAndHolds : Obligations.StepKeepsSidesAndHolds := by
  intro s t active side hold h
  exact (step_deeds False.elim h).keeps (P := State.sidesLaw) (fun _ _ => State.Deed.keeps_sidesLaw) ⟨active, side, hold⟩

-- Capacities ------------------------------------------------------------------------------------------------------

/-- What O14 keeps. -/
def State.capacities (s : State) : Prop := s.capacityLaw ∧ s.loadLaw

/-- The law reads the cartridge table, the ports, the fetch queue, the lodgement table and the load starts. -/
theorem State.capacities.congr (h : s.capacities) (table : t.tableLaw) (ports : s.portsLaw → t.portsLaw)
    (orders : t.fetch.queue.length ≤ Config.maxOrders) (lodgements : t.filing.table.length ≤ Config.maxLodgements)
    (starts : t.loadLaw) : t.capacities := by
  obtain ⟨⟨-, inbound, outbound, notices, -, -, counters⟩, -⟩ := h
  obtain ⟨inbound, outbound, notices, counters⟩ := ports ⟨inbound, outbound, notices, counters⟩
  exact ⟨⟨table, inbound, outbound, notices, orders, lodgements, counters⟩, starts⟩

theorem tableLaw_of_numbers (h : (t.lib.carts.map fun r => r.number) = s.lib.carts.map fun r => r.number) (hs : s.tableLaw) :
    t.tableLaw := by
  refine ⟨?_, h ▸ hs.2.1, fun r hr => ?_⟩
  · have length := congrArg List.length h
    rw [List.length_map, List.length_map] at length
    exact length ▸ hs.1
  · obtain ⟨q, hq, he⟩ := List.mem_map.mp (h ▸ List.mem_map_of_mem hr)
    exact he ▸ hs.2.2 q hq

theorem numbers_of_sides (h : t.lib.carts.map Cartridge.sides = s.lib.carts.map Cartridge.sides) :
    (t.lib.carts.map fun r => r.number) = s.lib.carts.map fun r => r.number := by
  have numbers := congrArg (List.map Prod.fst) h
  rwa [List.map_map, List.map_map] at numbers

theorem modCart_numbers (c : Nat) (g : Cartridge → Cartridge) (hg : ∀ r, (g r).number = r.number) :
    ((s.modCart c g).lib.carts.map fun r => r.number) = s.lib.carts.map fun r => r.number := by
  rw [State.modCart_lib, List.map_map]
  refine List.map_congr_left fun r _ => ?_
  simp only [Function.comp_apply]
  split
  · exact hg r
  · rfl

theorem State.cart?_eq_none {c : Nat} (h : s.cart? c = none) : ∀ r ∈ s.lib.carts, r.number ≠ c := fun r hr =>
  of_decide_eq_false (Bool.eq_false_iff.mpr (List.find?_eq_none.mp h r hr))

theorem tableLaw_enterCart {c : Nat} (new : s.cart? c = none) (room : s.lib.carts.length < Config.maxCartridges)
    (range : 1 ≤ c ∧ c ≤ Config.maxCartridgeNumber) (a b : Role) (h : s.tableLaw) : (enterCart c a b s).tableLaw := by
  rw [enterCart_new new]
  have perm := insertCart_perm (Cartridge.fresh c a b) s.lib.carts
  refine ⟨perm.length_eq ▸ room, ?_, fun r hr => ?_⟩
  · refine ((perm.map fun r => r.number).pairwise_iff fun hxy => Ne.symm hxy).mpr (List.pairwise_cons.mpr ⟨fun x hx => ?_, h.2.1⟩)
    obtain ⟨r, hr, rfl⟩ := List.mem_map.mp hx
    exact (State.cart?_eq_none new r hr).symm
  · rcases List.mem_cons.mp (perm.mem_iff.mp hr) with rfl | hr
    · exact range
    · exact h.2.2 r hr

/-- Beginning a task counts a LOAD in the load window, within its four starts (R74). -/
theorem beginTask_starts {k : Task} {p : PickPoint} (h : s.loadLaw) : (beginTask k p s).loadLaw := by
  unfold beginTask
  dsimp only
  split
  · unfold setHome
    split <;> exact h
  · unfold State.loadLaw recordStart
    simp only [setReopening, State.modPicker_picker]
    split
    · assumption
    · rw [List.length_drop, List.length_append]
      exact Nat.le_trans (Nat.sub_le_sub_right (Nat.add_le_add_right h 1) 1) (Nat.le_refl _)
  · exact h

/-- What beginning a task leaves as it was. -/
theorem beginTask_frame (k : Task) (p : PickPoint) (s : State) :
    (beginTask k p s).fetch = s.fetch ∧ (beginTask k p s).filing = s.filing ∧ (beginTask k p s).link = s.link ∧
      (beginTask k p s).line = s.line := by
  unfold beginTask setHome
  dsimp only
  split
  · split <;> exact ⟨rfl, rfl, rfl, rfl⟩
  · exact ⟨rfl, rfl, rfl, rfl⟩
  · exact ⟨rfl, rfl, rfl, rfl⟩

/-- Every change keeps the capacities. -/
theorem State.Change.keeps_capacities (hc : State.Change m f s t) (h : s.capacities) : t.capacities := by
  obtain ⟨⟨table, -, -, -, orders, lodgements, -⟩, starts⟩ := id h
  have lodgement : ∀ (n : Nat) (g : Lodgement → Lodgement), (s.modLodgement n g).filing.table.length ≤ Config.maxLodgements :=
    fun n g => (List.length_map _).trans_le lodgements
  cases hc with
  | outer plant ports =>
    have lib : t.lib = s.lib := congrArg Plant.lib plant
    have fetch : t.fetch = s.fetch := congrArg Plant.fetch plant
    have filing : t.filing = s.filing := congrArg Plant.filing plant
    have picker : t.picker = s.picker := congrArg Plant.picker plant
    exact h.congr (tableLaw_of_numbers (by rw [lib]) table) ports (fetch ▸ orders) (filing ▸ lodgements)
      (show t.picker.starts.length ≤ _ from picker ▸ starts)
  | drive | swept | take | mount | want => exact h
  | write | drop | arrival => exact h.congr table id orders (lodgement _ _) starts
  | allot => exact h.congr table id orders (lodgement _ _) starts
  | fetch g hg => exact h.congr table id (hg orders) lodgements starts
  | picker g hg => exact h.congr table id orders lodgements (hg.starts starts)
  | @begin k p =>
    obtain ⟨fetch, filing, link, line⟩ := beginTask_frame k p s
    refine h.congr (tableLaw_of_numbers (numbers_of_sides (beginTask_sides k p).1) table) (fun ports => ?_) (fetch ▸ orders)
      (filing ▸ lodgements) (beginTask_starts starts)
    unfold State.portsLaw at ports ⊢
    rwa [link, line]
  | lib g hg => exact h.congr (tableLaw_of_numbers (numbers_of_sides hg.sides) table) id orders lodgements starts
  | side sd g a =>
    refine h.congr (tableLaw_of_numbers ?_ table) id orders lodgements starts
    exact modCart_numbers sd.cart _ fun r => Cartridge.modSide_number sd.side g r
  | enter c a b _ new room range =>
    refine h.congr (tableLaw_enterCart new room range a b table) ?_ ?_ ?_ ?_ <;> rw [enterCart_new new]
    · exact id
    · exact orders
    · exact lodgements
    · exact starts
  | filing g _ hg => exact h.congr table id orders (hg.room lodgements) starts

theorem State.Changes.keeps_capacities (hc : State.Changes m f s t) (h : s.capacities) : t.capacities :=
  hc.keeps (P := State.capacities) (fun _ _ => State.Change.keeps_capacities) h

theorem tableLaw_nil {l : Library} (h : l.carts = []) : State.tableLaw { s with lib := l } := by
  unfold State.tableLaw
  simp [h]

theorem capacities_fullReset (h : s.capacities) (cause : ResetCause) (kept : Bool) : (fullReset cause kept s).capacities := by
  have counters : ∀ (n : CounterNo), (Line.initial.counters[n]).posts.length ≤ Config.maxPosts ∧
      (Line.initial.counters[n]).failures ≤ Config.absentFailures := by decide
  have cleared : ∀ (w : Nat) (u : State), u.tableLaw → (clearVolatile w u).capacities := fun w u hu =>
    ⟨⟨hu, Nat.zero_le _, Nat.zero_le _, Nat.zero_le _, Nat.zero_le _, Nat.zero_le _, counters⟩, Nat.le_refl _⟩
  have ready : ∀ u : State, u.tableLaw → (resetReady u).capacities := fun u hu =>
    (lineChoose_changes.after refreshLine_changes).keeps_capacities (m := False) (f := False) (cleared _ _ hu)
  unfold fullReset
  dsimp only
  split
  · exact ready _ h.1.1
  · exact cleared _ _ (tableLaw_nil (s := s) (l := Library.initial) rfl)

/-- Every deed keeps the capacities. -/
theorem State.Deed.keeps_capacities (hd : State.Deed False False s t) (h : s.capacities) : t.capacities := by
  have initial : (writeInitial s).capacities :=
    h.congr (tableLaw_nil (s := s) (l := { s.lib with carts := [], active := none }) rfl) id h.1.2.2.2.2.1 h.1.2.2.2.2.2.1 h.2
  cases hd with
  | change hc => exact hc.keeps_capacities h
  | formatNew =>
    exact (formatLine_changes.after judgeDefaults_changes).keeps_capacities (m := False) (f := False)
      (s := { writeInitial s with mechReset := true }) initial
  | formatQuiet =>
    exact ((formatLine_changes.after (releaseDrives_changes id)).after judgeDefaults_changes).keeps_capacities (f := False) initial
  | fullReset cause kept => exact capacities_fullReset h cause kept
  | faultDrive _ minded => exact minded.elim False.elim False.elim
  | importCart _ _ minded | exportCart minded | mechanismReset _ minded | picked _ minded | placed _ minded | slotOccupied _ minded
  | mailPlaced minded | mailEmptied minded | spinDown _ minded | faultPicker minded | lodge _ _ _ _ _ _ minded | abandon minded
  | queueReset minded | body _ minded | byte _ minded | overflow minded | writeCompletion _ minded | writeError _ minded
  | verifyCompletion _ _ _ minded | idleExpires _ minded => exact minded.elim

/-- Settles O14: every step is a chain of deeds, each of which keeps the capacities. -/
theorem stepKeepsCapacities : Obligations.StepKeepsCapacities := by
  intro s t capacity load h
  exact (step_deeds False.elim h).keeps (P := State.capacities) (fun _ _ => State.Deed.keeps_capacities) ⟨capacity, load⟩

end Sys2Proof.Machine
end
-- ==== Proofs: the filing unit under the changes ====
section
/-!
SUPPORT for O36: the law of the filing unit, in the parts that the changes keep one by one.
-/
namespace Sys2Proof.Machine

-- The parts of the law --------------------------------------------------------------------------------------------

/-- The lodgement table with the lodgement in hand (R129, R130, R133 to R135). -/
structure Filing.Lawful (g : Filing) : Prop where
  distinct : (g.table.map fun l => l.number).Pairwise (· ≠ ·)
  extents  : ∀ l ∈ g.table, ∀ e ∈ l.extent, ∃ h ∈ g.hand, h.1 = l.number ∧ h.2 ≠ .side
  hand     : ∀ h ∈ g.hand, ∃ l ∈ g.table, l.number = h.1 ∧ l.state ≠ .receiving
  idle     : ∀ l ∈ g.table, l.state ≠ .receiving → l.idle = none

/-- Every extent begins at its side's next-free block (R137). -/
def State.extentsFree (s : State) : Prop := ∀ l ∈ s.filing.table, ∀ e ∈ l.extent, ∃ r ∈ s.side? e.sideId, r.nextFree = e.start

/-- The lodgements of the number whose page is arriving are RECEIVING (R131). -/
def State.arrivalsOpen (s : State) : Prop := ∀ n ∈ s.link.arriving, ∀ l ∈ s.filing.table, l.number = n → l.state = .receiving

theorem State.arrivalLaw_iff {s : State} : s.arrivalLaw = true ↔ s.arrivalsOpen := by
  unfold State.arrivalLaw State.arrivalsOpen
  split
  · next n _ _ h =>
    have arriving : s.link.arriving = some n := by rw [Link.arriving, h]
    simp only [arriving, Option.mem_some_iff, List.all_eq_true, decide_eq_true_eq]
    exact ⟨fun all k hk l hl number => all l hl (number.trans hk.symm), fun all l hl number => all n rfl l hl number⟩
  · next other =>
    have arriving : s.link.arriving = none := by
      unfold Link.arriving
      split
      · next h => exact absurd h (other _ _ _ _)
      · rfl
    simp only [arriving, true_iff]
    nofun

/-- What O36 keeps. -/
structure State.HeldLaw (s : State) : Prop where
  filing    : s.filing.Lawful
  runs      : s.filingRunLaw
  locations : s.locationLaw
  free      : s.extentsFree
  arrivals  : s.arrivalsOpen

theorem State.heldLaw_iff {s : State} : s.HeldLaw ↔ s.filingLaw ∧ s.locationLaw := by
  constructor
  · rintro ⟨⟨distinct, extents, hand, idle⟩, runs, locations, free, arrival⟩
    exact ⟨⟨distinct, fun l hl e he => ⟨extents l hl e he, free l hl e he⟩, ⟨hand, idle⟩, runs, State.arrivalLaw_iff.mpr arrival⟩,
      locations⟩
  · rintro ⟨⟨distinct, extents, ⟨hand, idle⟩, runs, arrival⟩, locations⟩
    exact ⟨⟨distinct, fun l hl e he => (extents l hl e he).1, hand, idle⟩, runs, locations,
      fun l hl e he => (extents l hl e he).2, State.arrivalLaw_iff.mp arrival⟩

variable {m f : Prop} {s t : State}

-- The lodgement table ---------------------------------------------------------------------------------------------

/-- A lodgement of the table is the one found under its number. -/
theorem Filing.Lawful.found (h : s.filing.Lawful) {l : Lodgement} (hl : l ∈ s.filing.table) : s.lodgement? l.number = some l := by
  have distinct := h.distinct
  unfold State.lodgement?
  generalize s.filing.table = ls at hl distinct
  induction ls with
  | nil => cases hl
  | cons k rest ih =>
    obtain ⟨fresh, distinct⟩ := List.pairwise_cons.mp distinct
    rcases List.mem_cons.mp hl with rfl | hl
    · simp
    · rw [List.find?_cons_of_neg (by simpa using fresh _ (List.mem_map_of_mem hl))]
      exact ih hl distinct

/-- Two lodgements of the table with one number are one. -/
theorem Filing.Lawful.unique (h : s.filing.Lawful) {l k : Lodgement} (hl : l ∈ s.filing.table) (hk : k ∈ s.filing.table)
    (number : l.number = k.number) : l = k :=
  Option.some.inj ((h.found hl).symm.trans (number ▸ h.found hk))

/-- The lodgement in hand is past RECEIVING. -/
theorem Filing.Lawful.inHand (h : s.filing.Lawful) {n : Nat} {k : EngineStep} (hand : s.filing.hand = some (n, k)) {l : Lodgement}
    (hl : l ∈ s.filing.table) (number : l.number = n) : l.state ≠ .receiving := by
  obtain ⟨q, hq, same, state⟩ := h.hand (n, k) hand
  rwa [h.unique hl hq (number.trans same.symm)]

/-- With nothing in hand, or in step SIDE, no lodgement has an extent. -/
theorem Filing.Lawful.bare {g : Filing} (h : g.Lawful) (hand : ∀ x ∈ g.hand, x.2 = .side) : ∀ l ∈ g.table, l.extent = none := by
  intro l hl
  cases he : l.extent with
  | none => rfl
  | some e =>
    obtain ⟨x, hx, -, step⟩ := h.extents l hl e he
    exact absurd (hand x hx) step

/-- One lodgement's record and the hand change. -/
theorem Filing.Lawful.change {g : Filing} (h : g.Lawful) (n : Nat) (k : Lodgement → Lodgement) (hd : Option (Nat × EngineStep))
    (number : ∀ l, (k l).number = l.number)
    (extents : ∀ l ∈ g.table, ∀ e ∈ (if l.number = n then k l else l).extent, ∃ x ∈ hd, x.1 = l.number ∧ x.2 ≠ .side)
    (hand : ∀ x ∈ hd, ∃ l ∈ g.table, l.number = x.1 ∧ (if l.number = n then k l else l).state ≠ .receiving)
    (idle : ∀ l ∈ g.table, l.number = n → (k l).state ≠ .receiving → (k l).idle = none) (w : Bool) (i j : Nat) :
    Filing.Lawful ⟨g.table.map fun l => if l.number = n then k l else l, i, hd, w, j⟩ := by
  have same : ∀ l : Lodgement, (if l.number = n then k l else l).number = l.number := fun l => by
    split
    · exact number l
    · rfl
  refine ⟨?_, fun q hq e he => ?_, fun x hx => ?_, fun q hq state => ?_⟩
  · simpa only [List.map_map, Function.comp_def, same] using h.distinct
  · obtain ⟨l, hl, rfl⟩ := List.mem_map.mp hq
    rw [same]
    exact extents l hl e he
  · obtain ⟨l, hl, hx, state⟩ := hand x hx
    exact ⟨_, List.mem_map_of_mem hl, (same l).trans hx, state⟩
  · obtain ⟨l, hl, rfl⟩ := List.mem_map.mp hq
    by_cases hn : l.number = n
    · rw [if_pos hn] at state ⊢
      exact idle l hl hn state
    · rw [if_neg hn] at state ⊢
      exact h.idle l hl state

/-- One lodgement's record changes, and its state and extent do not. -/
theorem Filing.Lawful.record {g : Filing} (h : g.Lawful) (n : Nat) (k : Lodgement → Lodgement)
    (same : ∀ l, (k l).number = l.number ∧ (k l).state = l.state ∧ (k l).extent = l.extent)
    (idle : ∀ l ∈ g.table, l.number = n → l.state ≠ .receiving → (k l).idle = none) :
    Filing.Lawful { g with table := g.table.map fun l => if l.number = n then k l else l } := by
  refine h.change n k g.hand (fun l => (same l).1) (fun l hl e he => ?_) (fun x hx => ?_) (fun l hl hn state => ?_) _ _ _
  · refine h.extents l hl e ?_
    split at he
    · exact (same l).2.2 ▸ he
    · exact he
  · obtain ⟨l, hl, number, state⟩ := h.hand x hx
    refine ⟨l, hl, number, ?_⟩
    split
    · rwa [(same l).2.1]
    · exact state
  · exact idle l hl hn ((same l).2.1 ▸ state)

-- The runs --------------------------------------------------------------------------------------------------------

/-- No drive has a live write or verify run. -/
def State.noFilingRun (s : State) : Prop := ∀ d : DriveNo, ∀ u ∈ (s.drives[d]).run, u.files = false

/-- While the lodgement in hand is not in step RUN, no run files (R134, R140). -/
theorem State.filingRunLaw.none (h : s.filingRunLaw) (hand : ∀ x ∈ s.filing.hand, x.2 ≠ .run) : s.noFilingRun := by
  intro d u hu
  by_contra hfile
  exact hand _ (h.1 d u hu (by simpa using hfile)) rfl

theorem State.noFilingRun.lawful (h : s.noFilingRun) (reads : ∀ d : DriveNo, (s.drives[d]).readLaw) : s.filingRunLaw :=
  ⟨fun d u hu hfile => by simp [h d u hu] at hfile, fun d _ _ u hu hfile => by simp [h d u hu] at hfile, reads⟩

/-- The runs that file after a change are runs that filed before it. -/
theorem State.filingRunLaw.change (h : s.filingRunLaw) (hand : t.filing.hand = s.filing.hand)
    (drives : ∀ d : DriveNo, (t.drives[d]).readLaw ∧
      ∀ u ∈ (t.drives[d]).run, u.files = true → ∃ v ∈ (s.drives[d]).run, v.files = true ∧ v.owner = u.owner) : t.filingRunLaw := by
  refine ⟨fun d u hu hfile => ?_, fun d x hne u hu hfile v hv => ?_, fun d => (drives d).1⟩
  · obtain ⟨v, hv, files, owner⟩ := (drives d).2 u hu hfile
    rw [hand, ← owner]
    exact h.1 d v hv files
  · by_contra files
    obtain ⟨p, hp, fp, -⟩ := (drives d).2 u hu hfile
    obtain ⟨q, hq, fq, -⟩ := (drives x).2 v hv (by simpa using files)
    simp [h.2.1 d x hne p hp fp q hq] at fq

theorem State.filingRunLaw.same (h : s.filingRunLaw) (hand : t.filing.hand = s.filing.hand) (drives : t.drives = s.drives) :
    t.filingRunLaw := by
  refine h.change hand fun d => ?_
  rw [drives]
  exact ⟨h.2.2 d, fun u hu files => ⟨u, hu, files, rfl⟩⟩

/-- The hand moves while no run files. -/
theorem State.filingRunLaw.rehand (h : s.filingRunLaw) (hand : ∀ x ∈ s.filing.hand, x.2 ≠ .run) (drives : t.drives = s.drives) :
    t.filingRunLaw := by
  have none := h.none hand
  unfold State.noFilingRun at none
  rw [← drives] at none
  refine State.noFilingRun.lawful none fun d => ?_
  rw [drives]
  exact h.2.2 d

/-- One drive's record changes. -/
theorem State.filingRunLaw.drive (h : s.filingRunLaw) (d : DriveNo) (g : Drive → Drive) (read : (g s.drives[d]).readLaw)
    (runs : ∀ u ∈ (g s.drives[d]).run, u.files = true → ∃ v ∈ (s.drives[d]).run, v.files = true ∧ v.owner = u.owner) :
    (s.modDrive d g).filingRunLaw := by
  refine h.change rfl fun x => ?_
  rw [State.modDrive_get]
  split
  · next hx =>
    subst hx
    exact ⟨read, runs⟩
  · exact ⟨h.2.2 x, fun u hu files => ⟨u, hu, files, rfl⟩⟩

-- Side records ----------------------------------------------------------------------------------------------------

/-- Every side keeps its record with its next-free block. -/
def State.frees (s t : State) : Prop := ∀ sd r, s.side? sd = some r → ∃ q, t.side? sd = some q ∧ q.nextFree = r.nextFree

theorem State.frees_of_sides (h : t.lib.carts.map Cartridge.sides = s.lib.carts.map Cartridge.sides) : s.frees t :=
  fun sd r hr => ⟨r, (State.side?_of_sides h sd).trans hr, rfl⟩

theorem State.frees_of_lib (h : t.lib = s.lib) : s.frees t := State.frees_of_sides (by rw [h])

/-- Every change that minds the filing unit leaves the next-free blocks (R45). -/
theorem State.Change.frees (hf : f) (hc : State.Change m f s t) : s.frees t := by
  cases hc with
  | outer plant => exact State.frees_of_lib (congrArg Plant.lib plant)
  | begin => exact State.frees_of_sides (beginTask_sides _ _).1
  | lib g hg => exact State.frees_of_sides hg.sides
  | side sd g a hg =>
    intro x r hr
    have changed : ((s.modSide sd g).modLib fun l => { l with active := a }).side? x = (s.modSide sd g).side? x := rfl
    rw [changed, State.side?_modSide, hr]
    refine ⟨_, rfl, ?_⟩
    split
    · exact hg.free hf r
    · rfl
  | enter c a b _ new =>
    intro x r hr
    have other : x.cart ≠ c := fun hx => State.side?_cart (p := fun r => r.role) (x := r.role) (by rw [hr]; rfl) (hx ▸ new)
    refine ⟨r, ?_, rfl⟩
    rw [State.side?, cart?_enterCart new a b other]
    exact hr
  | filing _ unminded => exact absurd hf unminded
  | _ => exact State.frees_of_lib rfl

/-- Every change that minds the filing unit leaves the held locations (R45). -/
theorem State.Change.held (hf : f) (hc : State.Change m f s t) : t.dir.held = s.dir.held := by
  cases hc with
  | outer _ _ desk => exact (desk hf).1
  | begin =>
    unfold beginTask setHome
    dsimp only
    split
    · split <;> rfl
    · rfl
    · rfl
  | enter c a b _ new => rw [enterCart_new new]; rfl
  | filing _ unminded => exact absurd hf unminded
  | _ => rfl

theorem State.locationLaw.frees (h : s.locationLaw) (held : t.dir.held = s.dir.held) (frees : s.frees t) : t.locationLaw := by
  refine ⟨fun e he => ?_, held ▸ h.2⟩
  obtain ⟨r, hr, below⟩ := h.1 e (held ▸ he)
  obtain ⟨q, hq, same⟩ := frees e.sideId r hr
  exact ⟨q, hq, below.trans same.ge⟩

-- Each change -----------------------------------------------------------------------------------------------------

theorem State.Change.keeps_filing (hf : f) (hc : State.Change m f s t) (h : s.filing.Lawful) : t.filing.Lawful := by
  cases hc with
  | outer plant => exact (show t.filing = s.filing from congrArg Plant.filing plant) ▸ h
  | @write d n e hw =>
    obtain ⟨hand, -⟩ := State.readyWrite_iff.mp hw
    refine h.change n (fun l => { l with state := .writing, attempts := l.attempts + 1 }) (some (n, .run)) (fun _ => rfl)
      (fun l hl x hx => ?_) (fun x hx => ?_) (fun l hl hn _ => ?_) _ _ _
    · have extent : x ∈ l.extent := by split at hx <;> exact hx
      obtain ⟨y, hy, number, -⟩ := h.extents l hl x extent
      rw [hand, Option.mem_some_iff] at hy
      exact ⟨(n, .run), rfl, by rw [← number, ← hy], nofun⟩
    · cases hx
      obtain ⟨l, hl, number, -⟩ := h.hand _ hand
      exact ⟨l, hl, number, by rw [if_pos number]; nofun⟩
    · exact h.idle l hl (h.inHand hand hl hn)
  | @begin k p => exact (beginTask_frame k p s).2.1 ▸ h
  | enter c a b _ new => rw [enterCart_new new]; exact h
  | @take l hand mem staged =>
    have none := h.bare (by rw [hand]; nofun)
    refine ⟨h.distinct, fun k hk e he => ?_, fun x hx => ⟨l, mem, ?_, ?_⟩, h.idle⟩
    · rw [none k hk] at he
      cases he
    · cases hx
      rfl
    · rw [staged]
      nofun
  | @allot n l r e k hand found side start fits step =>
    have bare := h.bare (by rw [hand]; rintro x ⟨⟩; rfl)
    refine h.change n (fun l => { l with extent := some e }) (some (n, k)) (fun _ => rfl) (fun l hl x hx => ?_) (fun x hx => ?_) (fun l hl hn => h.idle l hl) _ _ _
    · split at hx
      · next hn => exact ⟨(n, k), rfl, hn.symm, by rcases step with rfl | rfl <;> nofun⟩
      · rw [bare l hl] at hx
        cases hx
    · cases hx
      obtain ⟨q, hq, number, state⟩ := h.hand _ hand
      exact ⟨q, hq, number, by rw [if_pos number]; exact state⟩
  | @mount n hand =>
    refine ⟨h.distinct, fun l hl e he => ?_, fun x hx => ?_, h.idle⟩
    · obtain ⟨y, hy, number, -⟩ := h.extents l hl e he
      rw [hand, Option.mem_some_iff] at hy
      exact ⟨(n, .ready), rfl, by rw [← number, ← hy], nofun⟩
    · cases hx
      exact h.hand (n, .drive) hand
  | want => exact ⟨h.distinct, h.extents, h.hand, h.idle⟩
  | @drop n k hand step =>
    refine h.change n (fun l => { l with extent := none, state := .staged }) (some (n, .side)) (fun _ => rfl) (fun l hl x hx => ?_) (fun x hx => ?_) (fun l hl hn _ => ?_) _ _ _
    · split at hx
      · cases hx
      · next hn =>
        obtain ⟨y, hy, number, -⟩ := h.extents l hl x hx
        rw [hand, Option.mem_some_iff] at hy
        exact absurd (by rw [← number, ← hy]) hn
    · cases hx
      obtain ⟨q, hq, number, -⟩ := h.hand _ hand
      exact ⟨q, hq, number, by rw [if_pos number]; nofun⟩
    · exact h.idle l hl (h.inHand hand hl hn)
  | arrival n g same receiving =>
    exact h.record n g same fun l hl hn state => absurd (receiving hf l (hn ▸ h.found hl)) state
  | filing _ unminded => exact absurd hf unminded
  | _ => exact h

theorem State.Change.keeps_runs (hf : f) (hc : State.Change m f s t) (h : s.filingRunLaw) : t.filingRunLaw := by
  cases hc with
  | outer plant => exact h.same (congrArg (fun p => p.filing.hand) plant) (congrArg Plant.drives plant)
  | drive d g hg =>
    obtain ⟨read, runs⟩ := hg.run hf (h.2.2 d)
    exact h.drive d g read runs
  | @write d n e hw =>
    obtain ⟨hand, -⟩ := State.readyWrite_iff.mp hw
    have none := h.none (by rw [hand]; rintro x ⟨⟩; nofun)
    have get : ∀ x : DriveNo, x ≠ d → (beginWrite d n e s).drives[x] = s.drives[x] := fun x hx => by
      rw [beginWrite, State.modDrive_get, if_neg hx]
      rfl
    have filing : ∀ x : DriveNo, ∀ u ∈ ((beginWrite d n e s).drives[x]).run, u.files = true →
        x = d ∧ u = { kind := .write, owner := n, page := 0, region := e.region, mark := .live } := fun x u hu files => by
      by_cases hx : x = d
      · rw [beginWrite, State.modDrive_get, if_pos hx] at hu
        exact ⟨hx, (Option.mem_some_iff.mp hu).symm⟩
      · rw [get x hx] at hu
        simp [none x u hu] at files
    refine ⟨fun x u hu files => ?_, fun x y hne u hu fu v hv => ?_, fun x u hu live read => ?_⟩
    · rw [(filing x u hu files).2]
      rfl
    · by_contra fv
      exact hne ((filing x u hu fu).1.trans (filing y v hv (by simpa using fv)).1.symm)
    · by_cases hx : x = d
      · rw [beginWrite, State.modDrive_get, if_pos hx] at hu
        cases hu
        cases read
      · rw [get x hx] at hu ⊢
        exact h.2.2 x u hu live read
  | @begin k p _ _ _ target =>
    refine h.change (congrArg Filing.hand (beginTask_frame k p s).2.1) fun d => ?_
    rcases beginTask_get (State.taskTarget_eq_some.mp target).1 d with same | ⟨-, loading⟩
    · rw [same]
      exact ⟨h.2.2 d, fun u hu files => ⟨u, hu, files, rfl⟩⟩
    · rw [loading]
      exact ⟨fun _ _ _ _ => ⟨nofun, nofun⟩, fun u hu files => ⟨u, hu, files, rfl⟩⟩
  | enter c a b _ new => exact h.same (by rw [enterCart_new new]; rfl) (enterCart_drives c a b s)
  | take hand => exact h.rehand (by rw [hand]; nofun) rfl
  | allot _ _ hand => exact h.rehand (by rw [hand]; rintro x ⟨⟩; nofun) rfl
  | mount hand => exact h.rehand (by rw [hand]; rintro x ⟨⟩; nofun) rfl
  | drop hand step => exact h.rehand (by rw [hand]; rintro x ⟨⟩; exact step) rfl
  | filing _ unminded => exact absurd hf unminded
  | _ => exact h.same rfl rfl

-- Extents and the arriving page -----------------------------------------------------------------------------------

/-- An extent in the table was there before the change, or begins at the next-free block of its side (R137). -/
theorem State.Change.extents (hf : f) (hc : State.Change m f s t) : ∀ l ∈ t.filing.table, ∀ e ∈ l.extent,
    (∃ k ∈ s.filing.table, e ∈ k.extent) ∨ ∃ r, s.side? e.sideId = some r ∧ r.nextFree = e.start := by
  have record : ∀ (n : Nat) (k : Lodgement → Lodgement) (e : Location), (∀ l, e ∈ (k l).extent → e ∈ l.extent) →
      ∀ l ∈ (s.modLodgement n k).filing.table, e ∈ l.extent → ∃ k ∈ s.filing.table, e ∈ k.extent := fun n k e hk l hl he => by
    obtain ⟨q, hq, rfl⟩ := List.mem_map.mp hl
    split at he
    · exact ⟨q, hq, hk q he⟩
    · exact ⟨q, hq, he⟩
  intro l hl e he
  cases hc with
  | outer plant => exact .inl ⟨l, (show t.filing = s.filing from congrArg Plant.filing plant) ▸ hl, he⟩
  | @write d n e' =>
    exact .inl (record n (fun l => { l with state := .writing, attempts := l.attempts + 1 }) e (fun _ => id) l hl he)
  | @begin k p => exact .inl ⟨l, (beginTask_frame k p s).2.1 ▸ hl, he⟩
  | enter c a b _ new => exact .inl ⟨l, by rw [enterCart_new new] at hl; exact hl, he⟩
  | @allot n _ r x k _ _ side start =>
    obtain ⟨q, hq, rfl⟩ := List.mem_map.mp hl
    split at he
    · cases he
      exact .inr ⟨r, side, start.symm⟩
    · exact .inl ⟨q, hq, he⟩
  | @drop n =>
    exact .inl (record n (fun l => { l with extent := none, state := .staged }) e (fun _ h => by cases h) l hl he)
  | arrival n g same => exact .inl (record n g e (fun l h => (same l).2.2 ▸ h) l hl he)
  | filing _ unminded => exact absurd hf unminded
  | _ => exact .inl ⟨l, hl, he⟩

theorem State.Change.keeps_free (hf : f) (hc : State.Change m f s t) (h : s.extentsFree) : t.extentsFree := by
  intro l hl e he
  have free : ∃ r, s.side? e.sideId = some r ∧ r.nextFree = e.start :=
    (hc.extents hf l hl e he).elim (fun ⟨k, hk, hx⟩ => h k hk e hx) id
  obtain ⟨r, hr, start⟩ := free
  obtain ⟨q, hq, same⟩ := hc.frees hf e.sideId r hr
  exact ⟨q, hq, same.trans start⟩

/-- A RECEIVING lodgement stays RECEIVING. -/
theorem State.arrivalsOpen.change (h : s.arrivalsOpen) (arriving : t.link.arriving = s.link.arriving)
    (table : ∀ l ∈ t.filing.table, ∃ k ∈ s.filing.table, k.number = l.number ∧ (k.state = .receiving → l.state = .receiving)) :
    t.arrivalsOpen := by
  intro n hn l hl number
  obtain ⟨k, hk, same, state⟩ := table l hl
  exact state (h n (arriving ▸ hn) k hk (same.trans number))

/-- The record of one lodgement changes, which is not RECEIVING or stays so. -/
theorem State.arrivalsOpen.record (h : s.arrivalsOpen) (n : Nat) (k : Lodgement → Lodgement) (number : ∀ l, (k l).number = l.number)
    (state : ∀ l ∈ s.filing.table, l.number = n → l.state = .receiving → (k l).state = .receiving) :
    (s.modLodgement n k).arrivalsOpen := by
  refine h.change rfl fun q hq => ?_
  obtain ⟨l, hl, rfl⟩ := List.mem_map.mp hq
  refine ⟨l, hl, ?_, fun receiving => ?_⟩
  · split
    · exact (number l).symm
    · rfl
  · split
    · next hn => exact state l hl hn receiving
    · exact receiving

theorem State.Change.keeps_arrivals (hf : f) (hc : State.Change m f s t) (hs : s.filing.Lawful) (h : s.arrivalsOpen) :
    t.arrivalsOpen := by
  have inHand : ∀ (n : Nat) (k : EngineStep) (g : Lodgement → Lodgement), s.filing.hand = some (n, k) → ∀ l ∈ s.filing.table,
      l.number = n → l.state = .receiving → (g l).state = .receiving := fun n k g hand l hl number receiving =>
    absurd receiving (hs.inHand hand hl number)
  cases hc with
  | outer plant _ desk =>
    intro n hn l hl number
    rw [show t.filing = s.filing from congrArg Plant.filing plant] at hl
    rcases (desk hf).2 n hn with old | receiving
    · exact h n old l hl number
    · exact receiving l (number ▸ hs.found hl)
  | @write d n e hw => exact h.record n _ (fun _ => rfl) (inHand n _ _ (State.readyWrite_iff.mp hw).1)
  | @begin k p =>
    obtain ⟨-, filing, link, -⟩ := beginTask_frame k p s
    exact h.change (by rw [link]) fun l hl => ⟨l, filing ▸ hl, rfl, id⟩
  | enter c a b _ new => rw [enterCart_new new]; exact h
  | @allot n _ _ e _ hand => exact h.record n (fun l => { l with extent := some e }) (fun _ => rfl) (inHand n _ _ hand)
  | @drop n _ hand => exact h.record n (fun l => { l with extent := none, state := .staged }) (fun _ => rfl) (inHand n _ _ hand)
  | arrival n g same => exact h.record n g (fun l => (same l).1) fun l _ _ receiving => (same l).2.1.trans receiving
  | filing _ unminded => exact absurd hf unminded
  | _ => exact h

-- Chains ----------------------------------------------------------------------------------------------------------

theorem State.Changes.keeps_filing (hf : f) (hc : State.Changes m f s t) (h : s.filing.Lawful) : t.filing.Lawful :=
  hc.keeps (P := fun s => s.filing.Lawful) (fun _ _ c => c.keeps_filing hf) h

theorem State.Changes.keeps_runs (hf : f) (hc : State.Changes m f s t) (h : s.filingRunLaw) : t.filingRunLaw :=
  hc.keeps (P := fun s => s.filingRunLaw) (fun _ _ c => c.keeps_runs hf) h

theorem State.Changes.keeps_locations (hf : f) (hc : State.Changes m f s t) (h : s.locationLaw) : t.locationLaw :=
  hc.keeps (P := fun s => s.locationLaw) (fun _ _ c h => h.frees (c.held hf) (c.frees hf)) h

theorem State.Changes.keeps_free (hf : f) (hc : State.Changes m f s t) (h : s.extentsFree) : t.extentsFree :=
  hc.keeps (P := State.extentsFree) (fun _ _ c => c.keeps_free hf) h

theorem State.Changes.keeps_arrivals (hf : f) (hc : State.Changes m f s t) (hs : s.filing.Lawful) (h : s.arrivalsOpen) :
    t.arrivalsOpen :=
  (hc.keeps (P := fun s => s.filing.Lawful ∧ s.arrivalsOpen)
    (fun _ _ c h => ⟨c.keeps_filing hf h.1, c.keeps_arrivals hf h.1 h.2⟩) ⟨hs, h⟩).2

theorem State.Changes.keeps_held (hf : f) (hc : State.Changes m f s t) (h : s.HeldLaw) : t.HeldLaw :=
  ⟨hc.keeps_filing hf h.filing, hc.keeps_runs hf h.runs, hc.keeps_locations hf h.locations, hc.keeps_free hf h.free,
    hc.keeps_arrivals hf h.filing h.arrivals⟩

/-- The lodgement in hand is in step RUN, and only drives that satisfy `q` have a run that files. -/
def State.attempting (s : State) (n : Nat) (q : DriveNo → Prop) : Prop :=
  s.filing.hand = some (n, .run) ∧ ∀ d : DriveNo, ∀ u ∈ (s.drives[d]).run, u.files = true → q d

/-- While the lodgement in hand is in step RUN no other run comes to file. -/
theorem State.Change.keeps_attempting (hf : f) (hc : State.Change m f s t) {n : Nat} {q : DriveNo → Prop}
    (reads : ∀ d : DriveNo, (s.drives[d]).readLaw) (h : s.attempting n q) : t.attempting n q := by
  obtain ⟨hand, runs⟩ := id h
  cases hc with
  | outer plant => exact ⟨(congrArg (fun p => p.filing.hand) plant).trans hand, (show t.drives = s.drives from congrArg Plant.drives plant) ▸ runs⟩
  | drive d g hg =>
    refine ⟨hand, fun x u hu files => ?_⟩
    rw [State.modDrive_get] at hu
    split at hu
    · next hx =>
      subst hx
      obtain ⟨v, hv, fv, -⟩ := (hg.run hf (reads x)).2 u hu files
      exact runs x v hv fv
    · exact runs x u hu files
  | write hw =>
    rw [(State.readyWrite_iff.mp hw).1] at hand
    cases hand
  | @begin k p _ _ _ target =>
    refine ⟨by rw [(beginTask_frame k p s).2.1]; exact hand, fun d u hu files => ?_⟩
    rcases beginTask_get (State.taskTarget_eq_some.mp target).1 d with same | ⟨-, loading⟩
    · exact runs d u (same ▸ hu) files
    · rw [loading] at hu
      exact runs d u hu files
  | enter c a b _ new =>
    refine ⟨by rw [enterCart_new new]; exact hand, fun d u hu files => runs d u ?_ files⟩
    rwa [enterCart_drives] at hu
  | take none => rw [none] at hand; cases hand
  | allot _ _ side => rw [side] at hand; cases hand
  | mount drive => rw [drive] at hand; cases hand
  | drop k step => rw [k, Option.some.injEq, Prod.mk.injEq] at hand; exact absurd hand.2 step
  | filing _ unminded => exact absurd hf unminded
  | _ => exact h

theorem State.Changes.keeps_attempting (hf : f) (hc : State.Changes m f s t) {n : Nat} {q : DriveNo → Prop} (hs : s.filingRunLaw)
    (h : s.attempting n q) : t.attempting n q :=
  (hc.keeps (P := fun s => s.filingRunLaw ∧ s.attempting n q)
    (fun _ _ c h => ⟨c.keeps_runs hf h.1, c.keeps_attempting hf h.1.2.2 h.2⟩) ⟨hs, h⟩).2

end Sys2Proof.Machine
end
-- ==== Proofs: the filing unit's own operations ====
section
/-!
SUPPORT for O36: the operations of the filing unit that go beyond the changes, each keeping the law of the unit.
-/
namespace Sys2Proof.Machine

variable {m f : Prop} {s t : State}

-- Side records that advance ---------------------------------------------------------------------------------------

/-- Held locations stay below next-free blocks that do not fall. -/
theorem State.locationLaw.grow (h : s.locationLaw) (held : t.dir.held = s.dir.held)
    (grow : ∀ sd r, s.side? sd = some r → ∃ q, t.side? sd = some q ∧ r.nextFree ≤ q.nextFree) : t.locationLaw := by
  refine ⟨fun e he => ?_, held ▸ h.2⟩
  obtain ⟨r, hr, below⟩ := h.1 e (held ▸ he)
  obtain ⟨q, hq, le⟩ := grow e.sideId r hr
  exact ⟨q, hq, below.trans le⟩

/-- The next-free block of a side passes an extent that begins there (R142, R144). -/
theorem modSide_grow {e : Location} {k : SideRecord → SideRecord} (free : ∃ r ∈ s.side? e.sideId, r.nextFree = e.start)
    (next : ∀ r, (k r).nextFree = e.start + e.blocks) :
    ∀ sd r, s.side? sd = some r → ∃ q, (s.modSide e.sideId k).side? sd = some q ∧ r.nextFree ≤ q.nextFree := by
  intro sd r hr
  rw [State.side?_modSide, hr]
  refine ⟨_, rfl, ?_⟩
  split
  · next hsd =>
    obtain ⟨q, hq, start⟩ := free
    rw [hsd, Option.mem_def.mp hq] at hr
    rw [next, ← Option.some.inj hr, start]
    exact Nat.le_add_right _ _
  · exact Nat.le_refl _

-- The empty table -------------------------------------------------------------------------------------------------

theorem Filing.Lawful.of_empty {g : Filing} (table : g.table = []) (hand : g.hand = none) : g.Lawful := by
  refine ⟨by rw [table]; exact List.Pairwise.nil, fun l hl => ?_, fun x hx => ?_, fun l hl => ?_⟩
  · rw [table] at hl
    cases hl
  · rw [hand] at hx
    cases hx
  · rw [table] at hl
    cases hl

theorem State.extentsFree.of_empty (table : s.filing.table = []) : s.extentsFree := fun l hl => by
  rw [table] at hl
  cases hl

theorem State.arrivalsOpen.of_empty (table : s.filing.table = []) : s.arrivalsOpen := fun _ _ l hl => by
  rw [table] at hl
  cases hl

/-- With no lodgement the law asks only for the runs and the held locations. -/
theorem State.HeldLaw.of_empty (table : s.filing.table = []) (hand : s.filing.hand = none) (runs : s.filingRunLaw)
    (locations : s.locationLaw) : s.HeldLaw :=
  ⟨.of_empty table hand, runs, locations, .of_empty table, .of_empty table⟩

-- Leaving the table -----------------------------------------------------------------------------------------------

/-- A lodgement without a run in flight leaves the table, and the hand if it was in hand (R130, R135). -/
theorem leave_held {n : Nat} (filing : s.filing.Lawful) (runs : s.filingRunLaw) (locations : s.locationLaw) (arrivals : s.arrivalsOpen)
    (free : ∀ l ∈ s.filing.table, l.number ≠ n → ∀ e ∈ l.extent, ∃ r ∈ s.side? e.sideId, r.nextFree = e.start)
    (quiet : ∀ d : DriveNo, ∀ u ∈ (s.drives[d]).run, u.files = true → u.owner ≠ n) {hd : Option (Nat × EngineStep)}
    (hand : hd = if s.inHand = some n then none else s.filing.hand) :
    (s.modFiling fun g => { g with table := g.table.filter fun l => l.number ≠ n, hand := hd }).HeldLaw := by
  have other : ∀ x ∈ s.filing.hand, x.1 ≠ n → x ∈ hd := fun x hx hn => by
    rw [hand, if_neg ?_]
    · exact hx
    · rw [State.inHand, Option.mem_def.mp hx]
      exact fun e => hn (Option.some.inj e)
  have stay : ∀ x ∈ hd, x ∈ s.filing.hand ∧ x.1 ≠ n := fun x hx => by
    rw [hand] at hx
    split at hx
    · cases hx
    · next hno => exact ⟨hx, fun e => hno (by rw [State.inHand, Option.mem_def.mp hx, Option.map_some, e])⟩
  have mem : ∀ {l}, l ∈ s.filing.table.filter (fun l => decide (l.number ≠ n)) ↔ l ∈ s.filing.table ∧ l.number ≠ n := by simp
  refine ⟨⟨?_, fun l hl e he => ?_, fun x hx => ?_, fun l hl => filing.idle l (mem.mp hl).1⟩, ?_, locations, fun l hl =>
    free l (mem.mp hl).1 (mem.mp hl).2, fun k hk l hl => arrivals k hk l (mem.mp hl).1⟩
  · exact List.Pairwise.sublist (List.filter_sublist.map _) filing.distinct
  · obtain ⟨x, hx, number, step⟩ := filing.extents l (mem.mp hl).1 e he
    exact ⟨x, other x hx (number ▸ (mem.mp hl).2), number, step⟩
  · obtain ⟨old, hn⟩ := stay x hx
    obtain ⟨l, hl, number, state⟩ := filing.hand x old
    exact ⟨l, mem.mpr ⟨hl, number ▸ hn⟩, number, state⟩
  · exact ⟨fun d u hu files => other _ (runs.1 d u hu files) (quiet d u hu files), runs.2.1, runs.2.2⟩

theorem endLodgement_held (h : s.HeldLaw) (l : Lodgement)
    (quiet : ∀ d : DriveNo, ∀ u ∈ (s.drives[d]).run, u.files = true → u.owner ≠ l.number) : (endLodgement l s).HeldLaw := by
  have returned : State.Changes False True s (releaseLodgement l.number (dropReserved l.kind s)) := by
    refine (releaseIn_changes filingRing _).after ?_
    unfold dropReserved
    split
    · exact .pool _ rfl
    · exact .refl s
  have same : (releaseLodgement l.number (dropReserved l.kind s)).drives = s.drives := by
    unfold dropReserved
    split <;> rfl
  have held := returned.keeps_held trivial h
  have left := fun hd => leave_held (n := l.number) (hd := hd) held.filing held.runs held.locations held.arrivals
    (fun k hk _ => held.free k hk) (by rw [same]; exact quiet)
  unfold endLodgement letGo
  split
  · next inHand => exact (removeWrite_changes (m := False) l.number).keeps_held trivial (left none (if_pos inHand).symm)
  · next inHand => exact left _ (if_neg inHand).symm

/-- A lodgement that is not in hand in step RUN has no run in flight (R140). -/
theorem State.filingRunLaw.quiet (h : s.filingRunLaw) {n : Nat} (hand : s.filing.hand ≠ some (n, .run)) :
    ∀ d : DriveNo, ∀ u ∈ (s.drives[d]).run, u.files = true → u.owner ≠ n := fun d u hu files e =>
  hand (e ▸ h.1 d u hu files)

-- Each drive in turn ----------------------------------------------------------------------------------------------

/-- What each drive's turn establishes for its drive and leaves for the others stands for every drive after the round. -/
theorem forDrives_each {P : DriveNo → State → Prop} {g : DriveNo → State → State} (own : ∀ d t, P d (g d t))
    (kept : ∀ d x t, P x t → P x (g d t)) (x : DriveNo) : P x (s.forDrives g) := by
  have turn : ∀ (ds : List DriveNo) (t : State), (x ∈ ds ∨ P x t) → P x (ds.foldl (fun t d => g d t) t) := by
    intro ds
    induction ds with
    | nil => exact fun t h => h.resolve_left List.not_mem_nil
    | cons d rest ih =>
      intro t h
      refine ih (g d t) ?_
      rcases h with hx | hx
      · rcases List.mem_cons.mp hx with rfl | hx
        · exact .inr (own x t)
        · exact .inl hx
      · exact .inr (kept d x t hx)
  exact turn allDrives s (.inl ((by decide : ∀ x : DriveNo, x ∈ allDrives) x))

-- ABANDON, the idle timer and QUEUE_RESET -------------------------------------------------------------------------

theorem stopRuns_quiet (n : Nat) : ∀ d : DriveNo, ∀ u ∈ ((stopRuns n s).drives[d]).run, u.files = true → u.owner ≠ n := by
  have stopped : ∀ u : Run, Run.files (if (u.kind = .write ∨ u.kind = .verify) ∧ u.owner = n then { u with mark := .stopped } else u) = true →
      (if (u.kind = .write ∨ u.kind = .verify) ∧ u.owner = n then { u with mark := .stopped } else u).owner ≠ n := by
    intro u files
    split at files
    · simp [Run.files] at files
    · next hno =>
      rw [if_neg hno]
      intro owner
      refine hno ⟨?_, owner⟩
      cases hk : u.kind <;> simp [Run.files, hk, RunKind.isRead] at files ⊢
  refine forDrives_each (P := fun x t => ∀ u ∈ (t.drives[x]).run, u.files = true → u.owner ≠ n) (fun d t u hu => ?_) fun d x t ht u hu => ?_
  · rw [State.modDrive_get, if_pos rfl] at hu
    obtain ⟨v, -, rfl⟩ := Option.mem_map.mp hu
    exact stopped v
  · rw [State.modDrive_get] at hu
    split at hu
    · obtain ⟨v, -, rfl⟩ := Option.mem_map.mp hu
      exact stopped v
    · exact ht u hu

theorem abandonLodgement_held (h : s.HeldLaw) (l : Lodgement) : (abandonLodgement l s).HeldLaw := by
  have ended : (endLodgement l (stopRuns l.number s)).HeldLaw :=
    endLodgement_held ((stopRuns_changes (m := False) l.number).keeps_held trivial h) l (stopRuns_quiet l.number)
  have met : ∀ t : State, State.Changes False True t (runAllocator (engineTake (meetDrives t))) := fun t =>
    State.Changes.trans (forDrives_changes fun d _ => .ite (fun _ => lingerJudge_changes d) fun _ => .refl _)
      (engineTake_changes.trans runAllocator_changes)
  unfold abandonLodgement
  dsimp only
  split
  · exact ((judgePins_changes.trans (withdrawLoad_changes _)).trans (met _)).keeps_held trivial ended
  · exact (judgePins_changes.trans (met _)).keeps_held trivial ended

theorem idleExpires_held (h : s.HeldLaw) (n : Nat) : (idleExpires n s).HeldLaw := by
  unfold idleExpires
  split
  · next l hl =>
    obtain ⟨number, mem⟩ := State.lodgement?_spec hl
    split
    · next t ht =>
      have receiving : l.state = .receiving := by
        by_contra state
        rw [h.filing.idle l mem state] at ht
        cases ht
      have reached : (s.reach t).HeldLaw := (reach_changes (m := False) t).keeps_held trivial h
      have ended := endLodgement_held reached l (reached.runs.quiet fun hand => h.filing.inHand hand mem rfl receiving)
      exact (arbitrate_changes.after (queueNotice_changes (m := False) _)).keeps_held trivial ended
    · exact h
  · exact h

theorem askRelease_run (d x : DriveNo) : ((askRelease d s).drives[x]).run = (s.drives[x]).run := by
  have turned : ∀ g : Drive → Drive, (∀ r, (g r).run = r.run) → ((s.modDrive d g).drives[x]).run = (s.drives[x]).run := fun g hg => by
    rw [State.modDrive_get]
    split
    · exact hg _
    · rfl
  unfold askRelease
  dsimp only
  split
  · rfl
  · split
    · exact turned _ fun _ => rfl
    · exact turned _ fun _ => rfl

theorem lingerJudge_run (d x : DriveNo) : ((lingerJudge d s).drives[x]).run = (s.drives[x]).run := by
  rw [lingerJudge, State.modDrive_get]
  split <;> rfl

/-- A queue reset marks every run in flight (R85). -/
theorem resetQueues_marks (x : DriveNo) : ∀ u ∈ ((s.forDrives resetQueues).drives[x]).run, u.mark ≠ .live := by
  have run : ∀ (d y : DriveNo) (t : State), ((resetQueues d t).drives[y]).run =
      if y = d then (t.drives[y]).run.map Run.resetMark else (t.drives[y]).run := fun d y t => by
    have reset : ((t.modDrive d (Drive.queueReset t.now (t.loadQueued d))).drives[y]).run =
        if y = d then (t.drives[y]).run.map Run.resetMark else (t.drives[y]).run := by
      rw [State.modDrive_get]
      split <;> rfl
    unfold resetQueues
    dsimp only
    rw [lingerJudge_run]
    split
    · rw [askRelease_run, reset]
    · exact reset
  have marked : ∀ (r : Option Run), ∀ u ∈ r.map Run.resetMark, u.mark ≠ .live := fun r u hu => by
    obtain ⟨v, -, rfl⟩ := Option.mem_map.mp hu
    exact v.resetMark_mark
  refine forDrives_each (P := fun x t => ∀ u ∈ (t.drives[x]).run, u.mark ≠ .live) (fun d t u hu => ?_) (fun d x t ht u hu => ?_) x
  · rw [run, if_pos rfl] at hu
    exact marked _ u hu
  · rw [run] at hu
    split at hu
    · exact marked _ u hu
    · exact ht u hu

theorem resetBlocks_held (h : s.HeldLaw) : (resetBlocks s).HeldLaw := by
  have released : (releaseRings s).HeldLaw := (foldl_changes (m := False) (fun t r => releaseIn_changes r _) _).keeps_held trivial h
  have empty : (emptyQueues (releaseRings s)).filing.Lawful := .of_empty rfl rfl
  have turned : State.Changes False True (emptyQueues (releaseRings s)) ((emptyQueues (releaseRings s)).forDrives resetQueues) :=
    forDrives_changes fun d _ => resetQueues_changes d
  have marks := resetQueues_marks (s := emptyQueues (releaseRings s))
  have runs : ((emptyQueues (releaseRings s)).forDrives resetQueues).filingRunLaw :=
    State.noFilingRun.lawful (fun d u hu => by simp [Run.files, marks d u hu]) fun d u hu live => absurd live (marks d u hu)
  exact withdrawLoads_changes (m := False) (f := True) |>.keeps_held trivial
    ⟨turned.keeps_filing trivial empty, runs, turned.keeps_locations trivial (s := emptyQueues (releaseRings s)) released.locations,
      turned.keeps_free trivial (.of_empty rfl), turned.keeps_arrivals trivial empty (.of_empty rfl)⟩

-- LODGE -----------------------------------------------------------------------------------------------------------

/-- A RECEIVING lodgement with a fresh number joins the table (R128, R129). -/
theorem enterLodgement_held (h : s.HeldLaw) {l : Lodgement} (fresh : ∀ k ∈ s.filing.table, k.number ≠ l.number) (extent : l.extent = none)
    (receiving : l.state = .receiving) : (enterLodgement l s).HeldLaw := by
  have joined : (s.modFiling fun g => { g with table := g.table ++ [l], last := l.number }).HeldLaw := by
    have mem : ∀ {k}, k ∈ s.filing.table ++ [l] → k ∈ s.filing.table ∨ k = l := fun hk =>
      (List.mem_append.mp hk).imp_right List.mem_singleton.mp
    refine ⟨⟨?_, fun k hk e he => ?_, fun x hx => ?_, fun k hk state => ?_⟩, h.runs, h.locations, fun k hk e he => ?_, fun n hn k hk number => ?_⟩
    · rw [State.modFiling_filing, List.map_append, List.pairwise_append]
      refine ⟨h.filing.distinct, List.pairwise_singleton .., fun a ha b hb => ?_⟩
      obtain ⟨k, hk, rfl⟩ := List.mem_map.mp ha
      rw [List.map_singleton, List.mem_singleton] at hb
      exact hb ▸ fresh k hk
    · rcases mem hk with hk | rfl
      · exact h.filing.extents k hk e he
      · rw [extent] at he
        cases he
    · obtain ⟨k, hk, number⟩ := h.filing.hand x hx
      exact ⟨k, List.mem_append_left _ hk, number⟩
    · rcases mem hk with hk | rfl
      · exact h.filing.idle k hk state
      · exact absurd receiving state
    · rcases mem hk with hk | rfl
      · exact h.free k hk e he
      · rw [extent] at he
        cases he
    · rcases mem hk with hk | rfl
      · exact h.arrivals n hn k hk number
      · exact receiving
  unfold enterLodgement reserve
  split
  · exact (State.Changes.pool (m := False) (f := True) (fun d => { d with reserved := d.reserved + 1 }) rfl).keeps_held trivial joined
  · exact joined

theorem takeLodge_held (h : s.HeldLaw) (base : s.baseLaw) (tag : Byte) (t : Word24) (k n e : Byte) : (takeLodge tag t k n e s).HeldLaw := by
  have refused : ∀ c, (refuse tag c s).HeldLaw := fun c => (refuse_changes (m := False) tag c).keeps_held trivial h
  unfold takeLodge screened
  dsimp only
  repeat' split
  iterate 5 exact refused _
  next hnone =>
    have room := (State.lodgeRefusal_none hnone).2.2.2.2.2
    have fresh := forall_claims.mp (State.nextLodgement_fresh base.1 base.2.1 room)
    exact (answer_changes (m := False) ..).keeps_held trivial (enterLodgement_held h fresh rfl rfl)

-- The body of a PAGE_IN -------------------------------------------------------------------------------------------

theorem stageLodgement_held (h : s.HeldLaw) (tag : Byte) (a : Answer) (n : Nat) : (answer tag a (stageLodgement n s)).HeldLaw := by
  have staged : State.Changes False True
      ((s.modLodgement n fun m => { m with state := .staged, staging := some s.now, stagedNo := s.filing.stagedCount, idle := none }).modFiling
        fun g => { g with stagedCount := g.stagedCount + 1 }) (answer tag a (stageLodgement n s)) :=
    ((answer_changes tag a).after engineTake_changes).after judgePins_changes
  have filing : ((s.modLodgement n fun m => { m with state := .staged, staging := some s.now, stagedNo := s.filing.stagedCount, idle := none }).modFiling
        fun g => { g with stagedCount := g.stagedCount + 1 }).filing.Lawful := by
    refine h.filing.change n (fun m => { m with state := .staged, staging := some s.now, stagedNo := s.filing.stagedCount, idle := none })
      s.filing.hand (fun _ => rfl) (fun l hl e he => h.filing.extents l hl e ?_) (fun x hx => ?_) (fun _ _ _ _ => rfl) _ _ _
    · split at he <;> exact he
    · obtain ⟨l, hl, number, state⟩ := h.filing.hand x hx
      refine ⟨l, hl, number, ?_⟩
      split
      · nofun
      · exact state
  refine ⟨staged.keeps_filing trivial filing, staged.keeps_runs trivial (h.runs.same rfl rfl),
    staged.keeps_locations trivial (h.locations.grow rfl fun _ r hr => ⟨r, hr, Nat.le_refl _⟩), staged.keeps_free trivial fun l hl e he => ?_, nofun⟩
  obtain ⟨k, hk, rfl⟩ := List.mem_map.mp hl
  exact h.free k hk e (by split at he <;> exact he)

theorem readBody_held (h : s.HeldLaw) {tag : Byte} {fate : BodyFate} {left : Nat} (decoder : s.link.decoder = .body tag fate left)
    (bs : List Byte) : (readBody tag fate left bs s).HeldLaw := by
  cases fate with
  | refused a =>
    exact (State.Changes.ite (fun _ => answer_changes tag a) fun _ => enterBody_changes (m := False) fun _ _ _ e => by cases e).keeps_held
      trivial h
  | admitted n length =>
    have stored := (storeArrival_changes (m := False) (f := True) (s := s) n length left bs).keeps_held trivial h
    have arriving : (storeArrival n length left bs s).link.arriving = some n := by
      have link : (storeArrival n length left bs s).link = s.link := by
        unfold storeArrival
        split <;> rfl
      rw [link, Link.arriving, decoder]
    unfold readBody
    dsimp only
    generalize storeArrival n length left bs s = t at stored arriving
    have receiving : ∀ l, t.lodgement? n = some l → l.state = .receiving := fun l hl =>
      stored.arrivals n arriving l (State.lodgement?_spec hl).2 (State.lodgement?_spec hl).1
    split
    · unfold endBody pageArrived
      dsimp only
      split
      · exact (refuse_changes (m := False) ..).keeps_held trivial stored
      · next l hl =>
        have number := (State.lodgement?_spec hl).1
        have counted := (countPage_changes (m := False) l length fun _ => by rw [number]; exact receiving).keeps_held trivial stored
        split
        · exact stageLodgement_held counted _ _ _
        · refine ((answer_changes (m := False) ..).after (startIdle_changes fun _ => ?_)).keeps_held trivial counted
          unfold countPage
          rw [number]
          exact receiving_of_modLodgement (fun _ => rfl) (fun _ => rfl) receiving
    · refine (enterBody_changes (m := False) fun _ i _ e => ?_).keeps_held trivial stored
      cases e
      exact receiving

end Sys2Proof.Machine
end
-- ==== Proofs: held locations ====
section
/-!
The law of held locations (O36): the endings of filing runs, the drive fault, FORMAT and the full reset keep the law of the filing unit,
and with the changes and the unit's other operations every step does.
-/
namespace Sys2Proof.Machine

variable {m f : Prop} {s t : State}

-- Filing runs -----------------------------------------------------------------------------------------------------

/-- A live run of a drive that is WRITING or VERIFYING files (Table 4-1). -/
theorem State.filingRunLaw.files (h : s.filingRunLaw) {d : DriveNo} {u : Run} (hu : (s.drives[d]).run = some u) (live : u.mark = .live)
    (state : (s.drives[d]).state = .writing ∨ (s.drives[d]).state = .verifying) : u.files = true := by
  cases hread : u.kind.isRead with
  | false => simp [Run.files, live, hread]
  | true =>
    obtain ⟨nw, nv⟩ := h.2.2 d u hu live hread
    exact (state.elim nw nv).elim

/-- The lodgement whose run files is in hand, and no other drive's run files (R134, R140). -/
theorem State.filingRunLaw.attempting (h : s.filingRunLaw) {d : DriveNo} {u : Run} (hu : (s.drives[d]).run = some u)
    (files : u.files = true) : s.attempting u.owner (· = d) := by
  refine ⟨h.1 d u hu files, fun x v hv fv => ?_⟩
  by_contra hx
  simp [h.2.1 x d hx v hv fv u hu] at files

theorem writeCompletion_held (h : s.HeldLaw) (d : DriveNo) : (writeCompletion d s).HeldLaw := by
  unfold writeCompletion
  split
  · next u hu =>
    obtain ⟨state, run⟩ := State.runIn_eq_some.mp hu
    split
    · next live =>
      have files := h.runs.files run live (.inl state)
      have hand := h.runs.1 d u run files
      have past : ∀ l ∈ s.filing.table, l.number = u.owner → l.state ≠ .receiving := fun l hl number => h.filing.inHand hand hl number
      have verifying : (s.modLodgement u.owner fun l => { l with state := .verifying }).HeldLaw := by
        refine ⟨h.filing.change u.owner (fun l => { l with state := .verifying }) s.filing.hand (fun _ => rfl)
          (fun l hl e he => h.filing.extents l hl e (by split at he <;> exact he)) (fun x hx => ?_)
          (fun l hl number _ => h.filing.idle l hl (past l hl number)) _ _ _, h.runs.same rfl rfl, h.locations, fun l hl e he => ?_,
          h.arrivals.record u.owner (fun l => { l with state := .verifying }) (fun _ => rfl) fun l hl number receiving => absurd receiving (past l hl number)⟩
        · obtain ⟨l, hl, number, state⟩ := h.filing.hand x hx
          refine ⟨l, hl, number, ?_⟩
          split
          · nofun
          · exact state
        · obtain ⟨k, hk, rfl⟩ := List.mem_map.mp hl
          exact h.free k hk e (by split at he <;> exact he)
      have runs := verifying.runs.drive d (fun r => { r with state := .verifying, run := some { u with kind := .verify } })
        (fun v hv _ read => by cases hv; cases read) fun v hv fv => by
          cases hv
          exact ⟨u, run, files, rfl⟩
      exact ⟨verifying.filing, runs, verifying.locations, verifying.free, verifying.arrivals⟩
    · exact (discardEnding_changes (m := False) False.elim).keeps_held trivial h
  · exact h

-- Failed attempts -------------------------------------------------------------------------------------------------

/-- The law of the filing unit while an attempt of the lodgement in hand ends, but for the next-free block of its extent; a run of the
attempt is in flight on the drives of `q` alone. -/
structure State.EndingLaw (s : State) (n : Nat) (q : DriveNo → Prop) : Prop where
  filing     : s.filing.Lawful
  runs       : s.filingRunLaw
  locations  : s.locationLaw
  arrivals   : s.arrivalsOpen
  attempting : s.attempting n q

theorem State.Changes.keeps_ending (hf : f) (hc : State.Changes m f s t) {n : Nat} {q : DriveNo → Prop} (h : s.EndingLaw n q) :
    t.EndingLaw n q :=
  ⟨hc.keeps_filing hf h.filing, hc.keeps_runs hf h.runs, hc.keeps_locations hf h.locations, hc.keeps_arrivals hf h.filing h.arrivals,
    hc.keeps_attempting hf h.runs h.attempting⟩

/-- The drive of an attempt loses its run. -/
theorem State.EndingLaw.drive {n : Nat} {d : DriveNo} (h : s.EndingLaw n (· = d)) (g : Drive → Drive)
    (hg : (g s.drives[d]).run = none) : (s.modDrive d g).EndingLaw n fun _ => False := by
  refine ⟨h.filing, h.runs.drive d g (fun _ hu => by rw [hg] at hu; cases hu) (fun _ hu => by rw [hg] at hu; cases hu), h.locations,
    h.arrivals, h.attempting.1, fun x v hv fv => ?_⟩
  rw [State.modDrive_get] at hv
  split at hv
  · next hx =>
    subst hx
    rw [hg] at hv
    cases hv
  · next hx => exact hx (h.attempting.2 x v hv fv)

theorem dropExtent_held {n : Nat} (h : s.EndingLaw n fun _ => False) :
    (setStep n .side (s.modLodgement n fun l => { l with extent := none, state := .staged })).HeldLaw := by
  obtain ⟨hand, none⟩ := h.attempting
  have past : ∀ l ∈ s.filing.table, l.number = n → l.state ≠ .receiving := fun l hl number => h.filing.inHand hand hl number
  have filing : (setStep n .side (s.modLodgement n fun l => { l with extent := .none, state := .staged })).filing.Lawful := by
    refine h.filing.change n (fun l => { l with extent := .none, state := .staged }) (some (n, .side)) (fun _ => rfl)
      (fun l hl e he => ?_) (fun x hx => ?_) (fun l hl number _ => h.filing.idle l hl (past l hl number)) _ _ _
    · split at he
      · cases he
      · next other =>
        obtain ⟨x, hx, number, -⟩ := h.filing.extents l hl e he
        rw [hand, Option.mem_some_iff] at hx
        exact absurd (by rw [← number, ← hx]) other
    · cases hx
      obtain ⟨l, hl, number, -⟩ := h.filing.hand _ hand
      exact ⟨l, hl, number, by rw [if_pos number]; nofun⟩
  refine ⟨filing, ?_, h.locations, fun l hl e he => ?_, ?_⟩
  · exact State.noFilingRun.lawful (fun d u hu => Bool.eq_false_iff.mpr fun files => none d u hu files) h.runs.2.2
  · rw [filing.bare (by rintro x ⟨⟩; rfl) l hl] at he
    cases he
  · exact h.arrivals.record n (fun l => { l with extent := .none, state := .staged }) (fun _ => rfl) fun l hl number receiving => absurd receiving (past l hl number)

/-- A failed attempt after its region is given up: the next one, or the end of the lodgement (R144, R146, R147). -/
theorem endAttempt_held {n : Nat} (h : s.EndingLaw n fun _ => False) (reason : LodgeFailReason) :
    (afterAttempt n reason (judgePins (dropExtent n s))).HeldLaw := by
  have dropped : State.Changes False True (setStep n .side (s.modLodgement n fun l => { l with extent := none, state := .staged }))
      (judgePins (dropExtent n s)) := judgePins_changes.after (removeWrite_changes n)
  have held := dropped.keeps_held trivial (dropExtent_held h)
  have hand : (judgePins (dropExtent n s)).filing.hand = some (n, .side) := by
    rw [judgePins_sameButDrives, dropExtent, removeWrite_sameButDrives]
    rfl
  generalize judgePins (dropExtent n s) = t at held hand
  unfold afterAttempt
  split
  · exact held
  · next l hl =>
    split
    · exact (engineAsk_changes (m := False)).keeps_held trivial held
    · have ended := endLodgement_held held l (held.runs.quiet (by rw [hand]; nofun))
      exact ((engineTake_changes.after judgePins_changes).after (queueNotice_changes (m := False) _)).keeps_held trivial ended

theorem failAttempt_held (h : s.HeldLaw) {d : DriveNo} {u : Run} (hu : (s.drives[d]).run = some u) (files : u.files = true)
    {l : Lodgement} {e : Location} (hl : l ∈ s.filing.table) (he : l.extent = some e) (owner : l.number = u.owner) :
    (failAttempt d l e s).HeldLaw := by
  have given : (giveUp e s).EndingLaw l.number (· = d) :=
    ⟨h.filing, h.runs.same rfl rfl, h.locations.grow rfl (modSide_grow (h.free l hl e he) fun _ => rfl), h.arrivals,
      owner ▸ h.runs.attempting hu files⟩
  have counted := (sideError_changes (m := False) e.sideId).keeps_ending trivial given
  exact (choose_changes (m := False) False.elim).keeps_held trivial (endAttempt_held (counted.drive _ rfl) .media)

-- The commit ------------------------------------------------------------------------------------------------------

/-- The locations a title record holds (R2). -/
def TitleRecord.locations (r : TitleRecord) : List Location := r.current.toList ++ r.priors.map fun p => p.loc

theorem TitleRecord.locations_commit (r : TitleRecord) (e : Location) (k : LodgeKind) (named : Option Nat) :
    List.Sublist ((r.install e).amend k named).locations (e :: r.locations) := by
  have amended : ((r.install e).amend k named).locations = (r.install e).locations := by
    unfold TitleRecord.amend
    split
    · rfl
    · split <;> rfl
  rw [amended]
  simp only [TitleRecord.locations, TitleRecord.install, TitleRecord.pushed, Option.toList_some, List.singleton_append]
  refine List.Sublist.cons_cons _ ?_
  cases r.current with
  | none => exact List.Sublist.refl _
  | some c => exact List.Sublist.cons_cons _ ((List.take_sublist _ _).map _)

/-- One title's record takes a location more; the locations of the table are those it had and that one, or fewer (R34). -/
theorem held_commit {n : Nat} {g : TitleRecord → TitleRecord} {e : Location} (hg : ∀ r, List.Sublist (g r).locations (e :: r.locations))
    (ts : List TitleRecord) (distinct : (ts.map fun r => r.number).Pairwise (· ≠ ·)) :
    List.Subperm ((ts.map fun r => if r.number = n then g r else r).flatMap TitleRecord.locations)
      (e :: ts.flatMap TitleRecord.locations) := by
  induction ts with
  | nil => exact List.nil_subperm
  | cons r rest ih =>
    obtain ⟨fresh, distinct⟩ := List.pairwise_cons.mp distinct
    rw [List.map_cons, List.flatMap_cons, List.flatMap_cons]
    by_cases hn : r.number = n
    · have others : rest.map (fun q => if q.number = n then g q else q) = rest := by
        refine (List.map_congr_left fun q hq => if_neg fun e => ?_).trans (List.map_id' rest)
        exact fresh q.number (List.mem_map_of_mem hq) (hn.trans e.symm)
      rw [if_pos hn, others]
      exact ((hg r).append (List.Sublist.refl _)).subperm
    · rw [if_neg hn]
      exact ((List.subperm_append_left _).mpr (ih distinct)).trans List.perm_middle.subperm

theorem Directory.held_commitPool (k : LodgeKind) (d : Directory) : (d.commitPool k).held = d.held := by
  unfold Directory.commitPool
  split
  · rfl
  · split <;> rfl

theorem Location.apart_symm {a b : Location} (h : a.apart b) : b.apart a :=
  h.elim (fun ne => .inl ne.symm) fun h => .inr h.symm

/-- The committed extent lies past every held location of its side, and below the new next-free block (R45, R142). -/
theorem commit_locations (h : s.locationLaw) (distinct : (s.dir.titles.map fun r => r.number).Pairwise (· ≠ ·)) (l : Lodgement)
    {e : Location} (free : ∃ r ∈ s.side? e.sideId, r.nextFree = e.start) :
    (commitTitle l e (s.modSide e.sideId fun r => { r with nextFree := e.start + e.blocks })).locationLaw := by
  have grow := modSide_grow (s := s) (k := fun r => { r with nextFree := e.start + e.blocks }) free fun _ => rfl
  have held : List.Subperm (commitTitle l e (s.modSide e.sideId fun r => { r with nextFree := e.start + e.blocks })).dir.held
      (e :: s.dir.held) := by
    rw [commitTitle, State.modDir_dir, Directory.held_commitPool]
    exact held_commit (fun r => r.locations_commit e l.kind l.named) s.dir.titles distinct
  obtain ⟨r, hr, start⟩ := free
  refine ⟨fun x hx => ?_, ?_⟩
  · rcases List.mem_cons.mp (held.subset hx) with rfl | old
    · have side := State.side?_modSide s x.sideId x.sideId fun r => { r with nextFree := x.start + x.blocks }
      rw [Option.mem_def.mp hr, Option.map_some, if_pos rfl] at side
      exact ⟨_, side, Nat.le_refl _⟩
    · obtain ⟨q, hq, below⟩ := h.1 x old
      obtain ⟨p, hp, le⟩ := grow x.sideId q hq
      exact ⟨p, hp, below.trans le⟩
  · obtain ⟨xs, perm, sub⟩ := held
    refine (perm.pairwise_iff Location.apart_symm).mp (List.Pairwise.sublist sub (List.pairwise_cons.mpr ⟨fun x hx => ?_, h.2⟩))
    obtain ⟨q, hq, below⟩ := h.1 x hx
    by_cases same : e.sideId = x.sideId
    · rw [← same, Option.mem_def.mp hr, Option.mem_some_iff] at hq
      rw [← hq, start] at below
      exact .inr (.inr below)
    · exact .inl same

theorem warnSpace_link (sd : SideId) : ∃ k : Link, warnSpace sd s = { s with link := k } ∧ k.arriving = s.link.arriving := by
  unfold warnSpace
  split
  · dsimp only
    split
    · exact ⟨_, rfl, queueNotice_arriving _ s⟩
    · exact ⟨_, rfl, rfl⟩
  · exact ⟨_, rfl, rfl⟩

theorem commit_held (h : s.HeldLaw) (distinct : (s.dir.titles.map fun r => r.number).Pairwise (· ≠ ·)) {d : DriveNo} {u : Run}
    (hu : (s.drives[d]).run = some u) (files : u.files = true) {l : Lodgement} {e : Location} (hl : l ∈ s.filing.table)
    (he : l.extent = some e) (owner : l.number = u.owner) : (commit d l e s).HeldLaw := by
  have filed : (commitTitle l e (warnSpace e.sideId (s.modSide e.sideId fun r => { r with nextFree := e.start + e.blocks }))).EndingLaw
      l.number (· = d) := by
    have locations := commit_locations h.locations distinct l (h.free l hl e he)
    obtain ⟨k, warned, arriving⟩ := warnSpace_link (s := s.modSide e.sideId fun r => { r with nextFree := e.start + e.blocks }) e.sideId
    rw [warned]
    exact ⟨h.filing, h.runs.same rfl rfl, locations.grow rfl fun _ r hr => ⟨r, hr, Nat.le_refl _⟩,
      h.arrivals.change arriving fun l hl => ⟨l, hl, rfl, id⟩, owner ▸ h.runs.attempting hu files⟩
  unfold commit
  dsimp only
  generalize Notice.lodgementFiled l.number l.title _ = notice
  generalize commitTitle l e (warnSpace e.sideId _) = b at filed
  have noticed : State.Changes False True b (queueNotice notice (releaseLodgement l.number b)) :=
    (queueNotice_changes notice).after (releaseIn_changes filingRing _)
  have ended := (noticed.keeps_ending trivial filed).drive (fun r => { r with run := none }) rfl
  have hand := ended.attempting.1
  have left := leave_held (n := l.number) (hd := none) ended.filing ended.runs ended.locations ended.arrivals (fun k hk other x hx => by
    obtain ⟨y, hy, number, -⟩ := ended.filing.extents k hk x hx
    rw [hand, Option.mem_some_iff] at hy
    exact absurd (by rw [← number, ← hy]) other) (fun d u hu files => (ended.attempting.2 d u hu files).elim)
    (by rw [if_pos]; rw [State.inHand, hand]; rfl)
  have inHand : (endRun d (queueNotice notice (leaveTable l.number b))).inHand = some l.number := by
    rw [State.inHand]
    exact congrArg (Option.map fun x => x.1) hand
  rw [letGo, if_pos inHand]
  exact (((choose_changes False.elim).after engineTake_changes).after (judgePins_changes.after (removeWrite_changes (m := False) _))).keeps_held
    trivial left

-- The endings -----------------------------------------------------------------------------------------------------

theorem writeError_held (h : s.HeldLaw) (d : DriveNo) : (writeError d s).HeldLaw := by
  unfold writeError
  split
  · next u hu =>
    have in_run := (State.filingRun_eq_some hu).imp State.runIn_eq_some.mp State.runIn_eq_some.mp
    have run : (s.drives[d]).run = some u := in_run.elim And.right And.right
    have state : (s.drives[d]).state = .writing ∨ (s.drives[d]).state = .verifying := in_run.imp And.left And.left
    split
    · next live =>
      unfold failRun
      split
      · next l e hrun =>
        obtain ⟨v, hv, hl, he⟩ := State.runLodgement_extent hrun
        obtain rfl := Option.some.inj (run.symm.trans hv)
        obtain ⟨owner, mem⟩ := State.lodgement?_spec hl
        exact (arbitrate_changes (m := False)).keeps_held trivial (failAttempt_held h run (h.runs.files run live state) mem he owner)
      · exact (discardEnding_changes (m := False) False.elim).keeps_held trivial h
    · exact (discardEnding_changes (m := False) False.elim).keeps_held trivial h
  · exact h

theorem verifyCompletion_held (h : s.HeldLaw) (base : s.baseLaw) (d : DriveNo) (readBack : ReadBack) : (verifyCompletion d readBack s).HeldLaw := by
  unfold verifyCompletion
  split
  · next u hu =>
    obtain ⟨state, run⟩ := State.runIn_eq_some.mp hu
    split
    · next live =>
      have files := h.runs.files run live (.inr state)
      have distinct : (s.dir.titles.map fun r => r.number).Pairwise (· ≠ ·) := base.2.2.2.1.imp Nat.ne_of_lt
      unfold verified
      split
      · next l e hrun =>
        obtain ⟨v, hv, hl, he⟩ := State.runLodgement_extent hrun
        obtain rfl := Option.some.inj (run.symm.trans hv)
        obtain ⟨owner, mem⟩ := State.lodgement?_spec hl
        refine (arbitrate_changes (m := False)).keeps_held trivial ?_
        split
        · exact commit_held h distinct run files mem he owner
        · exact failAttempt_held h run files mem he owner
      · exact (discardEnding_changes (m := False) False.elim).keeps_held trivial h
    · exact (discardEnding_changes (m := False) False.elim).keeps_held trivial h
  · exact h

theorem faultDrive_held (h : s.HeldLaw) (d : DriveNo) : (faultDrive d s).HeldLaw := by
  have faulted : State.Changes False True s (s.modDrive d Drive.faulted) := faulted_changes id d
  have tasks : State.Changes False True (s.modDrive d Drive.faulted)
      (endTasksOf d (dropReservation d (clearTrapped (s.heldCart d) (s.modDrive d Drive.faulted)))) := faultTasks_changes id d _
  have lost : (loseAttempt (s.drives[d]).run (endTasksOf d (dropReservation d (clearTrapped (s.heldCart d) (s.modDrive d Drive.faulted))))).HeldLaw := by
    unfold loseAttempt
    split
    · next u hu =>
      split
      · next live =>
        have files : u.files = true := by simp [Run.files, live]
        have ending : s.EndingLaw u.owner (· = d) := ⟨h.filing, h.runs, h.locations, h.arrivals, h.runs.attempting hu files⟩
        exact endAttempt_held (tasks.keeps_ending trivial (ending.drive Drive.faulted rfl)) .drive
      · exact (faulted.trans tasks).keeps_held trivial h
    · exact (faulted.trans tasks).keeps_held trivial h
  have rest : ∀ (r : Drive) (c : Option Nat) (n : Notice) (t : State), State.Changes False True t
      (arbitrate (pickerChoose (runAllocator (queueNotice n (activeLost (judgePins (failForFault r c t))))))) := fun r c n t =>
    ((arbitrate_changes.after pickerChoose_changes).after (runAllocator_changes.after (queueNotice_changes n))).after
      ((activeLost_changes.after judgePins_changes).after (failForFault_changes r c))
  unfold faultDrive
  split
  · exact h
  · exact (rest _ _ _ _).keeps_held trivial lost

-- FORMAT and the full reset ---------------------------------------------------------------------------------------

theorem Filing.Lawful.empty {g : Filing} (h : g.Lawful) (table : g.table = []) : g.hand = none := by
  cases hand : g.hand with
  | none => rfl
  | some x =>
    obtain ⟨l, hl, -⟩ := h.hand x hand
    rw [table] at hl
    cases hl

theorem writeInitial_held (h : s.HeldLaw) (table : s.filing.table = []) : (writeInitial s).HeldLaw :=
  .of_empty table (h.filing.empty table) (h.runs.same rfl rfl) ⟨nofun, List.Pairwise.nil⟩

theorem fullReset_held (h : s.HeldLaw) (cause : ResetCause) (kept : Bool) : (fullReset cause kept s).HeldLaw := by
  have idle : ∀ (w : Nat) (u : State) (d : DriveNo), ((clearVolatile w u).drives[d]) = Drive.initial := fun w u d => by
    simp [clearVolatile]
  have cleared : ∀ (w : Nat) (u : State), u.locationLaw → (clearVolatile w u).HeldLaw := fun w u hu =>
    .of_empty rfl rfl (State.noFilingRun.lawful (fun d v hv => by rw [idle] at hv; cases hv) fun d v hv => by rw [idle] at hv; cases hv) hu
  have ready : ∀ u : State, u.locationLaw → (resetReady u).HeldLaw := fun u hu =>
    (lineChoose_changes.after (refreshLine_changes (m := False))).keeps_held trivial
      (cleared _ _ (hu.grow rfl fun _ r hr => ⟨r, hr, Nat.le_refl _⟩))
  unfold fullReset
  dsimp only
  split
  · exact ready _ h.locations
  · exact cleared _ _ ⟨nofun, List.Pairwise.nil⟩

-- Every deed ------------------------------------------------------------------------------------------------------

theorem State.HeldLaw.arrivalOpen (h : s.HeldLaw) : s.arrivalOpen := fun n hn l hl =>
  h.arrivals n hn l (State.lodgement?_spec hl).2 (State.lodgement?_spec hl).1

/-- Every deed keeps the law of held locations. -/
theorem State.Deed.keeps_held (hd : State.Deed False True s t) (h : s.HeldLaw) : t.HeldLaw := by
  cases hd with
  | change hc => exact (State.Changes.single hc).keeps_held trivial h
  | formatNew base new =>
    have table : s.filing.table = [] := (base trivial).2.2.1 new
    have initial : ({ writeInitial s with mechReset := true } : State).HeldLaw :=
      .of_empty table (h.filing.empty table) (h.runs.same rfl rfl) ⟨nofun, List.Pairwise.nil⟩
    exact (formatLine_changes.after judgeDefaults_changes).keeps_held (m := False) trivial initial
  | formatQuiet ready quiet =>
    have table : s.filing.table = [] := by
      simp only [State.quiet, Bool.and_eq_true, decide_eq_true_eq] at quiet
      exact quiet.1.1.1.1.1.2
    exact ((formatLine_changes.after (releaseDrives_changes id)).after judgeDefaults_changes).keeps_held trivial (writeInitial_held h table)
  | fullReset cause kept => exact fullReset_held h cause kept
  | faultDrive d => exact faultDrive_held h d
  | lodge tag title kind pages entry base => exact takeLodge_held h base ..
  | abandon => exact abandonLodgement_held h _
  | queueReset => exact resetBlocks_held h
  | body bs _ decoder => exact readBody_held h decoder bs
  | byte b => exact (writeByte_changes (m := False) b fun _ => h.arrivalOpen).keeps_held trivial h
  | overflow => exact (detectOverflow_changes (m := False) fun _ => h.arrivalOpen).keeps_held trivial h
  | writeCompletion d => exact writeCompletion_held h d
  | writeError d => exact writeError_held h d
  | verifyCompletion d readBack base => exact verifyCompletion_held h base d readBack
  | idleExpires n => exact idleExpires_held h n
  | importCart _ _ minded | exportCart minded | mechanismReset _ minded | picked _ minded | placed _ minded | slotOccupied _ minded
  | mailPlaced minded | mailEmptied minded | spinDown _ minded | faultPicker minded => exact minded.elim

/-- Settles O36: every step is a chain of deeds, each of which keeps the law of held locations. -/
theorem stepKeepsHeldLocationsApart : Obligations.StepKeepsHeldLocationsApart := by
  intro s t rings layout directory filing locations h
  exact State.heldLaw_iff.mp ((step_deeds (fun _ => ⟨rings, layout, directory⟩) h).keeps (P := State.HeldLaw)
    (fun _ _ => State.Deed.keeps_held) (State.heldLaw_iff.mpr ⟨filing, locations⟩))

end Sys2Proof.Machine
end
-- ==== Proofs: what the mechanics leave ====
section
/-!
SUPPORT for the requests and events of the mechanics. What the picker's choice, the drive allocator and the pins leave as it was, and
how the picker stands after a chain of changes that minds the mechanics.
-/
namespace Sys2Proof.Machine

variable {f : Prop} {s t u : State}

-- What the picker, the allocator and the pins leave ---------------------------------------------------------------

/-- The states of a drive but for what the picker and the allocator make of one that is EMPTY or IDLE. -/
def DriveState.settled : DriveState → DriveState
  | .loading => .empty
  | .spindown => .idle
  | x => x

/-- What the picker, the allocator and the pins leave of a drive: all of one that is neither EMPTY nor IDLE but its timers and marks. -/
def Drive.settled (r : Drive) : Drive :=
  { r with
    state := r.state.settled
    reserved := if r.state.settled = .empty ∨ r.state.settled = .idle then none else r.reserved
    releasePending := false
    linger := none
    pin := false }

/-- A release takes an IDLE drive (R67). -/
theorem Drive.settled_spindown {r : Drive} (h : r.state = .idle) :
    Drive.settled { r with state := .spindown, linger := none } = r.settled := by
  simp [Drive.settled, DriveState.settled, h]

/-- A reservation is of a drive that is EMPTY or IDLE (R78). -/
theorem Drive.settled_reserved {r : Drive} (h : r.state = .empty ∨ r.state = .idle) (sd : SideId) :
    Drive.settled { r with reserved := some sd } = r.settled := by
  rcases h with h | h <;> simp [Drive.settled, DriveState.settled, h]

/-- A LOAD takes an EMPTY drive (R75). -/
theorem Drive.settled_loading {r : Drive} (h : r.state = .empty) : Drive.settled { r with state := .loading } = r.settled := by
  simp [Drive.settled, DriveState.settled, h]

/-- What the picker, the allocator and the pins leave as it was. -/
structure Surround where
  desk   : Desk
  link   : Link
  fetch  : Fetch
  filing : Filing
  rings  : Vector PageRing 7
  lib    : Library
  drives : DriveNo → Drive

/-- The surround of a state: the library but for home slots, and of the drives what the mechanics leave. -/
def State.surround (s : State) : Surround where
  desk := s.desk
  link := s.link
  fetch := s.fetch
  filing := s.filing
  rings := s.rings
  lib := { s.lib with carts := s.lib.carts.map fun r => { r with home := none } }
  drives := fun d => (s.drives[d]).settled

theorem State.modDrive_surround {d : DriveNo} {g : Drive → Drive} (h : (g s.drives[d]).settled = (s.drives[d]).settled) :
    (s.modDrive d g).surround = s.surround := by
  refine congrArg (fun v => { s.surround with drives := v }) (funext fun x => ?_)
  rw [State.modDrive_get]
  split
  · next hx =>
    subst hx
    exact h
  · rfl

theorem setHome_surround (c : Option Nat) (n : Nat) (s : State) : (setHome c n s).surround = s.surround := by
  cases c with
  | none => rfl
  | some c =>
    refine congrArg (fun l => { s.surround with lib := { s.surround.lib with carts := l } }) ?_
    rw [setHome, State.modCart_lib, List.map_map]
    refine List.map_congr_left fun r _ => ?_
    simp only [Function.comp_apply]
    split <;> rfl

theorem forDrives_surround {g : DriveNo → State → State} (h : ∀ d t, (g d t).surround = t.surround) (s : State) :
    (s.forDrives g).surround = s.surround :=
  forDrives_kept s (P := fun t => t.surround = s.surround) (fun d t ht => (h d t).trans ht) rfl

theorem lingerJudge_surround (d : DriveNo) (s : State) : (lingerJudge d s).surround = s.surround := State.modDrive_surround rfl

theorem askRelease_surround (d : DriveNo) (s : State) : (askRelease d s).surround = s.surround := by
  unfold askRelease
  dsimp only
  split
  · rfl
  · next h =>
    have idle : (s.drives[d]).state = .idle := not_not.mp fun k => h (.inr (.inl k))
    split
    · exact State.modDrive_surround rfl
    · exact State.modDrive_surround (Drive.settled_spindown idle)

theorem releaseUnrecorded_surround (d : DriveNo) (s : State) : (releaseUnrecorded d s).surround = s.surround := by
  unfold releaseUnrecorded
  split
  · exact askRelease_surround d s
  · rfl

theorem judgePin_surround (d : DriveNo) (s : State) : (judgePin d s).surround = s.surround := by
  unfold judgePin
  dsimp only
  split
  · exact State.modDrive_surround rfl
  · split
    · exact (lingerJudge_surround d _).trans (State.modDrive_surround rfl)
    · rfl

theorem judgePins_surround (s : State) : (judgePins s).surround = s.surround := forDrives_surround judgePin_surround s

/-- The allocator takes a drive that is EMPTY or IDLE (R78, R79). -/
theorem State.driveFor_state {sd : SideId} {d : DriveNo} (h : s.driveFor sd = some d) :
    (s.drives[d]).state = .empty ∨ (s.drives[d]).state = .idle := by
  have free : ∀ x : DriveNo, (s.drives[x]).idleFree = true → (s.drives[x]).state = .idle := fun x hx => by
    simp only [Drive.idleFree, Bool.and_eq_true, decide_eq_true_eq] at hx
    exact hx.1.1.1
  have best : ∀ (ds : List DriveNo) (b : Option DriveNo), (∀ x ∈ ds, (s.drives[x]).state = .idle) →
      (∀ x ∈ b, (s.drives[x]).state = .idle) →
      ∀ x ∈ ds.foldl (fun best d => some (s.earlier d best)) b, (s.drives[x]).state = .idle := fun ds => by
    induction ds with
    | nil => exact fun _ _ hb => hb
    | cons y ds ih =>
      intro b hds hb
      refine ih _ (fun x hx => hds x (List.mem_cons_of_mem _ hx)) fun x hx => ?_
      obtain rfl := Option.some.inj hx
      cases b with
      | none => exact hds y (List.mem_cons_self ..)
      | some z =>
        simp only [State.earlier]
        split
        · exact hds y (List.mem_cons_self ..)
        · exact hb z rfl
  unfold State.driveFor at h
  split at h
  · split at h
    · next hf =>
      obtain rfl := Option.some.inj h
      exact .inr (free _ hf)
    · cases h
  · unfold State.firstAvailable at h
    split at h
    · next hfind =>
      obtain rfl := Option.some.inj h
      have found := List.find?_some hfind
      simp only [Bool.and_eq_true, decide_eq_true_eq] at found
      exact .inl found.1
    · refine .inr (best _ none (fun x hx => free x ?_) (fun _ hx => nomatch hx) d h)
      have kept := (List.mem_filter.mp hx).2
      simp only [Bool.and_eq_true] at kept
      exact kept.1

theorem allocateSide_surround (s : State) (sd : SideId) : (allocateSide s sd).surround = s.surround := by
  unfold allocateSide
  split
  · split
    · next d hd =>
      have reserved : (s.modDrive d fun r => { r with reserved := some sd }).surround = s.surround :=
        State.modDrive_surround (Drive.settled_reserved (State.driveFor_state hd) sd)
      exact (askRelease_surround d _).trans reserved
    · rfl
  · rfl

theorem recordStart_surround (s : State) : (recordStart s).surround = s.surround := rfl

/-- A task begun for a LOAD takes an EMPTY drive (R75). -/
theorem beginTask_surround {k : Task} {p : PickPoint} (h : s.destination k = some p) : (beginTask k p s).surround = s.surround := by
  unfold beginTask
  dsimp only
  split
  · exact setHome_surround _ _ (setActive k _ s)
  · next d hkind hd =>
    obtain ⟨-, x, -, hx, -, empty, -⟩ := State.destination_load hkind h
    obtain rfl : d = x := Option.some.inj (hd.symm.trans hx)
    have drove : ∀ p, ((setActive k p s).modDrive d fun r => { r with state := .loading }).surround = s.surround := fun p =>
      State.modDrive_surround (s := setActive k p s) (Drive.settled_loading empty)
    exact (recordStart_surround _).trans (drove _)
  · rfl

theorem pickerChoose_surround (s : State) : (pickerChoose s).surround = s.surround := by
  unfold pickerChoose
  split
  · split
    · split
      · next hp => exact beginTask_surround (State.taskTarget_eq_some.mp hp).1
      · rfl
    · rfl
  · rfl

theorem runAllocator_surround (s : State) : (runAllocator s).surround = s.surround := by
  unfold runAllocator
  split
  · rfl
  · have allocated : (s.sidesInOrder.foldl allocateSide s).surround = s.surround :=
      foldl_kept (P := fun t => t.surround = s.surround) (fun t sd ht => (allocateSide_surround t sd).trans ht) _ s rfl
    dsimp only
    split
    · exact allocated
    · exact (pickerChoose_surround _).trans allocated

theorem afterTask_surround (s : State) : (afterTask s).surround = s.surround :=
  (pickerChoose_surround _).trans (runAllocator_surround s)

-- What the surround says ------------------------------------------------------------------------------------------

theorem State.desk_of_surround (h : t.surround = s.surround) : t.desk = s.desk := congrArg Surround.desk h
theorem State.link_of_surround (h : t.surround = s.surround) : t.link = s.link := congrArg Surround.link h
theorem State.fetch_of_surround (h : t.surround = s.surround) : t.fetch = s.fetch := congrArg Surround.fetch h
theorem State.filing_of_surround (h : t.surround = s.surround) : t.filing = s.filing := congrArg Surround.filing h
theorem State.rings_of_surround (h : t.surround = s.surround) : t.rings = s.rings := congrArg Surround.rings h

theorem State.active_of_surround (h : t.surround = s.surround) : t.lib.active = s.lib.active :=
  congrArg (fun x => x.lib.active) h

theorem State.leaving_of_surround (h : t.surround = s.surround) : t.lib.leaving = s.lib.leaving :=
  congrArg (fun x => x.lib.leaving) h

theorem State.mail_of_surround (h : t.surround = s.surround) : t.lib.mail = s.lib.mail :=
  congrArg (fun x => x.lib.mail) h

/-- A cartridge record but for its home slot. -/
theorem State.cart?_of_lib (h : t.surround.lib = s.surround.lib) (c : Nat) :
    (t.cart? c).map (fun r => { r with home := none }) = (s.cart? c).map fun r => { r with home := none } := by
  have read : ∀ u : State, (u.cart? c).map (fun r => { r with home := none }) =
      (u.surround.lib.carts.find? fun r => r.number = c) := fun u => by
    simp only [State.surround, State.cart?, List.find?_map]
    rfl
  rw [read, read, h]

theorem State.side?_of_lib (h : t.surround.lib = s.surround.lib) (sd : SideId) : t.side? sd = s.side? sd := by
  have read : ∀ u : State, u.side? sd = ((u.cart? sd.cart).map fun r => { r with home := none }).map fun r => r.sideRecord sd.side :=
    fun u => by
      rw [Option.map_map, State.side?]
      refine congrArg (fun g => (u.cart? sd.cart).map g) (funext fun r => ?_)
      cases sd.side <;> rfl
  rw [read, read, State.cart?_of_lib h]

theorem State.cart?_of_surround (h : t.surround = s.surround) (c : Nat) :
    (t.cart? c).map (fun r => { r with home := none }) = (s.cart? c).map fun r => { r with home := none } :=
  State.cart?_of_lib (congrArg Surround.lib h) c

theorem State.place_of_surround (h : t.surround = s.surround) (c : Nat) :
    (t.cart? c).map (fun r => r.place) = (s.cart? c).map fun r => r.place := by
  have same := congrArg (Option.map fun r : Cartridge => r.place) (State.cart?_of_surround h c)
  rw [Option.map_map, Option.map_map] at same
  exact same

end Sys2Proof.Machine
end
-- ==== Proofs: how the mechanics tend ====
section
/-!
SUPPORT for the requests and events of the mechanics. Where the picker, the cartridges and the drives stand after a chain of changes
that minds the mechanics: the picker, found IDLE, may have begun one task, and nothing else has moved.
-/
namespace Sys2Proof.Machine

variable {f : Prop} {s t u : State}

/-- The picker, found IDLE, has begun a task that makes its pick first, if it makes one (R73). -/
def State.hasBegun (s t : State) (b : Active) : Prop :=
  s.picker.state = .idle ∧ t.picker.state = .busy ∧ t.picker.active = some b ∧ b.picked = b.source.isNone ∧ b.waiting = false

/-- No UNLOAD of a cartridge is queued. -/
def State.staysHomed (s : State) (c : Nat) : Prop := ∀ k ∈ s.picker.queue, k.kind = .unload → k.cart ≠ some c

/-- How the picker, the cartridges and the drives go on. -/
structure State.Tends (s t : State) : Prop where
  picker : t.picker.state = s.picker.state ∧ t.picker.active = s.picker.active ∨
    ∃ b, s.hasBegun t b ∧ (b.task ∈ s.picker.queue ∨ b.task.kind = .load)
  queue  : ∀ k ∈ t.picker.queue, k ∈ s.picker.queue ∨ k.kind = .load
  tasks  : ∀ k ∈ s.picker.queue, k.kind ≠ .load → k ∈ t.picker.queue ∨ ∃ b, s.hasBegun t b ∧ b.task = k
  place  : ∀ c, (t.cart? c).map (fun r => r.place) = (s.cart? c).map fun r => r.place
  home   : ∀ c, s.staysHomed c → (t.cart? c).map (fun r => r.home) = (s.cart? c).map fun r => r.home
  berth  : ∀ d : DriveNo, (t.drives[d]).berth = (s.drives[d]).berth ∨
    (s.drives[d]).berth.phase = .empty ∧ (t.drives[d]).berth = { (s.drives[d]).berth with phase := .loading }
  mail   : t.lib.mail = s.lib.mail

theorem State.Tends.refl (s : State) : s.Tends s :=
  ⟨.inl ⟨rfl, rfl⟩, fun _ => .inl, fun _ hk _ => .inl hk, fun _ => rfl, fun _ _ => rfl, fun _ => .inl rfl, rfl⟩

/-- Once the picker is BUSY it begins no other task. -/
theorem State.hasBegun.trans {b : Active} (h : s.hasBegun t b)
    (k : u.picker.state = t.picker.state ∧ u.picker.active = t.picker.active ∨
      ∃ c, t.hasBegun u c ∧ (c.task ∈ t.picker.queue ∨ c.task.kind = .load)) : s.hasBegun u b := by
  obtain ⟨idle, busy, active, picked, waiting⟩ := h
  rcases k with ⟨state, act⟩ | ⟨c, ⟨tidle, -⟩, -⟩
  · exact ⟨idle, state.trans busy, act.trans active, picked, waiting⟩
  · simp [busy] at tidle

theorem State.Tends.trans (h : s.Tends t) (k : t.Tends u) : s.Tends u := by
  have homed : ∀ c, s.staysHomed c → t.staysHomed c := fun c hc q hq hk => by
    rcases h.queue q hq with hq | hl
    · exact hc q hq hk
    · simp [hk] at hl
  have begun : ∀ b, t.hasBegun u b → (t.picker.state = s.picker.state → s.hasBegun u b) := fun b ⟨tidle, rest⟩ hs =>
    ⟨hs ▸ tidle, rest⟩
  have idle : ∀ b, t.hasBegun u b → s.hasBegun u b := fun b hb => by
    rcases h.picker with ⟨state, -⟩ | ⟨x, ⟨-, busy, -⟩, -⟩
    · exact begun b hb state
    · have tidle := hb.1
      simp [busy] at tidle
  refine ⟨?_, fun q hq => ?_, fun q hq hk => ?_, fun c => (k.place c).trans (h.place c),
    fun c hc => (k.home c (homed c hc)).trans (h.home c hc), fun d => ?_, k.mail.trans h.mail⟩
  · rcases h.picker with ⟨state, active⟩ | ⟨b, hb, hq⟩
    · rcases k.picker with ⟨state', active'⟩ | ⟨b, hb, hq⟩
      · exact .inl ⟨state'.trans state, active'.trans active⟩
      · exact .inr ⟨b, begun b hb state, hq.elim (h.queue _) .inr⟩
    · exact .inr ⟨b, hb.trans k.picker, hq⟩
  · exact (k.queue q hq).elim (h.queue q) .inr
  · rcases h.tasks q hq hk with hq | ⟨b, hb, ht⟩
    · exact (k.tasks q hq hk).imp_right fun ⟨b, hb, ht⟩ => ⟨b, idle b hb, ht⟩
    · exact .inr ⟨b, hb.trans k.picker, ht⟩
  · rcases h.berth d with same | ⟨empty, loading⟩
    · rw [← same]
      exact k.berth d
    · rcases k.berth d with same | ⟨tempty, -⟩
      · exact .inr ⟨empty, same.trans loading⟩
      · rw [loading] at tempty
        cases tempty

/-- A change of neither the picker nor of what it works on. -/
theorem State.Tends.of_eq (carts : t.lib.carts.map Cartridge.stand = s.lib.carts.map Cartridge.stand) (mail : t.lib.mail = s.lib.mail)
    (berth : ∀ d : DriveNo, (t.drives[d]).berth = (s.drives[d]).berth) (picker : t.picker = s.picker) : s.Tends t := by
  have read : ∀ (u : State) (c : Nat), (u.cart? c).map Cartridge.stand =
      (u.lib.carts.map Cartridge.stand).find? fun x => x.1 = c := fun u c => by
    rw [List.find?_map]
    rfl
  have stand : ∀ c, (t.cart? c).map Cartridge.stand = (s.cart? c).map Cartridge.stand := fun c => by rw [read, read, carts]
  refine ⟨.inl (by simp [picker]), fun _ hk => .inl (picker ▸ hk), fun _ hk _ => .inl (picker ▸ hk), fun c => ?_, fun c _ => ?_,
    fun d => .inl (berth d), mail⟩
  · have h := congrArg (Option.map fun x => x.2.1) (stand c)
    rw [Option.map_map, Option.map_map] at h
    exact h
  · have h := congrArg (Option.map fun x => x.2.2) (stand c)
    rw [Option.map_map, Option.map_map] at h
    exact h

theorem setHome_other {cart : Option Nat} {c : Nat} (h : cart ≠ some c) (n : Nat) (s : State) :
    (setHome cart n s).cart? c = s.cart? c := by
  cases cart with
  | none => rfl
  | some x =>
    have other : c ≠ x := fun e => h (congrArg some e.symm)
    simp only [setHome, State.cart?_modCart s x c (fun r => { r with home := some n }) fun _ => rfl, if_neg other, Option.map_id']

/-- Beginning a task: it leaves the queue, its drive is LOADING, and an UNLOAD's cartridge has a new home slot (R44, R73, R75). -/
theorem beginTask_tends {k : Task} {p : PickPoint} (idle : s.picker.state = .idle) (queued : k ∈ s.picker.queue)
    (h : s.destination k = some p) : s.Tends (beginTask k p s) := by
  obtain ⟨b, queue, state, active, task, picked, waiting⟩ : ∃ b : Active, (beginTask k p s).picker.queue = s.picker.queue.erase k ∧
      (beginTask k p s).picker.state = .busy ∧ (beginTask k p s).picker.active = some b ∧ b.task = k ∧
      b.picked = b.source.isNone ∧ b.waiting = false := by
    unfold beginTask setHome
    dsimp only
    split
    · split <;> exact ⟨_, rfl, rfl, rfl, rfl, rfl, rfl⟩
    · exact ⟨_, rfl, rfl, rfl, rfl, rfl, rfl⟩
    · exact ⟨_, rfl, rfl, rfl, rfl, rfl, rfl⟩
  have begun : s.hasBegun (beginTask k p s) b := ⟨idle, state, active, picked, waiting⟩
  have places : ∀ c, ((beginTask k p s).cart? c).map (fun r => { r with home := none }) =
      (s.cart? c).map fun r => { r with home := none } := State.cart?_of_surround (beginTask_surround h)
  refine ⟨.inr ⟨b, begun, .inl (task ▸ queued)⟩, fun q hq => .inl (List.mem_of_mem_erase (queue ▸ hq)), fun q hq hk => ?_,
    fun c => ?_, fun c hc => ?_, fun d => ?_, State.mail_of_surround (beginTask_surround h)⟩
  · rcases eq_or_ne q k with rfl | hne
    · exact .inr ⟨b, begun, task⟩
    · rw [queue]
      exact .inl ((List.mem_erase_of_ne hne).mpr hq)
  · have h := congrArg (Option.map fun r : Cartridge => r.place) (places c)
    rw [Option.map_map, Option.map_map] at h
    exact h
  · unfold beginTask
    dsimp only
    split
    · next n hkind => exact congrArg (Option.map _) (setHome_other (hc k queued hkind) n (setActive k _ s))
    · rfl
    · rfl
  · rcases beginTask_get h d with same | ⟨empty, loading⟩
    · exact .inl (by rw [same])
    · exact .inr ⟨congrArg DriveState.phase empty, by rw [loading]; rfl⟩

/-- A drive that mounts a side is at work. -/
theorem Drive.mountsSide_phase {r : Drive} {sd : SideId} (h : r.mountsSide sd = true) : r.state.phase = .idle := by
  simp only [Drive.mountsSide, Bool.and_eq_true] at h
  revert h
  cases r.state <;> simp [DriveState.mounts, DriveState.phase]

theorem running_of_readyWrite {d : DriveNo} {n : Nat} {e : Location} (h : s.readyWrite d = some (n, e)) : s.running d := by
  obtain ⟨-, -, -, sd, -, mounts⟩ := State.readyWrite_iff.mp h
  exact Drive.mountsSide_phase mounts

theorem beginWrite_berth {d : DriveNo} {n : Nat} {e : Location} (h : s.readyWrite d = some (n, e)) (x : DriveNo) :
    ((beginWrite d n e s).drives[x]).berth = (s.drives[x]).berth := by
  have phase : (s.drives[d]).state.phase = .idle := running_of_readyWrite h
  rw [beginWrite, State.modDrive_get]
  split
  · next hx =>
    subst hx
    exact congrArg (fun p => { (s.drives[x]).berth with phase := p }) phase.symm
  · rfl

theorem modSide_stands (sd : SideId) (g : SideRecord → SideRecord) (s : State) :
    (s.modSide sd g).lib.carts.map Cartridge.stand = s.lib.carts.map Cartridge.stand := by
  simp only [State.modSide, State.modCart_lib, List.map_map]
  refine List.map_congr_left fun r _ => ?_
  simp only [Function.comp_apply]
  split
  · cases sd.side <;> rfl
  · rfl

theorem State.Change.tends (h : State.Change True f s t) : s.Tends t := by
  cases h with
  | outer plant =>
    refine .of_eq ?_ ?_ (fun d => ?_) ?_
    · exact congrArg (fun p => p.lib.carts.map Cartridge.stand) plant
    · exact congrArg (fun p => p.lib.mail) plant
    · exact congrArg (fun p => (p.drives[d]).berth) plant
    · exact congrArg (fun p => p.picker) plant
  | drive d g hg =>
    refine .of_eq rfl rfl (fun x => ?_) rfl
    rw [State.modDrive_get]
    split
    · next hx =>
      subst hx
      exact hg.berth trivial
    · rfl
  | write hw => exact .of_eq rfl rfl (beginWrite_berth hw) rfl
  | picker g hg =>
    obtain ⟨kept, joined⟩ := hg.queue trivial
    refine { State.Tends.refl s with
      picker := .inl (hg.task trivial)
      queue := fun k hk => (joined k hk).imp_right fun h => h.1
      tasks := fun k hk hl => .inl ?_ }
    have mem : k ∈ s.picker.queue.filter fun k => decide (k.kind ≠ .load) := List.mem_filter.mpr ⟨hk, decide_eq_true hl⟩
    exact List.mem_of_mem_filter (kept ▸ mem)
  | begin idle _ queued target => exact beginTask_tends idle queued (State.taskTarget_eq_some.mp target).1
  | lib g hg =>
    obtain ⟨stands, mail⟩ := hg.stands trivial
    exact .of_eq stands mail (fun _ => rfl) rfl
  | side sd g a => exact .of_eq (modSide_stands sd g s) rfl (fun _ => rfl) rfl
  | enter _ _ _ unminded => exact absurd trivial unminded
  | swept unminded => exact absurd trivial unminded
  | _ => exact .of_eq rfl rfl (fun _ => rfl) rfl

/-- A chain of changes that minds the mechanics. -/
theorem State.Changes.tends (h : State.Changes True f s t) : s.Tends t :=
  h.keeps (P := s.Tends) (fun _ _ hc hs => hs.trans hc.tends) (.refl s)

/-- A queued task that is no LOAD stays among the picker's tasks. -/
theorem State.Tends.mem_tasks (h : s.Tends t) {k : Task} (hk : k ∈ s.picker.queue) (hl : k.kind ≠ .load) : k ∈ t.picker.tasks := by
  rcases h.tasks k hk hl with hq | ⟨b, ⟨-, -, active, -⟩, rfl⟩
  · exact List.mem_append_right _ hq
  · exact List.mem_append_left _ (by simp [active])

end Sys2Proof.Machine
end
-- ==== Proofs: the requests of the library ====
section
/-!
O20, O21 and O22: IMPORT, EXPORT and SIDE_ROLE.
-/
namespace Sys2Proof.Machine

variable {s t : State} {tag : Byte}

-- Open slots ------------------------------------------------------------------------------------------------------

theorem Library.lowestOpen_eq_some {l : Library} {n : Nat} (h1 : 1 ≤ n) (h2 : n ≤ 240) (hn : l.slotOpen n = true)
    (hlow : ∀ m, 1 ≤ m → m < n → l.slotOpen m = false) : l.lowestOpen = some n := by
  have below : List.range' 1 Config.shelfSlots = List.range' 1 (n - 1) ++ n :: List.range' (n + 1) (240 - n) := by
    have split : List.range' 1 (n - 1) ++ List.range' (1 + (n - 1)) (240 - (n - 1)) = List.range' 1 (n - 1 + (240 - (n - 1))) :=
      List.range'_append_1 ..
    have total : n - 1 + (240 - (n - 1)) = Config.shelfSlots := by
      rw [Config.shelfSlots]
      omega
    have head : 240 - (n - 1) = (240 - n) + 1 := by omega
    have start : 1 + (n - 1) = n := by omega
    rw [← total, ← split, head, start, List.range'_succ]
  rw [Library.lowestOpen, below, List.find?_append, List.find?_eq_none.mpr fun m hm => ?_, Option.none_or,
    List.find?_cons_of_pos hn]
  rw [List.mem_range'_1] at hm
  simp [hlow m hm.1 (by omega)]

theorem Library.lowestOpen_eq_none {l : Library} (h : ∀ m, 1 ≤ m → m ≤ 240 → l.slotOpen m = false) : l.lowestOpen = none := by
  refine List.find?_eq_none.mpr fun m hm => ?_
  rw [List.mem_range'_1, Config.shelfSlots] at hm
  simp [h m hm.1 (by omega)]

/-- A cartridge that is to have no new home slot keeps its record, where the surround stands. -/
theorem State.cart?_kept (h : t.surround = s.surround) (tends : s.Tends t) {c : Nat} (hc : s.staysHomed c) :
    t.cart? c = s.cart? c := by
  have rest := State.cart?_of_surround h c
  have home := tends.home c hc
  cases ht : t.cart? c <;> cases hs : s.cart? c <;> rw [ht, hs] at rest home
  · cases rest
  · cases rest
  · next q r =>
    simp only [Option.map_some, Option.some.injEq, Cartridge.mk.injEq] at rest home
    obtain ⟨number, place, -, former, a, b⟩ := rest
    exact congrArg some (by cases q; cases r; simp_all)

-- IMPORT ----------------------------------------------------------------------------------------------------------

theorem exec_importCart_served (hs : s.serves = true) (tag : Byte) (cart : Word16) (a b : Byte) :
    exec (.importCart tag cart a b) s = .next (arbitrate (takeImport tag cart a b s)) :=
  congrArg Host.Outcome.next (offer_free (State.serves_spec hs).1)

/-- IMPORT of a bad role or a number out of range (R51). -/
theorem takeImport_badField (hready : s.condition = .ready) {cart : Word16} {a b : Byte}
    (h : roleOf a = none ∨ roleOf b = none ∨ cart.toNat = 0 ∨ 4095 < cart.toNat) :
    takeImport tag cart a b s = answer tag (.refused .badField) s := by
  rw [takeImport, screened_ready hready]
  split
  · next ha hb =>
    rw [ha, hb] at h
    exact if_pos (h.resolve_left nofun |>.resolve_left nofun)
  · rfl

/-- IMPORT of good fields is refused by the first check that fails (Table 3-4). -/
theorem takeImport_refused (hready : s.condition = .ready) {cart : Word16} {ra rb : Byte} {a b : Role} (ha : roleOf ra = some a)
    (hb : roleOf rb = some b) (h1 : 1 ≤ cart.toNat) (h2 : cart.toNat ≤ 4095) {x : Code} (h : s.importRefusal cart.toNat = some x) :
    takeImport tag cart ra rb s = answer tag (.refused x) s := by
  have inRange : ¬ (cart.toNat = 0 ∨ Config.maxCartridgeNumber < cart.toNat) := by rw [Config.maxCartridgeNumber]; omega
  simp only [takeImport, screened_ready hready, ha, hb, if_neg inRange, h, refuse]

/-- IMPORT that passes its checks finds its destination slot or is refused for want of one (R52). -/
theorem takeImport_slot (hready : s.condition = .ready) {cart : Word16} {ra rb : Byte} {a b : Role} (ha : roleOf ra = some a)
    (hb : roleOf rb = some b) (h1 : 1 ≤ cart.toNat) (h2 : cart.toNat ≤ 4095) (h : s.importRefusal cart.toNat = none) :
    (s.importSlot (s.cart? cart.toNat) = none → takeImport tag cart ra rb s = answer tag (.refused .noFreeSlot) s) ∧
      ∀ n, s.importSlot (s.cart? cart.toNat) = some n →
        takeImport tag cart ra rb s = answer tag (.importCart cart.toNat n) (acceptImport cart.toNat a b n s) := by
  have inRange : ¬ (cart.toNat = 0 ∨ Config.maxCartridgeNumber < cart.toNat) := by rw [Config.maxCartridgeNumber]; omega
  refine ⟨fun hn => ?_, fun n hn => ?_⟩ <;> simp only [takeImport, screened_ready hready, ha, hb, if_neg inRange, h, hn, refuse]

/-- The former slot of the cartridge, where it is open, is the destination (R52). -/
theorem State.importSlot_former {c n : Nat} (h : (∃ r, s.cart? c = some r ∧ r.former = some n) ∧ s.lib.slotOpen n = true) :
    s.importSlot (s.cart? c) = some n := by
  obtain ⟨⟨r, hr, hf⟩, ho⟩ := h
  simp only [State.importSlot, hr, Option.bind_some, hf, if_pos ho]

/-- Without an open former slot the destination is the lowest open slot (R52). -/
theorem State.importSlot_lowest {c : Nat} (h : ∀ n, ¬ ((∃ r, s.cart? c = some r ∧ r.former = some n) ∧ s.lib.slotOpen n = true)) :
    s.importSlot (s.cart? c) = s.lib.lowestOpen := by
  unfold State.importSlot
  split
  · next n hn =>
    obtain ⟨r, hr, hf⟩ := Option.bind_eq_some_iff.mp hn
    exact if_neg fun ho => h n ⟨⟨r, hr, hf⟩, ho⟩
  · rfl

/-- The task of an accepted IMPORT (R52). -/
def importOf (c : Nat) : Task := { kind := .importTask, cart := some c, side := .A, drive := none }

/-- An accepted IMPORT before the picker's choice. -/
def importEntered (c : Nat) (a b : Role) (n : Nat) (s : State) : State :=
  enqueue (importOf c) ((holdForMail (enterCart c a b s)).modCart c fun r => { r with place := .mail, home := some n })

theorem acceptImport_eq (c : Nat) (a b : Role) (n : Nat) (s : State) :
    acceptImport c a b n s = pickerChoose (importEntered c a b n s) := rfl

/-- A number enters the table with a fresh record (R52). -/
theorem cart?_enterCart_self {c : Nat} (h : s.cart? c = none) (a b : Role) :
    (enterCart c a b s).cart? c = some (Cartridge.fresh c a b) := by
  rw [enterCart_new h]
  have entered : ∀ cs : List Cartridge, (∀ r ∈ cs, r.number ≠ c) →
      (insertCart (Cartridge.fresh c a b) cs).find? (fun r => r.number = c) = some (Cartridge.fresh c a b) := fun cs hcs => by
    induction cs with
    | nil => simp [insertCart, Cartridge.fresh]
    | cons q rest ih =>
      rw [insertCart]
      split
      · simp [Cartridge.fresh]
      · rw [List.find?_cons_of_neg (by simpa using hcs q (List.mem_cons_self ..))]
        exact ih fun r hr => hcs r (List.mem_cons_of_mem _ hr)
  exact entered _ (State.cart?_eq_none h)

theorem cart?_importEntered (c : Nat) (a b : Role) (n : Nat) (s : State) :
    (importEntered c a b n s).cart? c =
      some { (s.cart? c).getD (Cartridge.fresh c a b) with place := .mail, home := some n } := by
  have entered : (enterCart c a b s).cart? c = some ((s.cart? c).getD (Cartridge.fresh c a b)) := by
    cases hc : s.cart? c with
    | none => exact cart?_enterCart_self hc a b
    | some r =>
      have same : enterCart c a b s = s := by simp only [enterCart, hc]
      rw [same, hc, Option.getD_some]
  refine (State.cart?_modCart (holdForMail (enterCart c a b s)) c c (fun r => { r with place := .mail, home := some n })
    fun _ => rfl).trans ?_
  have held : (holdForMail (enterCart c a b s)).cart? c = (enterCart c a b s).cart? c := rfl
  rw [held, entered, Option.map_some, if_pos rfl]

/-- Entering the cartridge leaves everything but the table and the picker. -/
theorem importEntered_frame (c : Nat) (a b : Role) (n : Nat) (s : State) :
    (importEntered c a b n s).desk = s.desk ∧ (importEntered c a b n s).link = s.link ∧ (importEntered c a b n s).fetch = s.fetch ∧
      (importEntered c a b n s).filing = s.filing ∧ (importEntered c a b n s).rings = s.rings ∧
      (importEntered c a b n s).lib.mail = s.lib.mail ∧ (importEntered c a b n s).lib.active = s.lib.active ∧
      (importEntered c a b n s).picker.queue = s.picker.queue ++ [importOf c] := by
  unfold importEntered enterCart
  split <;> exact ⟨rfl, rfl, rfl, rfl, rfl, rfl, rfl, rfl⟩

/-- An accepted IMPORT enters the cartridge in the mail slot and queues its task (R52). -/
theorem exec_importCart_accepted (hs : s.serves = true) {cart : Word16} {ra rb : Byte} {a b : Role} (ha : roleOf ra = some a)
    (hb : roleOf rb = some b) (h1 : 1 ≤ cart.toNat) (h2 : cart.toNat ≤ 4095) (h : s.importRefusal cart.toNat = none)
    (hmail : s.lib.mail = true) {n : Nat} (hslot : s.importSlot (s.cart? cart.toNat) = some n) (homed : s.staysHomed cart.toNat) :
    ∃ t, exec (.importCart tag cart ra rb) s = .next (arbitrate t) ∧ t.desk = s.desk ∧
      t.link = (answer tag (.importCart cart.toNat n) s).link ∧ t.fetch = s.fetch ∧ t.filing = s.filing ∧
      t.rings = s.rings ∧ t.lib.mail = true ∧ t.lib.active = s.lib.active ∧
      (∃ r, t.cart? cart.toNat = some r ∧ r.place = .mail ∧ r.home = some n ∧
        (s.cart? cart.toNat = none → r.sideA = { role := a, nextFree := 0, defects := 0, errors := 0 } ∧
          r.sideB = { role := b, nextFree := 0, defects := 0, errors := 0 }) ∧
        ∀ q, s.cart? cart.toNat = some q → r.sideA = q.sideA ∧ r.sideB = q.sideB) ∧
      { kind := .importTask, cart := some cart.toNat, side := .A, drive := none } ∈ t.picker.tasks := by
  obtain ⟨desk, link, fetch, filing, rings, mail, active, queue⟩ := importEntered_frame cart.toNat a b n s
  have found := cart?_importEntered cart.toNat a b n s
  have taken : exec (.importCart tag cart ra rb) s =
      .next (arbitrate (answer tag (.importCart cart.toNat n) (acceptImport cart.toNat a b n s))) := by
    rw [exec_importCart_served hs, (takeImport_slot (State.serves_spec hs).2 ha hb h1 h2 h).2 n hslot]
  rw [acceptImport_eq] at taken
  generalize importEntered cart.toNat a b n s = u at desk link fetch filing rings mail active queue found taken
  have around := pickerChoose_surround u
  have tends : u.Tends (pickerChoose u) := State.Changes.tends (f := True) pickerChoose_changes
  have homed' : u.staysHomed cart.toNat := fun k hk hu => by
    rw [queue] at hk
    rcases List.mem_append.mp hk with hk | hk
    · exact homed k hk hu
    · obtain rfl := List.mem_singleton.mp hk
      cases hu
  have kept := State.cart?_kept around tends homed'
  refine ⟨_, taken, (congrArg Surround.desk around).trans desk, ?_, (congrArg Surround.fetch around).trans fetch,
    (congrArg Surround.filing around).trans filing, (congrArg Surround.rings around).trans rings,
    (State.mail_of_surround around).trans (mail.trans hmail), (State.active_of_surround around).trans active,
    ⟨_, kept.trans found, rfl, rfl, fun hn => ?_, fun q hq => ?_⟩, tends.mem_tasks ?_ nofun⟩
  · have port : (pickerChoose u).link = s.link := (congrArg Surround.link around).trans link
    have condition : (pickerChoose u).condition = s.condition := congrArg Desk.condition ((congrArg Surround.desk around).trans desk)
    simp only [answer, State.modLink_link, port, condition]
  · simp [hn, Cartridge.fresh]
  · simp [hq]
  · rw [queue]
    exact List.mem_append_right _ (List.mem_singleton.mpr rfl)

/-- The IMPORT checks past the second (Table 3-4). -/
theorem State.importRefusal_absent {c : Nat} (hmail : s.lib.mail = true) (hoff : ∀ r, s.cart? c = some r → r.place = .offline) :
    s.importRefusal c =
      if s.lib.carts.any fun r => decide (r.number ≠ c) && decide (r.place = .mail) then some .mailSlotFull
      else if s.cart? c = none ∧ Config.maxCartridges ≤ s.lib.carts.length then some .tableFull
      else if s.picker.state = .fault then some .libraryBusy
      else none := by
  have absent : ((s.cart? c).any fun r => decide (r.place ≠ .offline)) = false := by
    cases hc : s.cart? c with
    | none => rfl
    | some r => simp [hoff r hc]
  simp only [State.importRefusal, hmail, absent]
  rfl

/-- The IMPORT checks past the third (Table 3-4). -/
theorem State.importRefusal_alone {c : Nat} (hmail : s.lib.mail = true) (hoff : ∀ r, s.cart? c = some r → r.place = .offline)
    (hfree : ∀ r ∈ s.lib.carts, r.number ≠ c → r.place ≠ .mail) :
    s.importRefusal c =
      if s.cart? c = none ∧ Config.maxCartridges ≤ s.lib.carts.length then some .tableFull
      else if s.picker.state = .fault then some .libraryBusy
      else none := by
  have free : ¬ (s.lib.carts.any fun r => decide (r.number ≠ c) && decide (r.place = .mail)) = true := fun h => by
    obtain ⟨r, hr, h⟩ := List.any_eq_true.mp h
    simp only [Bool.and_eq_true, decide_eq_true_eq] at h
    exact hfree r hr h.1 h.2
  rw [State.importRefusal_absent hmail hoff, if_neg free]

/-- Settles O20, check by check in the order of Table 3-4. -/
theorem importEntersTheCartridge : Obligations.ImportEntersTheCartridge := by
  rintro tag cart ra rb s _ rfl hs
  have hready := (State.serves_spec hs).2
  refine ⟨fun h => ?_, fun a b ha hb h1 h2 => ?_⟩
  · rw [State.refuses, exec_importCart_served hs, takeImport_badField hready h]
  have refused : ∀ {x : Code}, s.importRefusal cart.toNat = some x → s.refuses (.importCart tag cart ra rb) tag x := fun h => by
    rw [State.refuses, exec_importCart_served hs, takeImport_refused hready ha hb h1 h2 h]
  refine ⟨fun hm => refused (if_pos hm), fun hm ⟨r, hr, hplace⟩ => refused ?_, fun hm hoff => ⟨fun ⟨r, hr, hother, hplace⟩ =>
    refused ?_, fun hfree => ⟨fun hn hx => refused ?_, fun hroom => ?_⟩⟩⟩
  · simp [State.importRefusal, hm, hr, hplace]
  · rw [State.importRefusal_absent hm hoff]
    exact if_pos (List.any_eq_true.mpr ⟨r, hr, by simp [hother, hplace]⟩)
  · rw [State.importRefusal_alone hm hoff hfree]
    exact if_pos ⟨hn, hx⟩
  have alone := State.importRefusal_alone hm hoff hfree
  rw [if_neg fun ⟨hn, hl⟩ => absurd (hroom hn) (Nat.not_lt.mpr hl)] at alone
  refine ⟨fun hx => refused (alone.trans (if_pos hx)), fun hp formerOpen hformer => ?_⟩
  have allowed : s.importRefusal cart.toNat = none := alone.trans (if_neg hp)
  have none_open : (∀ f, ¬ formerOpen f) → s.importSlot (s.cart? cart.toNat) = s.lib.lowestOpen := fun h =>
    State.importSlot_lowest fun n hn => h n ((hformer n).mpr hn)
  refine ⟨fun hno hshut => ?_, fun n hn homed => exec_importCart_accepted hs ha hb h1 h2 allowed hm ?_ homed⟩
  · have slot := (none_open hno).trans (Library.lowestOpen_eq_none hshut)
    rw [State.refuses, exec_importCart_served hs, (takeImport_slot hready ha hb h1 h2 allowed).1 slot]
  · rcases hn with hf | ⟨hno, hn1, hn2, ho, hlow⟩
    · exact State.importSlot_former ((hformer n).mp hf)
    · exact (none_open hno).trans (Library.lowestOpen_eq_some hn1 hn2 ho hlow)

-- EXPORT ----------------------------------------------------------------------------------------------------------

theorem exec_exportCart_served (hs : s.serves = true) (tag : Byte) (cart : Word16) :
    exec (.exportCart tag cart) s = .next (arbitrate (takeExport tag cart s)) :=
  congrArg Host.Outcome.next (offer_free (State.serves_spec hs).1)

/-- EXPORT of a recorded cartridge is refused by the first check that fails, or accepted (R54, R55). -/
theorem takeExport_found (hready : s.condition = .ready) {cart : Word16} {r : Cartridge} (hr : s.cart? cart.toNat = some r) :
    (∀ c, s.exportRefusal cart.toNat r = some c → takeExport tag cart s = answer tag (.refused c) s) ∧
      (s.exportRefusal cart.toNat r = none → takeExport tag cart s = answer tag .done (acceptExport cart.toNat r.place s)) := by
  refine ⟨fun c h => ?_, fun h => ?_⟩ <;> simp only [takeExport, screened_ready hready, hr, h, refuse]

/-- A lodgement's extent lies where a test says. -/
theorem extent_any {p : Location → Bool} {x : Option Location} : (x.map p).getD false = true ↔ ∃ e, x = some e ∧ p e = true := by
  cases x <;> simp

/-- An EXPORT is refused CARTRIDGE_BUSY for an order, a lodgement or the leaving mark (R54). -/
theorem State.exportBusy_iff (s : State) (c : Nat) : (s.refersTo c || s.filingOn c || s.isLeaving c) = true ↔
    (∃ o ∈ s.fetch.queue, o.loc.cart = c) ∨ (∃ l ∈ s.filing.table, ∃ e, l.extent = some e ∧ e.cart = c) ∨
      (∃ sd, s.lib.active = some sd ∧ sd.cart = c ∧ ∃ l ∈ s.filing.table, l.state ≠ .receiving) ∨ c ∈ s.lib.leaving := by
  have active : (s.lib.active.map fun sd => decide (sd.cart = c)).getD false = true ↔ ∃ sd, s.lib.active = some sd ∧ sd.cart = c := by
    cases s.lib.active <;> simp
  simp only [State.refersTo, State.filingOn, State.isLeaving, Bool.or_eq_true, Bool.and_eq_true, List.any_eq_true, decide_eq_true_eq,
    List.contains_eq_mem, extent_any, active, or_assoc, ← exists_and_right, and_assoc]

theorem releaseFor_surround (p : Place) (s : State) : (releaseFor p s).surround = s.surround := by
  unfold releaseFor
  split
  · exact askRelease_surround _ s
  all_goals rfl

/-- The mark is set and the active filing side cleared before the picker chooses, and after (R55). -/
theorem acceptExport_surround (c : Nat) (p : Place) (s : State) : (acceptExport c p s).surround =
    State.surround (clearActiveOf c (s.modLib fun l => { l with leaving := l.leaving ++ [c] })) :=
  (pickerChoose_surround _).trans ((releaseFor_surround p _).trans (judgePins_surround _))

/-- The EXPORT task stays queued, or the picker has begun it (R55, R73). -/
theorem acceptExport_queued (c : Nat) (p : Place) (s : State) :
    { kind := .exportTask, cart := some c, side := .A, drive := none } ∈ (acceptExport c p s).picker.tasks := by
  have tends : State.Tends (enqueue { kind := .exportTask, cart := some c, side := .A, drive := none }
      (judgePins (clearActiveOf c (s.modLib fun l => { l with leaving := l.leaving ++ [c] })))) (acceptExport c p s) :=
    State.Changes.tends (f := True) ((releaseFor_changes p).trans pickerChoose_changes)
  exact tends.mem_tasks (List.mem_append_right _ (List.mem_singleton.mpr rfl)) nofun

/-- Settles O21, check by check in the order of R54. -/
theorem exportMarksTheCartridge : Obligations.ExportMarksTheCartridge := by
  rintro tag cart s _ rfl hs
  have hready := (State.serves_spec hs).2
  refine ⟨fun hn => ?_, fun r hr => ?_⟩
  · simp only [State.refuses, exec_exportCart_served hs, takeExport, screened_ready hready, hn, refuse]
  have refused : ∀ {x : Code}, s.exportRefusal cart.toNat r = some x → s.refuses (.exportCart tag cart) tag x := fun h => by
    rw [State.refuses, exec_exportCart_served hs, (takeExport_found hready hr).1 _ h]
  refine ⟨fun hp => refused (if_pos hp), fun hoff hmail trapped htrapped busy hbusy => ?_⟩
  have inLibrary : ¬ (r.place = .offline ∨ r.place = .mail) := fun h => h.elim hoff hmail
  have trap : s.trapped cart.toNat = true ↔ trapped := (State.trapped_iff hr).trans htrapped.symm
  have busy' := (State.exportBusy_iff s cart.toNat).trans hbusy.symm
  refine ⟨fun ht => refused ?_, fun ht hb => refused ?_, fun ht hb hm => refused ?_, fun ht hb hm hp => refused ?_,
    fun ht hb hm hp => ?_⟩
  · rw [State.exportRefusal, if_neg inLibrary, if_pos (trap.mpr ht)]
  · rw [State.exportRefusal, if_neg inLibrary, if_neg (mt trap.mp ht), if_pos (busy'.mpr hb)]
  · rw [State.exportRefusal, if_neg inLibrary, if_neg (mt trap.mp ht), if_neg (mt busy'.mp hb), if_pos hm]
  · rw [State.exportRefusal, if_neg inLibrary, if_neg (mt trap.mp ht), if_neg (mt busy'.mp hb), if_neg (by simp [hm]), if_pos hp]
  · have allowed : s.exportRefusal cart.toNat r = none := by
      rw [State.exportRefusal, if_neg inLibrary, if_neg (mt trap.mp ht), if_neg (mt busy'.mp hb), if_neg (by simp [hm]), if_neg hp]
    have taken : exec (.exportCart tag cart) s = .next (arbitrate (answer tag .done (acceptExport cart.toNat r.place s))) := by
      rw [exec_exportCart_served hs, (takeExport_found hready hr).2 allowed]
    have around := acceptExport_surround cart.toNat r.place s
    refine ⟨_, taken, congrArg Surround.desk around, ?_, congrArg Surround.fetch around, congrArg Surround.filing around,
      congrArg Surround.rings around, ?_, fun sd => ?_, acceptExport_queued ..⟩
    · have link : (acceptExport cart.toNat r.place s).link = s.link := congrArg Surround.link around
      have condition : (acceptExport cart.toNat r.place s).condition = s.condition := congrArg (fun x => x.desk.condition) around
      simp only [answer, State.modLink_link, link, condition]
    · have leaving : (acceptExport cart.toNat r.place s).lib.leaving = s.lib.leaving ++ [cart.toNat] :=
        State.leaving_of_surround around
      simp [State.isLeaving, leaving]
    · have active : (acceptExport cart.toNat r.place s).lib.active = s.lib.active.filter fun sd => sd.cart ≠ cart.toNat :=
        State.active_of_surround around
      simp [active, Option.filter_eq_some_iff]

end Sys2Proof.Machine
end
-- ==== Proofs: what goes on at ease ====
section
/-!
SUPPORT for the faults, the mechanism reset and the failed attempts. The operations that only carry on with the work at hand: the
drives, the picker, the allocator and the failing of orders. None of them revives a drive that has faulted, stirs a picker in FAULT,
makes an order WAITING, moves the active filing side or an extent, or touches a side record.
-/
namespace Sys2Proof.Machine

variable {f : Prop} {s t u : State}

-- What is kept ----------------------------------------------------------------------------------------------------

/-- A drive that has faulted: its run, timers, marks and reservation are cleared (R81). -/
def Drive.spent (r : Drive) : Prop :=
  r.state = .fault ∧ r.hold = none ∧ r.linger = none ∧ r.releasePending = false ∧ r.pin = false ∧ r.run = none ∧ r.reserved = none

theorem Drive.not_spent {r : Drive} {x : DriveState} (h : r.state = x) (hx : x ≠ .fault) : ¬ r.spent := fun hs => hx (h.symm.trans hs.1)

/-- Nothing is asked of a drive: no reservation, no release pending. -/
def Drive.unasked (r : Drive) : Prop := r.reserved = none ∧ r.releasePending = false

/-- A picker in FAULT, with no task and nothing asked of any drive (R76). -/
def State.stilled (s : State) : Prop :=
  s.picker.state = .fault ∧ s.picker.queue = [] ∧ s.picker.active = none ∧ ∀ d : DriveNo, (s.drives[d]).unasked

/-- The lodgement in hand of number `n` with `a` failed attempts, STAGED or writing again, holds no extent on cartridge `c`. -/
def State.retries (s : State) (c n a : Nat) : Prop :=
  ∃ step m, s.filing.hand = some (n, step) ∧ s.lodgement? n = some m ∧ (∀ x, m.extent = some x → x.cart ≠ c) ∧
    (step ≠ .run ∧ m.state = .staged ∧ m.attempts = a ∨ step = .run ∧ m.state = .writing ∧ m.attempts = a + 1)

/-- What only the requests, the write engine and the endings of runs change: the library but for home slots, the extents, and the
lodgement in hand with whether it asks for a side. -/
structure Holdings where
  lib     : Library
  extents : List (Nat × Option Location)
  asking  : Option (Nat × Bool)

/-- The holdings of a state. -/
def State.holdings (s : State) : Holdings where
  lib := s.surround.lib
  extents := s.filing.table.map fun l => (l.number, l.extent)
  asking := s.filing.hand.map fun h => (h.1, decide (h.2 = .side))

/-- The orders of `t` are orders of `s`, and none has become WAITING. -/
def State.wanes (s t : State) : Prop :=
  ∀ o ∈ t.fetch.queue, ∃ p ∈ s.fetch.queue, p.number = o.number ∧ p.loc = o.loc ∧ (o.state = .waiting → p.state = .waiting)

/-- The work at hand goes on. -/
structure State.Eases (s t : State) : Prop where
  tends    : s.Tends t
  spent    : ∀ d : DriveNo, (s.drives[d]).spent → (t.drives[d]).spent
  stilled  : s.stilled → t.stilled ∧ t.picker.starts = s.picker.starts
  orders   : s.wanes t
  holdings : t.holdings = s.holdings
  retries  : ∀ c n a, s.retries c n a → t.retries c n a

theorem State.wanes.refl (s : State) : s.wanes s := fun o ho => ⟨o, ho, rfl, rfl, id⟩

theorem State.wanes.trans (h : s.wanes t) (k : t.wanes u) : s.wanes u := fun o ho => by
  obtain ⟨p, hp, number, loc, waiting⟩ := k o ho
  obtain ⟨q, hq, number', loc', waiting'⟩ := h p hp
  exact ⟨q, hq, number'.trans number, loc'.trans loc, waiting' ∘ waiting⟩

theorem State.Eases.refl (s : State) : s.Eases s :=
  ⟨.refl s, fun _ => id, fun h => ⟨h, rfl⟩, .refl s, rfl, fun _ _ _ => id⟩

theorem State.Eases.trans (h : s.Eases t) (k : t.Eases u) : s.Eases u where
  tends := h.tends.trans k.tends
  spent d hd := k.spent d (h.spent d hd)
  stilled hs :=
    have ⟨ht, starts⟩ := h.stilled hs
    have ⟨hu, starts'⟩ := k.stilled ht
    ⟨hu, starts'.trans starts⟩
  orders := h.orders.trans k.orders
  holdings := k.holdings.trans h.holdings
  retries c n a hr := k.retries c n a (h.retries c n a hr)

theorem State.Eases.ite {c : Prop} [Decidable c] (ht : c → s.Eases t) (hu : ¬ c → s.Eases u) : s.Eases (if c then t else u) := by
  split
  · next h => exact ht h
  · next h => exact hu h

theorem forDrives_eases {g : DriveNo → State → State} (h : ∀ d (t : State), t.Eases (g d t)) (s : State) : s.Eases (s.forDrives g) :=
  forDrives_kept s (P := s.Eases) (fun d t ht => ht.trans (h d t)) (.refl s)

theorem foldl_eases {α : Type} {g : State → α → State} (h : ∀ (t : State) x, t.Eases (g t x)) (xs : List α) (s : State) :
    s.Eases (xs.foldl g s) :=
  foldl_kept (P := s.Eases) (fun t x ht => ht.trans (h t x)) xs s (.refl s)

-- Single changes --------------------------------------------------------------------------------------------------

theorem State.retries.congr {c n a : Nat} (h : s.retries c n a) (filing : t.filing = s.filing) : t.retries c n a := by
  unfold State.retries State.lodgement? at *
  rwa [filing]

theorem State.wanes.of_eq (fetch : t.fetch = s.fetch) : s.wanes t := fun o ho => ⟨o, fetch ▸ ho, rfl, rfl, id⟩

/-- A change that leaves the surround. -/
theorem State.Eases.of_surround (tends : s.Tends t) (h : t.surround = s.surround)
    (spent : ∀ d : DriveNo, (s.drives[d]).spent → (t.drives[d]).spent)
    (stilled : s.stilled → t.stilled ∧ t.picker.starts = s.picker.starts) : s.Eases t where
  tends := tends
  spent := spent
  stilled := stilled
  orders := .of_eq (State.fetch_of_surround h)
  holdings := by
    have filing : t.filing = s.filing := State.filing_of_surround h
    have lib : t.surround.lib = s.surround.lib := congrArg Surround.lib h
    simp only [State.holdings, filing, lib]
  retries c n a hr := hr.congr (State.filing_of_surround h)

/-- A change of none of what is kept. -/
theorem State.Eases.of_eq (lib : t.lib = s.lib) (drives : t.drives = s.drives) (picker : t.picker = s.picker) (fetch : t.fetch = s.fetch)
    (filing : t.filing = s.filing) : s.Eases t where
  tends := .of_eq (by rw [lib]) (by rw [lib]) (fun d => by rw [drives]) picker
  spent d hd := drives ▸ hd
  stilled hs := by
    unfold State.stilled
    rw [drives, picker]
    exact ⟨hs, rfl⟩
  orders := .of_eq fetch
  holdings := by simp only [State.holdings, State.surround, lib, filing]
  retries c n a hr := hr.congr filing

/-- A change of a drive record that holds what it held. -/
theorem State.Eases.drive (d : DriveNo) (g : Drive → Drive) (berth : (g s.drives[d]).berth = (s.drives[d]).berth)
    (spent : (s.drives[d]).spent → (g s.drives[d]).spent)
    (unasked : s.picker.state = .fault → (s.drives[d]).unasked → (g s.drives[d]).unasked) : s.Eases (s.modDrive d g) where
  tends := by
    refine .of_eq rfl rfl (fun x => ?_) rfl
    rw [State.modDrive_get]
    split
    · next hx =>
      subst hx
      exact berth
    · rfl
  spent x hx := by
    rw [State.modDrive_get]
    split
    · next h =>
      subst h
      exact spent hx
    · exact hx
  stilled hs := by
    obtain ⟨fault, queue, active, drives⟩ := hs
    refine ⟨⟨fault, queue, active, fun x => ?_⟩, rfl⟩
    rw [State.modDrive_get]
    split
    · next h =>
      subst h
      exact unasked fault (drives x)
    · exact drives x
  orders := .refl s
  holdings := rfl
  retries _ _ _ hr := hr

theorem queueNotice_eases (n : Notice) (s : State) : s.Eases (queueNotice n s) := .of_eq rfl rfl rfl rfl rfl

theorem releaseIn_eases (r : Fin 7) (p : PageEntry → Bool) (s : State) : s.Eases (releaseIn r p s) := .of_eq rfl rfl rfl rfl rfl

-- Picker, drives and allocator ------------------------------------------------------------------------------------

theorem lingerJudge_eases (d : DriveNo) (s : State) : s.Eases (lingerJudge d s) := by
  refine .drive d _ rfl (fun ⟨fault, hold, _, rest⟩ => ⟨fault, hold, ?_, rest⟩) fun _ h => h
  simp only [State.lingers, fault]
  rfl

theorem askRelease_eases (d : DriveNo) (s : State) : s.Eases (askRelease d s) := by
  unfold askRelease
  dsimp only
  split
  · exact .refl s
  · next h =>
    have idle : (s.drives[d]).state = .idle := not_not.mp fun k => h (.inr (.inl k))
    have busy := Drive.not_spent idle nofun
    have phase : (s.drives[d]).state.phase = .idle := congrArg DriveState.phase idle
    split
    · exact .drive d _ rfl (fun hs => absurd hs busy) fun fault => absurd (.inl fault) h
    · exact .drive d _ (congrArg (fun p => { (s.drives[d]).berth with phase := p }) phase.symm) (fun hs => absurd hs busy)
        fun fault => absurd (.inl fault) h

theorem releaseUnrecorded_eases (d : DriveNo) (s : State) : s.Eases (releaseUnrecorded d s) :=
  .ite (fun _ => askRelease_eases d s) fun _ => .refl s

theorem judgePin_eases (d : DriveNo) (s : State) : s.Eases (judgePin d s) := by
  unfold judgePin
  dsimp only
  split
  · next h =>
    refine .drive d _ rfl (fun ⟨fault, _⟩ => ?_) fun _ h => h
    unfold State.pinned at h
    simp only [Bool.and_eq_true] at h
    have mounts := h.1
    split at mounts
    · exact nomatch fault ▸ Drive.mountsSide_phase mounts
    · cases mounts
  · split
    · refine State.Eases.trans (.drive d (fun r => { r with pin := false }) rfl ?_ fun _ h => h) (lingerJudge_eases d _)
      exact fun ⟨a, b, c, e, _, g⟩ => ⟨a, b, c, e, rfl, g⟩
    · exact .refl s

theorem judgePins_eases (s : State) : s.Eases (judgePins s) := forDrives_eases judgePin_eases s

theorem pickerChoose_eases (s : State) : s.Eases (pickerChoose s) := by
  refine .of_surround (State.Changes.tends (f := True) pickerChoose_changes) (pickerChoose_surround s) (fun d hd => ?_) fun hs => ?_
  · unfold pickerChoose
    split
    · split
      · next k _ =>
        split
        · next p hp =>
          rcases beginTask_get (State.taskTarget_eq_some.mp hp).1 d with same | ⟨empty, -⟩
          · rwa [same]
          · exact absurd hd (Drive.not_spent empty nofun)
        · exact hd
      · exact hd
    · exact hd
  · have stays : pickerChoose s = s := if_neg fun h => by
      have fault := hs.1
      simp [h.1] at fault
    rw [stays]
    exact ⟨hs, rfl⟩

theorem enqueueLoad_eases {k : Task} {c : Nat} (load : k.kind = .load) (cart : k.cart = some c) (recorded : (s.cart? c).isSome = true)
    (up : s.picker.state ≠ .fault) : s.Eases (enqueue k s) :=
  .of_surround (State.Changes.tends (f := True) (enqueueLoad_changes load cart recorded)) rfl (fun _ => id) fun hs => absurd hs.1 up

theorem allocateSide_eases (sd : SideId) (up : s.picker.state ≠ .fault) : s.Eases (allocateSide s sd) := by
  unfold allocateSide
  split
  · next h =>
    have recorded : (s.cart? sd.cart).isSome = true := by
      cases hc : s.cart? sd.cart with
      | none => simp [State.passedOver, hc] at h
      | some r => rfl
    split
    · next d hd =>
      refine State.Eases.trans (.drive d (fun r => { r with reserved := some sd }) rfl (fun hs => ?_) fun fault => absurd fault up)
        (State.Eases.trans (enqueueLoad_eases rfl rfl recorded up) (askRelease_eases d _))
      exact absurd hs ((State.driveFor_state hd).elim (fun h => Drive.not_spent h nofun) fun h => Drive.not_spent h nofun)
    · exact .refl s
  · exact .refl s

theorem State.Tends.up (h : s.Tends t) (up : s.picker.state ≠ .fault) : t.picker.state ≠ .fault := by
  rcases h.picker with ⟨state, -⟩ | ⟨b, ⟨-, busy, -⟩, -⟩
  · rwa [state]
  · simp [busy]

theorem runAllocator_eases (s : State) : s.Eases (runAllocator s) := by
  unfold runAllocator
  split
  · exact .refl s
  · next up =>
    have allocated : s.Eases (s.sidesInOrder.foldl allocateSide s) :=
      foldl_kept (P := s.Eases) (fun t sd ht => ht.trans (allocateSide_eases sd (ht.tends.up up))) _ s (.refl s)
    dsimp only
    split
    · exact allocated
    · exact allocated.trans (pickerChoose_eases _)

theorem afterTask_eases (s : State) : s.Eases (afterTask s) := (runAllocator_eases s).trans (pickerChoose_eases _)

theorem dropReservation_eases (d : DriveNo) (s : State) : s.Eases (dropReservation d s) := by
  refine State.Eases.trans (.drive d (fun r => { r with reserved := none }) rfl ?_ fun _ h => ⟨rfl, h.2⟩) ?_
  · exact fun ⟨a, b, c, e, g, h, _⟩ => ⟨a, b, c, e, g, h, rfl⟩
  · refine .of_surround ?_ rfl (fun _ => id) fun ⟨fault, queue, active, drives⟩ => ⟨⟨fault, ?_, active, drives⟩, rfl⟩
    · refine State.Changes.tends (f := True) (.single (.picker _ (.dropLoads _ fun k hk => ?_)))
      simp [hk]
    · exact congrArg (List.filter _) queue

theorem workJoin_eases (d : DriveNo) (w : Work) (s : State) : s.Eases (workJoin d w s) := by
  have joined : s.Eases (s.modDrive d fun r => { r with work := r.work ++ [w], linger := none }) :=
    .drive d _ rfl (fun ⟨a, b, _, e⟩ => ⟨a, b, rfl, e⟩) fun _ h => h
  unfold workJoin
  dsimp only
  split
  · have withdrawn := joined.trans (State.Eases.drive d (fun r => { r with releasePending := false }) rfl
      (fun ⟨a, b, c, _, e⟩ => ⟨a, b, c, rfl, e⟩) fun _ h => ⟨h.1, rfl⟩)
    split
    · exact withdrawn.trans ((dropReservation_eases d _).trans (runAllocator_eases _))
    · exact withdrawn
  · exact joined

theorem withdrawLoad_eases (sd : SideId) (s : State) : s.Eases (withdrawLoad sd s) := by
  unfold withdrawLoad
  split
  · exact .refl s
  · dsimp only
    split
    · exact .refl s
    · exact (foldl_eases (fun t d => dropReservation_eases d t) _ s).trans (runAllocator_eases _)

-- Runs and choices ------------------------------------------------------------------------------------------------

theorem endRun_eases (d : DriveNo) (s : State) : s.Eases (endRun d s) :=
  .drive d _ rfl (fun ⟨a, b, c, e, g, _, h⟩ => ⟨a, b, c, e, g, rfl, h⟩) fun _ h => h

/-- A drive at work goes on to another state of work. -/
theorem State.Eases.turn (d : DriveNo) (g : Drive → Drive) (hd : s.running d)
    (berth : (g s.drives[d]).berth = { s.drives[d].berth with phase := .idle })
    (unasked : (s.drives[d]).unasked → (g s.drives[d]).unasked) : s.Eases (s.modDrive d g) := by
  have phase : (s.drives[d]).state.phase = .idle := hd
  refine .drive d g (berth.trans ?_) (fun hs => ?_) fun _ => unasked
  · rw [← phase]
    rfl
  · rw [hs.1] at phase
    cases phase

/-- A change of the fetch queue in which no order becomes WAITING. -/
theorem State.Eases.fetch (g : Fetch → Fetch) (h : s.wanes (s.modFetch g)) : s.Eases (s.modFetch g) where
  tends := .of_eq rfl rfl (fun _ => rfl) rfl
  spent _ := id
  stilled hs := ⟨hs, rfl⟩
  orders := h
  holdings := rfl
  retries _ _ _ hr := hr

theorem State.Eases.order (n : Nat) (g : FetchOrder → FetchOrder)
    (hg : ∀ o, (g o).number = o.number ∧ (g o).loc = o.loc ∧ ((g o).state = .waiting → o.state = .waiting)) :
    s.Eases (s.modOrder n g) := by
  refine .fetch _ fun o ho => ?_
  obtain ⟨p, hp, rfl⟩ := List.mem_map.mp ho
  refine ⟨p, hp, ?_⟩
  split
  · exact ⟨(hg p).1.symm, (hg p).2.1.symm, (hg p).2.2⟩
  · exact ⟨rfl, rfl, id⟩

theorem beginWrite_eases {d : DriveNo} {n : Nat} {e : Location} (h : s.readyWrite d = some (n, e)) : s.Eases (beginWrite d n e s) := by
  obtain ⟨hand, -⟩ := State.readyWrite_iff.mp h
  have atWork := running_of_readyWrite h
  refine State.Eases.trans (t := (s.modLodgement n fun l => { l with state := .writing, attempts := l.attempts + 1 }).modFiling fun g =>
    { g with hand := some (n, .run) }) ⟨.of_eq rfl rfl (fun _ => rfl) rfl, fun _ => id, fun hs => ⟨hs, rfl⟩, .refl s, ?_, ?_⟩
    (.turn d _ atWork rfl id)
  · refine congrArg₂ (fun x y => { s.holdings with extents := x, asking := y }) ?_ ?_
    · simp only [State.modFiling_filing, State.modLodgement_filing, List.map_map]
      refine List.map_congr_left fun l _ => ?_
      simp only [Function.comp_apply]
      split <;> rfl
    · rw [hand]
      rfl
  · rintro c m a ⟨step, l, hstep, hl, extent, going⟩
    obtain ⟨rfl, rfl⟩ := Prod.mk.inj (Option.some.inj (hand.symm.trans hstep))
    obtain ⟨staged, attempts⟩ := (going.resolve_right fun h => nomatch h.1).2
    refine ⟨.run, { l with state := .writing, attempts := l.attempts + 1 }, rfl, ?_, extent, .inr ⟨rfl, rfl, congrArg (· + 1) attempts⟩⟩
    refine (State.lodgement?_modLodgement s n n (fun l => { l with state := .writing, attempts := l.attempts + 1 }) fun _ => rfl).trans ?_
    rw [hl, Option.map_some, if_pos rfl]

theorem settleIdle_eases {d : DriveNo} (hd : s.running d) : s.Eases (settleIdle d s) := by
  have idle : s.Eases (s.modDrive d fun r => { r with
      state := .idle, idleSince := if (s.drives[d]).state = .idle then r.idleSince else s.now, run := none }) :=
    .turn d _ hd rfl id
  unfold settleIdle
  dsimp only
  have asked := (idle.trans (lingerJudge_eases d _)).trans (State.Eases.ite (c := s.holdsLeaving s.drives[d] = true)
    (fun _ => askRelease_eases d _) fun _ => .refl _)
  exact (asked.trans (releaseUnrecorded_eases d _)).trans (.ite (fun _ => runAllocator_eases _) fun _ => .refl _)

theorem holdRead_eases {d : DriveNo} (hd : s.running d) : s.Eases (holdRead d s) := by
  unfold holdRead
  split
  · next h => exact beginWrite_eases h
  · exact .turn d _ hd rfl id

theorem chooseRead_eases {d : DriveNo} (hd : s.running d) (o : FetchOrder) : s.Eases (chooseRead d o s) := by
  unfold chooseRead
  split
  · exact State.Eases.trans (.order o.number (fun o => { o with state := .reading }) fun _ => ⟨rfl, rfl, nofun⟩) (.turn d _ hd rfl id)
  · unfold beginPageRead
    dsimp only
    split
    · exact holdRead_eases hd
    · split
      · next g' _ =>
        exact State.Eases.trans (t := s.modRing (driveRing d) fun _ => g') (.of_eq rfl rfl rfl rfl rfl) (.turn d _ hd rfl id)
      · exact holdRead_eases hd

theorem choose_eases {d : DriveNo} (hd : s.running d) : s.Eases (choose d s) := by
  unfold choose
  split
  · exact chooseRead_eases hd _
  · split
    · next h => exact beginWrite_eases h
    · split
      · exact chooseRead_eases hd _
      · exact settleIdle_eases hd

theorem chooseIfFree_eases (d : DriveNo) (s : State) : s.Eases (chooseIfFree d s) :=
  .ite (fun h => choose_eases (h.1.elim (congrArg DriveState.phase) (congrArg DriveState.phase))) fun _ => .refl s

theorem chooseIfStalled_eases (d : DriveNo) (s : State) : s.Eases (chooseIfStalled d s) :=
  .ite (fun h => choose_eases (congrArg DriveState.phase h.1)) fun _ => .refl s

theorem wakeLowered_eases (before s : State) : s.Eases (wakeLowered before s) :=
  forDrives_eases (fun d t => .ite (fun _ => chooseIfStalled_eases d t) fun _ => .refl t) s

-- Orders that fail ------------------------------------------------------------------------------------------------

theorem removeOrder_eases (n : Nat) (s : State) : s.Eases (removeOrder n s) := by
  refine State.Eases.trans (.fetch (fun q => { q with queue := q.queue.filter fun o => o.number ≠ n }) fun o ho =>
    ⟨o, List.mem_of_mem_filter ho, rfl, rfl, id⟩) (forDrives_eases (fun d t => .drive d _ rfl ?_ fun _ h => h) _)
  rintro ⟨a, b, c, e, g, run, h⟩
  exact ⟨a, b, c, e, g, congrArg (Option.map _) run, h⟩

theorem releaseOrder_eases (n : Nat) (s : State) : s.Eases (releaseOrder n s) :=
  forDrives_eases (fun d t => releaseIn_eases (driveRing d) _ t) s

theorem failOrder_eases (n : Nat) (reason : FailReason) (s : State) : s.Eases (failOrder n reason s) := by
  unfold failOrder
  split
  · exact .refl s
  · exact (removeOrder_eases n s).trans ((releaseOrder_eases n _).trans ((wakeLowered_eases _ _).trans
      ((queueNotice_eases _ _).trans (withdrawLoad_eases _ _))))

theorem failOrders_eases (ns : List Nat) (reason : FailReason) (s : State) : s.Eases (failOrders ns reason s) :=
  foldl_eases (fun t n => failOrder_eases n reason t) ns s

theorem removeWrite_eases (n : Nat) (s : State) : s.Eases (removeWrite n s) :=
  forDrives_eases (fun d _ => .drive d _ rfl id fun _ h => h) s

end Sys2Proof.Machine
end
-- ==== Proofs: what the write engine does not stir ====
section
/-!
SUPPORT for the faults, the mechanism reset and the failed attempts. The write engine, whatever side it passes to, revives no faulted
drive, stirs no picker in FAULT, makes no order WAITING, changes no role but to FULL, and leaves a barred cartridge alone: its sides,
and that no lodgement holds an extent on it.
-/
namespace Sys2Proof.Machine

variable {f : Prop} {s t u : State}

/-- A cartridge with no usable side: trapped, or not in the library (R48, R59). -/
def State.barred (s : State) (c : Nat) : Prop :=
  s.trapped c = true ∨ ∀ p ∈ (s.cart? c).map (fun r => r.place), p.inLibrary = false

/-- A barred cartridge that does not hold the active filing side. -/
def State.shuns (s : State) (c : Nat) : Prop := s.barred c ∧ ∀ x ∈ s.lib.active, x.cart ≠ c

/-- What the write engine's asking and taking leaves. -/
structure State.Seeks (s t : State) : Prop where
  tends   : s.Tends t
  spent   : ∀ d : DriveNo, (s.drives[d]).spent → (t.drives[d]).spent
  stilled : s.stilled → t.stilled ∧ t.picker.starts = s.picker.starts
  orders  : s.wanes t
  roles   : ∀ sd, (t.side? sd).map (fun r => r.role) = (s.side? sd).map (fun r => r.role) ∨
    (t.side? sd).map (fun r => r.role) = some .full
  shuns   : ∀ c, s.shuns c → (∀ x ∈ t.lib.active, x.cart ≠ c) ∧ (∀ side, t.side? ⟨c, side⟩ = s.side? ⟨c, side⟩) ∧
    ∀ n a, s.retries c n a → t.retries c n a

/-- A trapped cartridge stays trapped while the mechanics carry nothing but begun tasks. -/
theorem State.Tends.trapped (h : s.Tends t) {c : Nat} (hc : s.trapped c = true) : t.trapped c = true := by
  cases hs : s.cart? c with
  | none => simp [State.trapped, hs] at hc
  | some r =>
    obtain ⟨d, place, fault⟩ := (State.trapped_iff hs).mp hc
    have same := h.place c
    rw [hs, Option.map_some, Option.map_eq_some_iff] at same
    obtain ⟨q, hq, same⟩ := same
    refine (State.trapped_iff hq).mpr ⟨d, same.trans place, ?_⟩
    have phase : (s.drives[d]).berth.phase = .fault := congrArg DriveState.phase fault
    rcases h.berth d with stays | ⟨empty, -⟩
    · have faulted : (t.drives[d]).state.phase = .fault := (congrArg Berth.phase stays).trans phase
      revert faulted
      cases (t.drives[d]).state <;> simp [DriveState.phase]
    · exact nomatch phase.symm.trans empty

theorem State.Tends.barred (h : s.Tends t) {c : Nat} (hc : s.barred c) : t.barred c := by
  refine hc.imp h.trapped fun away => ?_
  rwa [h.place c]

theorem State.Seeks.trans (h : s.Seeks t) (k : t.Seeks u) : s.Seeks u where
  tends := h.tends.trans k.tends
  spent d hd := k.spent d (h.spent d hd)
  stilled hs :=
    have ⟨ht, starts⟩ := h.stilled hs
    have ⟨hu, starts'⟩ := k.stilled ht
    ⟨hu, starts'.trans starts⟩
  orders := h.orders.trans k.orders
  roles sd := by
    rcases k.roles sd with same | full
    · rw [same]
      exact h.roles sd
    · exact .inr full
  shuns c hc := by
    obtain ⟨active, sides, retries⟩ := h.shuns c hc
    obtain ⟨active', sides', retries'⟩ := k.shuns c ⟨h.tends.barred hc.1, active⟩
    exact ⟨active', fun side => (sides' side).trans (sides side), fun n a hr => retries' n a (retries n a hr)⟩

theorem State.Eases.seeks (h : s.Eases t) : s.Seeks t := by
  have lib : t.surround.lib = s.surround.lib := congrArg Holdings.lib h.holdings
  have active : t.lib.active = s.lib.active := (congrArg Library.active lib :)
  exact ⟨h.tends, h.spent, h.stilled, h.orders, fun sd => .inl (by rw [State.side?_of_lib lib]),
    fun c hc => ⟨fun x hx => hc.2 x (active ▸ hx), fun side => State.side?_of_lib lib _, fun n a => h.retries c n a⟩⟩

theorem State.Seeks.refl (s : State) : s.Seeks s := (State.Eases.refl s).seeks

-- The write engine's own changes ----------------------------------------------------------------------------------

/-- A change of the filing unit. -/
theorem State.Seeks.filing (g : Filing → Filing) (h : ∀ c n a, s.shuns c → s.retries c n a → (s.modFiling g).retries c n a) :
    s.Seeks (s.modFiling g) where
  tends := .of_eq rfl rfl (fun _ => rfl) rfl
  spent _ := id
  stilled hs := ⟨hs, rfl⟩
  orders := .refl s
  roles _ := .inl rfl
  shuns c hc := ⟨hc.2, fun _ => rfl, fun n a => h c n a hc⟩

theorem State.Seeks.lodgement (n : Nat) (g : Lodgement → Lodgement)
    (h : ∀ c k a, s.shuns c → s.retries c k a → (s.modLodgement n g).retries c k a) : s.Seeks (s.modLodgement n g) := .filing _ h

/-- The active filing side becomes the one the write engine receives, which lies on no barred cartridge (R48). -/
theorem State.filingSide_unbarred {sd : SideId} (h : s.filingSide = some sd) {c : Nat} (hc : s.shuns c) : sd.cart ≠ c := by
  rintro rfl
  unfold State.filingSide at h
  split at h
  · next active => exact hc.2 sd (active.trans h) rfl
  · have usable := List.find?_some h
    unfold State.usable at usable
    split at usable
    · next found =>
      rcases hc.1 with trapped | away
      · simp [trapped] at usable
      · rw [found] at away
        simp [away _ rfl] at usable
    · cases usable

theorem activate_seeks {sd : SideId} (h : s.filingSide = some sd) : s.Seeks (s.modLib fun l => { l with active := some sd }) where
  tends := .of_eq rfl rfl (fun _ => rfl) rfl
  spent _ := id
  stilled hs := ⟨hs, rfl⟩
  orders := .refl s
  roles _ := .inl rfl
  shuns c hc := ⟨fun x hx => by cases hx; exact State.filingSide_unbarred h hc, fun _ => rfl, fun _ _ hr => hr⟩

/-- The active filing side becomes FULL (R137). -/
theorem overflowSide_seeks {sd : SideId} (h : s.lib.active = some sd) : s.Seeks (overflowSide sd s) where
  tends := .of_eq (modSide_stands sd _ s) rfl (fun _ => rfl) rfl
  spent _ := id
  stilled hs := ⟨hs, rfl⟩
  orders := .refl s
  roles x := by
    have side : (overflowSide sd s).side? x = (s.side? x).map fun r => if x = sd then { r with role := .full } else r :=
      State.side?_modSide ..
    rw [side, Option.map_map]
    by_cases hx : x = sd
    · subst hx
      cases s.side? x with
      | none => exact .inl rfl
      | some r => exact .inr (by simp)
    · refine .inl ?_
      simp only [Function.comp_def, if_neg hx]
  shuns c hc := by
    refine ⟨nofun, fun side => ?_, fun _ _ hr => hr⟩
    have other : (⟨c, side⟩ : SideId) ≠ sd := fun e => hc.2 sd h (e ▸ rfl)
    refine (State.side?_modSide s sd ⟨c, side⟩ _).trans ?_
    simp only [if_neg other, Option.map_id']

/-- The extent of a lodgement that asks for a side, on the active filing side (R137). -/
theorem recordExtent_seeks {n : Nat} {e : Location} {sd : SideId} (h : s.lib.active = some sd) (he : e.cart = sd.cart) :
    s.Seeks (recordExtent n e s) := by
  refine State.Seeks.lodgement (s := s) n (fun l => { l with extent := some e }) fun c k a hc ⟨step, m, hand, hm, extent, going⟩ => ?_
  have found : (recordExtent n e s).lodgement? k = some (if k = n then { m with extent := some e } else m) := by
    refine (State.lodgement?_modLodgement s n k (fun l => { l with extent := some e }) fun _ => rfl).trans ?_
    rw [hm]
    rfl
  refine ⟨step, _, hand, found, ?_, ?_⟩
  · split
    · rintro x hx
      cases hx
      exact he ▸ hc.2 sd h
    · exact extent
  · split <;> exact going

/-- The lodgement in hand goes on from a step before its run to another (R137, R138). -/
theorem setStep_seeks {n : Nat} {k j : EngineStep} (hand : s.filing.hand = some (n, k)) (hk : k ≠ .run) (hj : j ≠ .run) :
    s.Seeks (setStep n j s) := by
  refine State.Seeks.filing (s := s) _ fun c i a _ ⟨step, m, hstep, hm, extent, going⟩ => ?_
  obtain ⟨rfl, rfl⟩ := Prod.mk.inj (Option.some.inj (hand.symm.trans hstep))
  exact ⟨j, m, rfl, hm, extent, .inl ⟨hj, (going.resolve_right fun h => hk h.1).2⟩⟩

theorem wantSpace_seeks (s : State) : s.Seeks (wantSpace s) := by
  unfold wantSpace
  split
  · exact .refl s
  · exact State.Seeks.trans (.filing (fun g => { g with wanting := true }) fun _ _ _ _ h => h) (queueNotice_eases _ _).seeks

-- Asking for a side -----------------------------------------------------------------------------------------------

/-- Seeking a drive for the side passes the lodgement in hand to DRIVE or READY, and goes on from there (R137, R138). -/
theorem seekDrive_eases (n : Nat) (sd : SideId) (s : State) :
    ∃ k, (k = .drive ∨ k = .ready) ∧ State.Eases (setStep n k s) (seekDrive n sd s) := by
  unfold seekDrive
  split
  · next d _ =>
    exact ⟨.ready, .inr rfl, (workJoin_eases d _ _).trans ((judgePins_eases _).trans ((chooseIfFree_eases d _).trans
      (runAllocator_eases _)))⟩
  · exact ⟨.drive, .inl rfl, runAllocator_eases _⟩

theorem seekDrive_seeks {n : Nat} (sd : SideId) (hand : s.filing.hand = some (n, .side)) : s.Seeks (seekDrive n sd s) := by
  obtain ⟨k, hk, eases⟩ := seekDrive_eases n sd s
  exact State.Seeks.trans (setStep_seeks hand nofun (by rcases hk with rfl | rfl <;> nofun)) eases.seeks

theorem judgePins_filing (s : State) : (judgePins s).filing = s.filing := State.filing_of_surround (judgePins_surround s)

theorem askSide_seeks (passes : Nat) (s : State) : s.Seeks (askSide passes s) := by
  induction passes generalizing s with
  | zero => exact .refl s
  | succ passes ih =>
    unfold askSide
    split
    · next n hand =>
      split
      · exact (wantSpace_seeks s).trans (((judgePins_eases _).trans (runAllocator_eases _)).seeks)
      · next sd hside =>
        have wanted := (activate_seeks hside).trans (State.Seeks.filing (fun g => { g with wanting := false }) fun _ _ _ _ h => h)
        dsimp only
        split
        · next l r found side =>
          split
          · refine wanted.trans (State.Seeks.trans (recordExtent_seeks (sd := sd) rfl rfl)
              (State.Seeks.trans (judgePins_eases _).seeks (seekDrive_seeks sd ?_)))
            rw [judgePins_filing]
            exact hand
          · exact wanted.trans (State.Seeks.trans (overflowSide_seeks rfl) (ih _))
        · exact wanted
    · exact .refl s

theorem engineAsk_seeks (s : State) : s.Seeks (engineAsk s) := askSide_seeks _ s

/-- With nothing in hand, taking a lodgement disturbs no retry. -/
theorem engineTake_seeks (s : State) : s.Seeks (engineTake s) := by
  unfold engineTake
  split
  · exact .refl s
  · next hand =>
    have idle : ∀ g : Filing → Filing, s.Seeks (s.modFiling g) := fun g => .filing g fun _ _ _ _ ⟨_, _, h, _⟩ => nomatch hand.symm.trans h
    split
    · exact State.Seeks.trans (idle _) (engineAsk_seeks _)
    · exact idle _

/-- The lodgement in hand gives up its extent before its run (R139). -/
theorem dropExtent_seeks {n : Nat} {k : EngineStep} (hand : s.filing.hand = some (n, k)) (hk : k ≠ .run) : s.Seeks (dropExtent n s) := by
  refine State.Seeks.trans (State.Seeks.trans (t := s.modLodgement n fun l => { l with extent := none, state := .staged }) ?_
    (setStep_seeks (j := .side) hand hk nofun)) (removeWrite_eases n _).seeks
  refine .lodgement n _ fun c i a _ ⟨step, m, hstep, hm, extent, going⟩ => ?_
  obtain ⟨rfl, rfl⟩ := Prod.mk.inj (Option.some.inj (hand.symm.trans hstep))
  have found := State.lodgement?_modLodgement s n n (fun l => { l with extent := none, state := .staged }) fun _ => rfl
  rw [hm, Option.map_some, if_pos rfl] at found
  exact ⟨k, _, hand, found, nofun, .inl ⟨hk, rfl, (going.resolve_right fun h => hk h.1).2.2⟩⟩

theorem activeLost_seeks (s : State) : s.Seeks (activeLost s) := by
  unfold activeLost
  split
  · next ready =>
    split
    · next n hn =>
      split
      · next e _ =>
        split
        · exact .refl s
        · obtain ⟨⟨_, k⟩, hand, rfl⟩ := Option.map_eq_some_iff.mp hn
          have step : k ≠ .run := by
            rintro rfl
            simp [Filing.readyForSide, hand] at ready
          exact (dropExtent_seeks hand step).trans (((judgePins_eases _).trans (withdrawLoad_eases _ _)).seeks.trans (engineAsk_seeks _))
      · exact .refl s
    · exact .refl s
  · exact .refl s

end Sys2Proof.Machine
end
-- ==== Proofs: a side changes its role ====
section
/-!
O22: SIDE_ROLE.
-/
namespace Sys2Proof.Machine

variable {s t : State} {tag : Byte}

-- The write engine asks with one side usable ------------------------------------------------------------------------

theorem State.usable_iff (s : State) (x : SideId) : s.usable x = true ↔ ∃ r, s.cart? x.cart = some r ∧ r.place.inLibrary = true ∧
    s.trapped x.cart = false ∧ s.isLeaving x.cart = false ∧ (s.side? x).map (fun r => r.role) = some .filing := by
  unfold State.usable State.side?
  cases s.cart? x.cart with
  | none => simp
  | some r => simp [and_assoc]

theorem State.mem_sides {x : SideId} {c : Cartridge} (h : s.cart? x.cart = some c) :
    x ∈ s.lib.carts.flatMap fun r => [SideId.mk r.number .A, SideId.mk r.number .B] := by
  obtain ⟨number, mem⟩ := State.cart?_spec h
  refine List.mem_flatMap.mpr ⟨c, mem, ?_⟩
  obtain ⟨_, side⟩ := x
  cases side <;> simp [number]

/-- With no active filing side and one usable side, that side is the one the engine receives (R48). -/
theorem State.filingSide_only {sd : SideId} (none_active : s.lib.active = none) (h : ∀ x, s.usable x = true ↔ x = sd) :
    s.filingSide = some sd := by
  obtain ⟨c, hc, -⟩ := (State.usable_iff s sd).mp ((h sd).mpr rfl)
  have found : s.filingSide = s.lowestUsable := by simp only [State.filingSide, none_active]
  obtain ⟨x, hx⟩ := Option.isSome_iff_exists.mp
    (List.find?_isSome.mpr ⟨sd, State.mem_sides hc, (h sd).mpr rfl⟩ : s.lowestUsable.isSome)
  have lowest : s.lowestUsable = some x := hx
  rw [found, lowest, (h x).mp (List.find?_some hx)]

/-- The active filing side takes the deed of the lodgement in hand (R137). -/
theorem engineAsk_fits {n : Nat} {l : Lodgement} {sd : SideId} {r : SideRecord} (hand : s.filing.hand = some (n, .side))
    (side : s.filingSide = some sd) (found : s.lodgement? n = some l) (hr : s.side? sd = some r)
    (fits : r.nextFree + 1 + l.held ≤ 262144) :
    engineAsk s = seekDrive n sd (judgePins (recordExtent n (l.extentOn sd r.nextFree)
      ((s.modLib fun l => { l with active := some sd }).modFiling fun g => { g with wanting := false }))) := by
  have found' : ((s.modLib fun l => { l with active := some sd }).modFiling fun g => { g with wanting := false }).lodgement? n = some l :=
    found
  have hr' : ((s.modLib fun l => { l with active := some sd }).modFiling fun g => { g with wanting := false }).side? sd = some r := hr
  have room : (l.extentOn sd r.nextFree).start + (l.extentOn sd r.nextFree).blocks ≤ Config.sideBlocks := by
    simp only [Lodgement.extentOn, Config.sideBlocks]
    omega
  simp only [engineAsk, askSide, hand, side, found', hr', if_pos room]

/-- An engine that waits in no step SIDE asks for nothing (R136). -/
theorem engineAsk_idle (h : ∀ n, s.filing.hand ≠ some (n, .side)) : engineAsk s = s := by
  unfold engineAsk askSide
  split
  · next n hand => exact absurd hand (h n)
  · rfl

theorem State.extentOf_holdings (s : State) (n : Nat) :
    (s.lodgement? n).map (fun m => m.extent) = (s.holdings.extents.find? fun x => x.1 = n).map fun x => x.2 := by
  simp only [State.holdings, List.find?_map, Option.map_map, State.lodgement?]
  rfl

/-- The lodgement whose side has been found leaves step SIDE with its extent (R137, R138). -/
theorem engineAsk_allots {n : Nat} {l : Lodgement} {sd : SideId} {r : SideRecord} (hand : s.filing.hand = some (n, .side))
    (side : s.filingSide = some sd) (found : s.lodgement? n = some l) (hr : s.side? sd = some r)
    (fits : r.nextFree + 1 + l.held ≤ 262144) :
    (engineAsk s).lib.active = some sd ∧ (∃ step, (engineAsk s).filing.hand = some (n, step) ∧ step ≠ .side) ∧
      ((engineAsk s).lodgement? n).map (fun m => m.extent) = some (some (l.extentOn sd r.nextFree)) := by
  rw [engineAsk_fits hand side found hr fits]
  generalize hv : recordExtent n (l.extentOn sd r.nextFree)
    ((s.modLib fun l => { l with active := some sd }).modFiling fun g => { g with wanting := false }) = v
  have active : v.lib.active = some sd := by rw [← hv]; rfl
  have extent : (v.lodgement? n).map (fun m => m.extent) = some (some (l.extentOn sd r.nextFree)) := by
    rw [← hv]
    refine (congrArg _ (State.lodgement?_modLodgement _ n n (fun m => { m with extent := some (l.extentOn sd r.nextFree) }) fun _ => rfl)).trans ?_
    have same : ((s.modLib fun l => { l with active := some sd }).modFiling fun g => { g with wanting := false }).lodgement? n = some l :=
      found
    rw [same, Option.map_some, Option.map_some, if_pos rfl]
  have pins := judgePins_surround v
  obtain ⟨k, hk, eases⟩ := seekDrive_eases n sd (judgePins v)
  have holdings := eases.holdings
  refine ⟨?_, ?_, ?_⟩
  · have lib := congrArg (fun h => h.lib.active) holdings
    have chosen : (setStep n k (judgePins v)).lib.active = v.lib.active := (State.active_of_surround pins :)
    exact (lib.trans chosen).trans active
  · obtain ⟨⟨m, step⟩, hs, he⟩ := Option.map_eq_some_iff.mp (congrArg Holdings.asking holdings)
    obtain ⟨rfl, asks⟩ := Prod.mk.inj he
    have moved : k ≠ .side := by rcases hk with rfl | rfl <;> nofun
    refine ⟨step, hs, ?_⟩
    rw [decide_eq_decide] at asks
    exact mt asks.mp moved
  · have extents : (seekDrive n sd (judgePins v)).holdings.extents = v.holdings.extents :=
      (congrArg Holdings.extents holdings).trans (congrArg (fun g => g.table.map fun l => (l.number, l.extent)) (judgePins_filing v))
    rw [State.extentOf_holdings, extents, ← State.extentOf_holdings, extent]

-- SIDE_ROLE -------------------------------------------------------------------------------------------------------

theorem exec_sideRole_served (hs : s.serves = true) (tag : Byte) (cart : Word16) (side role : Byte) :
    exec (.sideRole tag cart side role) s = .next (arbitrate (takeSideRole tag cart side role s)) :=
  congrArg Host.Outcome.next (offer_free (State.serves_spec hs).1)

/-- SIDE_ROLE of a recorded side, by the changes R57 permits. -/
theorem takeSideRole_found (hready : s.condition = .ready) {cart : Word16} {side role : Byte} {sd : Side} {new : Role} {r : SideRecord}
    (hside : sideOf side = some sd) (hrole : roleOf role = some new) (h1 : 1 ≤ cart.toNat) (h2 : cart.toNat ≤ 4095)
    (hr : s.side? ⟨cart.toNat, sd⟩ = some r) : takeSideRole tag cart side role s =
      if r.role = new then answer tag (.sideRole new new) s
      else if roleChange r.role new = false then answer tag (.refused .badField) s
      else if r.role = .filing ∧ s.extentOn ⟨cart.toNat, sd⟩ = true then answer tag (.refused .cartridgeBusy) s
      else answer tag (.sideRole r.role new) (changeRole ⟨cart.toNat, sd⟩ new s) := by
  have inRange : ¬ (cart.toNat = 0 ∨ Config.maxCartridgeNumber < cart.toNat) := by rw [Config.maxCartridgeNumber]; omega
  simp only [takeSideRole, screened_ready hready, hside, hrole, if_neg inRange, hr, refuse]

/-- A permitted change of role is made and answered (R57). -/
theorem exec_sideRole_changed (hs : s.serves = true) {cart : Word16} {side role : Byte} {sd : Side} {new : Role} {r : SideRecord}
    (hside : sideOf side = some sd) (hrole : roleOf role = some new) (h1 : 1 ≤ cart.toNat) (h2 : cart.toNat ≤ 4095)
    (hr : s.side? ⟨cart.toNat, sd⟩ = some r) (other : r.role ≠ new) (allowed : roleChange r.role new = true)
    (free : ¬ (r.role = .filing ∧ s.extentOn ⟨cart.toNat, sd⟩ = true)) : exec (.sideRole tag cart side role) s =
      .next (arbitrate (answer tag (.sideRole r.role new) (changeRole ⟨cart.toNat, sd⟩ new s))) := by
  rw [exec_sideRole_served hs, takeSideRole_found (State.serves_spec hs).2 hside hrole h1 h2 hr, if_neg other,
    if_neg (by simp [allowed]), if_neg free]

theorem side?_changed {x : SideId} {r : SideRecord} (hr : s.side? x = some r) (new : Role) :
    (s.modSide x fun q => { q with role := new }).side? x = some { r with role := new } := by
  rw [State.side?_modSide, hr, Option.map_some, if_pos rfl]

/-- A side given up for ARCHIVE, before its drive's pin is judged. -/
def archived (x : SideId) (s : State) : State :=
  (s.modSide x fun r => { r with role := .archive }).modLib fun l => { l with active := l.active.filter fun a => a ≠ x }

/-- A side becomes ARCHIVE: it is the active filing side no longer (R48, R57). -/
theorem changeRole_archive_surround (x : SideId) (s : State) : (changeRole x .archive s).surround = (archived x s).surround :=
  (runAllocator_surround _).trans (judgePins_surround _)

theorem answer_link_of_surround {u : State} (h : t.surround = u.surround) (link : u.link = s.link) (condition : u.condition = s.condition)
    (a : Answer) : (answer tag a t).link = (answer tag a s).link := by
  have link' : t.link = s.link := (congrArg Surround.link h).trans link
  have condition' : t.condition = s.condition := (congrArg (fun x => x.desk.condition) h).trans condition
  simp only [answer, State.modLink_link, link', condition']

theorem answer_port (port : t.link.port = s.link.port) (condition : t.condition = s.condition) (a : Answer) :
    (answer tag a t).link.port = (answer tag a s).link.port := by
  have composed : ∀ u : State, (answer tag a u).link.port = { u.link.port with
      decoder := .placing { tag := tag, answer := a, unformatted := decide (u.condition = .unformatted), recovery := false } } :=
    fun _ => rfl
  rw [composed, composed, port, condition]

/-- A side of a cartridge at hand becomes FILING: where no side was usable, it alone is (R48, R57). -/
theorem usable_changed {x : SideId} {r : SideRecord} {c : Cartridge} (hr : s.side? x = some r) (none_usable : ∀ y, s.usable y = false)
    (hc : s.cart? x.cart = some c) (inLib : c.place.inLibrary = true) (untrapped : s.trapped x.cart = false)
    (staying : s.isLeaving x.cart = false) (y : SideId) :
    (s.modSide x fun q => { q with role := .filing }).usable y = true ↔ y = x := by
  have carts : ∀ z, (s.modSide x fun q => { q with role := .filing }).cart? z =
      (s.cart? z).map fun q => if z = x.cart then q.modSide x.side fun q => { q with role := .filing } else q := fun z =>
    State.cart?_modCart s x.cart z _ fun q => Cartridge.modSide_number ..
  have place : ∀ (q : Cartridge) (g : SideRecord → SideRecord), (q.modSide x.side g).place = q.place := fun q g => by
    cases x.side <;> rfl
  have trapped : ∀ z, (s.modSide x fun q => { q with role := .filing }).trapped z = s.trapped z := fun z => by
    cases hz : s.cart? z with
    | none => simp [State.trapped, carts, hz]
    | some q =>
      have hz' := carts z
      rw [hz, Option.map_some] at hz'
      rw [State.trapped_eq hz, State.trapped_eq hz']
      split
      · rw [place]
        rfl
      · rfl
  rw [State.usable_iff]
  constructor
  · rintro ⟨q, hq, inLib', untrapped', staying', role⟩
    by_contra other
    rw [State.side?_modSide] at role
    simp only [if_neg other, Option.map_id'] at role
    rw [carts, Option.map_eq_some_iff] at hq
    obtain ⟨p, hp, rfl⟩ := hq
    have usable : s.usable y = true := by
      refine (State.usable_iff s y).mpr ⟨p, hp, ?_, trapped _ ▸ untrapped', staying', role⟩
      split at inLib'
      · rwa [place] at inLib'
      · exact inLib'
    simp [none_usable y] at usable
  · rintro rfl
    refine ⟨_, (carts y.cart).trans (by rw [hc, Option.map_some, if_pos rfl]), ?_, (trapped _).trans untrapped, staying, ?_⟩
    · rwa [place]
    · rw [side?_changed hr]
      rfl

/-- A side becomes FILING and the engine asks again (R57, R136). -/
theorem changeRole_filing (x : SideId) (s : State) :
    changeRole x .filing s = engineAsk (s.modSide x fun q => { q with role := .filing }) := rfl

theorem changeRole_filing_shell (x : SideId) (s : State) : (changeRole x .filing s).shell = s.shell :=
  (engineAsk_shell _).trans rfl

/-- The side keeps its figures, and is FILING, or FULL where the deed did not fit (R57, R137). -/
theorem changeRole_filing_side? {x : SideId} {r : SideRecord} (hr : s.side? x = some r) :
    ∃ q, (changeRole x .filing s).side? x = some q ∧ q.nextFree = r.nextFree ∧ q.defects = r.defects ∧ q.errors = r.errors ∧
      q.role ≠ .archive := by
  have changed := side?_changed hr .filing
  have figures : (changeRole x .filing s).figures x = some (r.nextFree, r.defects, r.errors) := by
    rw [changeRole_filing, engineAsk, (askSide_asks _ _).figures, State.figures, changed]
    rfl
  obtain ⟨q, hq, hfigures⟩ := Option.map_eq_some_iff.mp figures
  simp only [SideRecord.figures, Prod.mk.injEq] at hfigures
  obtain ⟨free, defects, errors⟩ := hfigures
  refine ⟨q, hq, free, defects, errors, fun archive => ?_⟩
  have roles := (engineAsk_seeks (s.modSide x fun q => { q with role := .filing })).roles x
  rw [← changeRole_filing, hq, changed, Option.map_some, archive] at roles
  simp at roles

/-- Settles O22, change by change. -/
theorem sideRoleChangesTheRole : Obligations.SideRoleChangesTheRole := by
  intro tag cart side role sd new r s hs hside hrole h1 h2 hr
  have taken := exec_sideRole_served hs tag cart side role
  rw [takeSideRole_found (State.serves_spec hs).2 hside hrole h1 h2 hr] at taken
  refine ⟨fun same => ?_, fun bad => ?_, fun hn hf busy => ?_, fun hn hf => ?_, fun hn ha => ?_⟩
  · rw [taken, if_pos same]
  · have other : r.role ≠ new := by
      rcases bad with ⟨rfl, hne⟩ | ⟨hfull, rfl⟩
      · exact hne
      · rw [hfull]
        nofun
    have barred : roleChange r.role new = false := by
      rcases bad with ⟨rfl, -⟩ | ⟨hfull, rfl⟩
      · cases r.role <;> rfl
      · rw [hfull]
        rfl
    rw [taken, if_neg other, if_pos barred]
  · subst hn
    rw [taken, hf, if_neg nofun, if_neg nofun, if_pos ⟨rfl, busy⟩]
  · subst hn
    have other : r.role ≠ .archive := by rcases hf with h | ⟨h, -⟩ <;> rw [h] <;> nofun
    have allowed : roleChange r.role .archive = true := by rcases hf with h | ⟨h, -⟩ <;> rw [h] <;> rfl
    have free : ¬ (r.role = .filing ∧ s.extentOn ⟨cart.toNat, sd⟩ = true) := fun ⟨hfiling, on⟩ => by
      rcases hf with h | ⟨-, off⟩
      · exact nomatch hfiling.symm.trans h
      · exact nomatch on.symm.trans off
    have around := changeRole_archive_surround ⟨cart.toNat, sd⟩ s
    have changed := exec_sideRole_changed (tag := tag) hs hside hrole h1 h2 hr other allowed free
    generalize changeRole ⟨cart.toNat, sd⟩ .archive s = v at around changed
    exact ⟨_, changed, congrArg Surround.desk around,
      answer_link_of_surround around rfl rfl _, congrArg Surround.fetch around, congrArg Surround.filing around,
      congrArg Surround.rings around, (State.side?_of_lib (congrArg Surround.lib around) _).trans (side?_changed hr .archive),
      State.active_of_surround around⟩
  · subst hn
    have other : r.role ≠ .filing := by rw [ha]; nofun
    have allowed : roleChange r.role .filing = true := by rw [ha]; rfl
    have changed := exec_sideRole_changed (tag := tag) hs hside hrole h1 h2 hr other allowed fun ⟨h, _⟩ => other h
    rw [ha] at changed
    have shell := changeRole_filing_shell ⟨cart.toNat, sd⟩ s
    have desk := desk_of_shell shell
    refine ⟨_, changed, desk, ?_, changeRole_filing_side? hr, fun n l c hand hl active idle hc inLib untrapped staying fits => ?_,
      fun idle => ?_⟩
    · exact answer_port (port_of_shell shell) (congrArg Desk.condition desk) _
    · have usable := usable_changed hr idle hc inLib untrapped staying
      exact engineAsk_allots (s := s.modSide ⟨cart.toNat, sd⟩ fun q => { q with role := .filing }) (r := { r with role := .filing }) hand
        (State.filingSide_only active usable) hl (side?_changed hr .filing) fits
    · exact congrArg (answer tag _) (engineAsk_idle idle)

end Sys2Proof.Machine
end
-- ==== Proofs: a second media error ====
section
/-!
O53, and what a failed order, a media error and the loss of the active filing side leave on the bench.
-/
namespace Sys2Proof.Machine

variable {s t : State}

-- Orders that fail ------------------------------------------------------------------------------------------------

theorem withdrawLoad_bench (sd : SideId) (s : State) : (withdrawLoad sd s).bench = s.bench := by
  unfold withdrawLoad
  split
  · rfl
  · dsimp only
    split
    · rfl
    · exact (runAllocator_bench _).trans (foldl_bench _ (fun t d => dropReservation_bench t d) _)

theorem wakeLowered_bench (before s : State) : (wakeLowered before s).bench = s.bench :=
  forDrives_bench _ fun d t => by
    split
    · exact chooseIfStalled_bench d t
    · rfl

theorem releaseOrder_bench (n : Nat) (s : State) : (releaseOrder n s).bench = s.bench :=
  forDrives_bench _ fun d t => State.modRing_bench t d _

theorem removeOrder_sameButDrives (n : Nat) (s : State) :
    State.sameButDrives (s.modFetch fun q => { q with queue := q.queue.filter fun o => o.number ≠ n }) (removeOrder n s) :=
  forDrives_sameButDrives (fun d t => t.modDrive_sameButDrives d _) _

theorem removeOrder_work (n : Nat) (s : State) (x : DriveNo) :
    ((removeOrder n s).drives[x]).work = (s.drives[x]).work.filter fun w => w ≠ .order n := by
  rw [removeOrder, State.forDrives, foldl_modDrive_get _ x _ _ (by decide), if_pos (by revert x; decide)]
  rfl

theorem queueNotice_link {n : Notice} (h : t.link = s.link) : (queueNotice n t).link = (queueNotice n s).link := by
  simp only [queueNotice, State.modLink_link, h]

theorem queueNotice_bench (n : Notice) (s : State) : (queueNotice n s).bench = { s.bench with link := (queueNotice n s).link } := rfl

/-- An order that fails leaves the queue and the work lists, and is noted (R118). -/
theorem failOrder_bench {n : Nat} {o : FetchOrder} (h : s.order? n = some o) (reason : FailReason) :
    (failOrder n reason s).bench = { s.bench with
      orders := (s.fetch.queue.map fun p => p.number).filter fun m => m ≠ n
      work := fun d => (s.drives[d]).work.filter fun w => w ≠ .order n
      link := (queueNotice (.orderFailed n reason (s.pagesSent o)) s).link } := by
  have woken : (wakeLowered (removeOrder n s) (releaseOrder n (removeOrder n s))).bench = (removeOrder n s).bench :=
    (wakeLowered_bench _ _).trans (releaseOrder_bench n _)
  have removed : (removeOrder n s).bench = { s.bench with
      orders := (s.fetch.queue.map fun p => p.number).filter fun m => m ≠ n
      work := fun d => (s.drives[d]).work.filter fun w => w ≠ .order n } := by
    have same := removeOrder_sameButDrives n s
    have work := funext (removeOrder_work n s)
    generalize removeOrder n s = u at same work
    rw [same]
    refine congrArg₂ (fun x y => { s.bench with orders := x, work := y }) ?_ work
    rw [List.filter_map]
    rfl
  have link := congrArg Bench.link (woken.trans removed)
  simp only [failOrder, h]
  refine (withdrawLoad_bench _ _).trans ?_
  rw [queueNotice_bench, woken, removed, queueNotice_link (s := s) link]

-- A media error counts --------------------------------------------------------------------------------------------

/-- A media error changes a side, the active filing side and the notices, and nothing else (R46). -/
theorem sideError_frame (sd : SideId) (s : State) :
    sideError sd s = { s with lib := (sideError sd s).lib, link := (sideError sd s).link } := by
  unfold sideError
  dsimp only
  split
  · split <;> rfl
  · rfl

theorem sideError_fetch (sd : SideId) (s : State) : (sideError sd s).fetch = s.fetch := by rw [sideError_frame]
theorem sideError_filing (sd : SideId) (s : State) : (sideError sd s).filing = s.filing := by rw [sideError_frame]

/-- A media error counts on its side, which is retired where it is a FILING side left at 8 or more (R46). -/
theorem sideError_side? {sd : SideId} {r : SideRecord} (h : s.side? sd = some r) :
    (sideError sd s).side? sd = some { r with
      role := if r.role = .filing ∧ 7 ≤ r.errors then .full else r.role
      errors := min 255 (r.errors + 1) } ∧
    (r.role = .filing → 7 ≤ r.errors → (sideError sd s).noted (.sideRetired sd.cart sd.side (min 255 (r.errors + 1)))) := by
  have counted : (s.modSide sd fun r => { r with errors := min Config.maxErrors (r.errors + 1) }).side? sd =
      some { r with errors := min 255 (r.errors + 1) } := by
    rw [State.side?_modSide, h, Option.map_some, if_pos rfl]
    rfl
  have retires : Config.retireErrors ≤ min 255 (r.errors + 1) ↔ 7 ≤ r.errors := by
    rw [Config.retireErrors]
    omega
  unfold sideError
  simp only [counted, retires]
  split
  · refine ⟨?_, fun _ _ => queueNotice_noted ..⟩
    have retired := State.side?_modSide (s.modSide sd fun r => { r with errors := min Config.maxErrors (r.errors + 1) }) sd sd
      fun r => { r with role := .full }
    rw [counted, Option.map_some, if_pos rfl] at retired
    exact retired
  · next h => exact ⟨counted, fun hf he => absurd ⟨hf, he⟩ h⟩

/-- A notice that is noted stays so when a side may be retired. -/
theorem sideError_noted {sd : SideId} {m : Notice} (hm : ∀ n, (Notice.sideRetired sd.cart sd.side n).sameSubject m = false)
    (h : s.noted m) : (sideError sd s).noted m := by
  unfold sideError
  dsimp only
  split
  · split
    · exact State.noted.queueNotice h (hm _)
    · exact h
  · exact h

-- The active filing side lost -------------------------------------------------------------------------------------

theorem dropExtent_spares (n : Nat) (s : State) : s.Spares (dropExtent n s) :=
  State.Spares.trans (s.modFiling_spares _) (State.Spares.trans (State.modFiling_spares _ _) (removeWrite_sameButDrives _ n).spares)

theorem activeLost_spares (s : State) : s.Spares (activeLost s) := by
  unfold activeLost
  split
  · split
    · next n _ =>
      split
      · split
        · exact .of_bench rfl
        · exact (dropExtent_spares n s).trans (State.Spares.trans (.of_bench ((withdrawLoad_bench _ _).trans (judgePins_bench _)))
            (askSide_asks _ _).toSpares)
      · exact .of_bench rfl
    · exact .of_bench rfl
  · exact .of_bench rfl

-- The obligation --------------------------------------------------------------------------------------------------

/-- What follows the error's counting on a drive at work: it leaves the figures, the orders' numbers and the notices. -/
theorem afterError_spares (d : DriveNo) (s : State) : s.Spares (choose d (activeLost (judgePins s))) :=
  State.Spares.trans (.of_bench (judgePins_bench s)) ((activeLost_spares _).trans (.of_bench (choose_bench _ d)))

/-- A side that an error has retired stays FULL (R46). -/
theorem afterError_full {d : DriveNo} (hd : s.running d) {sd : SideId} (h : (s.side? sd).map (fun r => r.role) = some .full) :
    ((choose d (activeLost (judgePins s))).side? sd).map (fun r => r.role) = some .full := by
  have lost := (judgePins_eases s).seeks.trans (activeLost_seeks _)
  have atWork : (activeLost (judgePins s)).running d :=
    State.Changes.running (m := True) (f := True) trivial (activeLost_changes.after judgePins_changes) d hd
  rcases (lost.trans (choose_eases atWork).seeks).roles sd with same | full
  · exact same.trans h
  · exact full

/-- The second media error on a read, part by part (R46, R115, R118). -/
theorem secondError_spec {d : DriveNo} {o : FetchOrder} (hd : s.running d) (ho : s.order? o.number = some o) :
    ∃ t, secondError d o s = arbitrate t ∧ t.desk = s.desk ∧ t.link.port = s.link.port ∧
      t.fetch.queue.map (fun p => p.number) = (s.fetch.queue.map fun p => p.number).filter (fun m => m ≠ o.number) ∧
      t.noted (.orderFailed o.number .media (s.pagesSent o)) ∧
      ∀ sr, s.side? o.loc.sideId = some sr →
        ∃ q, t.side? o.loc.sideId = some q ∧ q.errors = min 255 (sr.errors + 1) ∧ q.nextFree = sr.nextFree ∧
          q.defects = sr.defects ∧ (sr.role = .filing → 7 ≤ sr.errors → q.role = .full ∧
            t.noted (.sideRetired o.loc.cart o.loc.side (min 255 (sr.errors + 1)))) := by
  have failed := failOrder_bench (s := endRun d s) ho .media
  have fails := (endRun_eases d s).trans (failOrder_eases o.number .media _)
  have atWork : (sideError o.loc.sideId (failOrder o.number .media (endRun d s))).running d :=
    State.Changes.running (m := True) (f := True) trivial ((sideError_changes _).after ((failOrder_changes _ _).after
      (endRun_changes d))) d hd
  have shell : (choose d (activeLost (judgePins (sideError o.loc.sideId (failOrder o.number .media (endRun d s)))))).shell = s.shell := by
    simp
  have side : (failOrder o.number .media (endRun d s)).side? o.loc.sideId = s.side? o.loc.sideId :=
    State.side?_of_lib (congrArg Holdings.lib fails.holdings) _
  have failNoted : (failOrder o.number .media (endRun d s)).noted (.orderFailed o.number .media (s.pagesSent o)) := by
    have link := congrArg Bench.link failed
    unfold State.noted
    rw [show (failOrder o.number .media (endRun d s)).link = _ from link]
    exact queueNotice_noted ..
  have orders : (failOrder o.number .media (endRun d s)).fetch.queue.map (fun p => p.number) = _ := congrArg Bench.orders failed
  refine ⟨_, rfl, desk_of_shell shell, port_of_shell shell, ?_⟩
  generalize failOrder o.number .media (endRun d s) = u at side failNoted orders atWork
  have spares := afterError_spares d (sideError o.loc.sideId u)
  refine ⟨?_, ?_, fun sr hsr => ?_⟩
  · rw [spares.orders, sideError_fetch, orders]
    rfl
  · exact spares.noted _ (fun _ => rfl) (sideError_noted (fun _ => rfl) failNoted)
  · obtain ⟨counted, retired⟩ := sideError_side? (side.trans hsr)
    have figures := congrFun spares.figures o.loc.sideId
    rw [State.figures, State.figures, counted, Option.map_some, Option.map_eq_some_iff] at figures
    obtain ⟨q, hq, same⟩ := figures
    simp only [SideRecord.figures, Prod.mk.injEq] at same
    obtain ⟨free, defects, errors⟩ := same
    refine ⟨q, hq, errors, free, defects, fun hf he => ⟨?_, spares.noted _ (fun _ => rfl) (retired hf he)⟩⟩
    have full := afterError_full atWork (sd := o.loc.sideId) (by rw [counted, Option.map_some, if_pos ⟨hf, he⟩])
    rw [hq] at full
    exact Option.some.inj full

/-- Settles O53: the first error marks the order, the second fails it. -/
theorem secondMediaErrorFailsTheOrder : Obligations.SecondMediaErrorFailsTheOrder := by
  intro d u o s hstate hrun hlive ho
  have run : s.runIn d .reading = some u := (if_pos hstate).trans hrun
  obtain ⟨number, -⟩ := State.order?_spec ho
  have read : exec (.mediaError d) s = .next (if o.erred then secondError d o s else s.modOrder u.owner fun o => { o with erred := true }) := by
    refine congrArg Host.Outcome.next ?_
    simp only [mediaError, run, hlive, if_true, readError, ho]
  refine ⟨fun erred => ?_, fun erred => ?_⟩
  · rw [read, erred]
    rfl
  · obtain ⟨t, second, rest⟩ := secondError_spec (d := d) (congrArg DriveState.phase hstate) (number ▸ ho)
    refine ⟨t, ?_, rest⟩
    rw [read, if_pos erred, second]

end Sys2Proof.Machine
end
-- ==== Proofs: a failed attempt ====
section
/-!
O34, and what follows any failed attempt: the retry, or the failure of the lodgement (R144 to R147).
-/
namespace Sys2Proof.Machine

variable {s t : State}

/-- The desk and the port of a state with another count of reserved places. -/
def State.shellWith (s : State) (reserved : Nat) : Desk × Link := ({ s.desk with dir := { s.dir with reserved := reserved } }, s.link.port)

theorem State.surround_lib (h : t.lib = s.lib) : t.surround.lib = s.surround.lib := by simp only [State.surround, h]

-- A lodgement ends ------------------------------------------------------------------------------------------------

/-- A lodgement that ends without a commit changes the reservation, the filing ring, the table, the hand and the work lists. -/
theorem endLodgement_frame (l : Lodgement) (s : State) : endLodgement l s = { s with
    dir := (endLodgement l s).dir
    rings := (endLodgement l s).rings
    filing := (endLodgement l s).filing
    drives := (endLodgement l s).drives } := by
  have given : dropReserved l.kind s = { s with dir := (dropReserved l.kind s).dir } := by
    unfold dropReserved
    split <;> rfl
  have gone : ∀ (n : Nat) (u : State), letGo n u = { u with filing := (letGo n u).filing, drives := (letGo n u).drives } := fun n u => by
    unfold letGo
    split
    · have same := removeWrite_sameButDrives (u.modFiling fun g => { g with hand := none }) n
      generalize removeWrite n (u.modFiling fun g => { g with hand := none }) = w at same
      rw [same]
      rfl
    · rfl
  unfold endLodgement
  generalize dropReserved l.kind s = u at given
  have let_go := gone l.number (leaveTable l.number u)
  generalize letGo l.number (leaveTable l.number u) = w at let_go
  rw [let_go, given]
  rfl

theorem endLodgement_lib (l : Lodgement) (s : State) : (endLodgement l s).lib = s.lib := by rw [endLodgement_frame]
theorem endLodgement_link (l : Lodgement) (s : State) : (endLodgement l s).link = s.link := by rw [endLodgement_frame]

/-- The reservation of an adding kind is returned (R9). -/
theorem endLodgement_shell (l : Lodgement) (s : State) :
    (endLodgement l s).shell = s.shellWith (s.dir.reserved - if l.kind.adds.isSome then 1 else 0) := by
  have returned : (dropReserved l.kind s).shell = s.shellWith (s.dir.reserved - if l.kind.adds.isSome then 1 else 0) := by
    unfold dropReserved
    split
    · next k hk =>
      rw [hk]
      rfl
    · next hk =>
      rw [hk]
      rfl
  rw [← returned]
  simp [endLodgement]

/-- The entries of a lodgement that has ended are LIVE only while they stream (R130). -/
theorem endLodgement_pages (l : Lodgement) (s : State) : (endLodgement l s).rings[filingRing] =
    (s.rings[filingRing]).release (s.modulus filingRing) fun x => decide (x.owner = l.number) := by
  have returned : (dropReserved l.kind s).rings = s.rings ∧ (dropReserved l.kind s).cfg = s.cfg := by
    unfold dropReserved
    split <;> exact ⟨rfl, rfl⟩
  have released : (leaveTable l.number (dropReserved l.kind s)).rings[filingRing] =
      (releaseLodgement l.number (dropReserved l.kind s)).rings[filingRing] := rfl
  rw [endLodgement, (letGo_spares _ _).pages, released, releaseLodgement, releaseIn_get, State.modulus, returned.1, returned.2]
  rfl

/-- With the lodgement in hand ended, nothing is in hand and the table has none of its number (R130, R135). -/
theorem endLodgement_filing {l : Lodgement} (h : s.inHand = some l.number) : (endLodgement l s).filing = { s.filing with
    table := s.filing.table.filter fun m => m.number ≠ l.number
    hand := none } := by
  have returned : (dropReserved l.kind s).filing = s.filing := by
    unfold dropReserved
    split <;> rfl
  have filed : (leaveTable l.number (dropReserved l.kind s)).filing =
      { s.filing with table := s.filing.table.filter fun m => m.number ≠ l.number } := by
    rw [← returned]
    rfl
  have taken : (leaveTable l.number (dropReserved l.kind s)).inHand = some l.number := by
    rw [State.inHand, filed]
    exact h
  rw [endLodgement, (letGo_inHand taken).1, filed]

-- What follows a failed attempt -----------------------------------------------------------------------------------

/-- The failure of the lodgement in hand, up to the next one's taking (R147). -/
def failLodgement (l : Lodgement) (reason : LodgeFailReason) (s : State) : State :=
  judgePins (queueNotice (.lodgementFailed l.number l.title reason) (endLodgement l s))

theorem afterAttempt_retry {n : Nat} {l : Lodgement} (h : s.lodgement? n = some l) (ha : l.attempts < 2) (reason : LodgeFailReason) :
    afterAttempt n reason s = engineAsk s := by
  simp only [afterAttempt, h, if_pos ha]

theorem afterAttempt_last {n : Nat} {l : Lodgement} (h : s.lodgement? n = some l) (ha : 2 ≤ l.attempts) (reason : LodgeFailReason) :
    afterAttempt n reason s = engineTake (failLodgement l reason s) := by
  obtain ⟨rfl, -⟩ := State.lodgement?_spec h
  simp only [afterAttempt, h, if_neg (Nat.not_lt.mpr ha), failLodgement]

theorem failLodgement_lib (l : Lodgement) (reason : LodgeFailReason) (s : State) :
    (failLodgement l reason s).surround.lib = s.surround.lib := by
  have pins := judgePins_surround (queueNotice (.lodgementFailed l.number l.title reason) (endLodgement l s))
  exact (congrArg Surround.lib pins).trans (State.surround_lib (endLodgement_lib l s))

theorem failLodgement_link (l : Lodgement) (reason : LodgeFailReason) (s : State) :
    (failLodgement l reason s).link = (queueNotice (.lodgementFailed l.number l.title reason) s).link :=
  (congrArg Bench.link (judgePins_bench _)).trans (queueNotice_link (endLodgement_link l s))

theorem failLodgement_filing {l : Lodgement} (reason : LodgeFailReason) (h : s.inHand = some l.number) :
    (failLodgement l reason s).filing = { s.filing with
      table := s.filing.table.filter fun m => m.number ≠ l.number
      hand := none } :=
  (judgePins_filing _).trans (endLodgement_filing h)

theorem failLodgement_shell (l : Lodgement) (reason : LodgeFailReason) (s : State) :
    (failLodgement l reason s).shell = s.shellWith (s.dir.reserved - if l.kind.adds.isSome then 1 else 0) := by
  rw [← endLodgement_shell]
  simp [failLodgement]

/-- After a failed attempt the desk stands but for the reservation (R146, R147). -/
theorem afterAttempt_shell {n : Nat} {l : Lodgement} (h : s.lodgement? n = some l) (reason : LodgeFailReason) :
    (afterAttempt n reason s).shell =
      s.shellWith (if l.attempts < 2 then s.dir.reserved else s.dir.reserved - if l.kind.adds.isSome then 1 else 0) := by
  by_cases ha : l.attempts < 2
  · rw [afterAttempt_retry h ha, if_pos ha, engineAsk_shell]
    rfl
  · rw [afterAttempt_last h (Nat.not_lt.mp ha), if_neg ha, engineTake_shell, failLodgement_shell]

/-- After a failed attempt the table stands but for a lodgement that has failed (R146, R147). -/
theorem afterAttempt_numbers {n : Nat} {l : Lodgement} (h : s.lodgement? n = some l) (taken : s.inHand = some n)
    (reason : LodgeFailReason) : ((afterAttempt n reason s).filing.table.map fun m => m.number) =
      if l.attempts < 2 then s.filing.table.map fun m => m.number
      else (s.filing.table.map fun m => m.number).filter fun m => m ≠ n := by
  obtain ⟨rfl, -⟩ := State.lodgement?_spec h
  rw [← State.claims_map_number]
  by_cases ha : l.attempts < 2
  · rw [afterAttempt_retry h ha, if_pos ha, engineAsk_claims, State.claims_map_number]
  · rw [afterAttempt_last h (Nat.not_lt.mp ha), if_neg ha, engineTake_claims, State.claims_map_number, failLodgement_filing reason taken,
      List.filter_map]
    rfl

/-- What a failed attempt's end leaves of the sides' figures and of the notices. -/
theorem afterAttempt_figures {n : Nat} {l : Lodgement} (h : s.lodgement? n = some l) (reason : LodgeFailReason) :
    (afterAttempt n reason s).figures = s.figures := by
  by_cases ha : l.attempts < 2
  · rw [afterAttempt_retry h ha]
    exact (askSide_asks _ _).figures
  · rw [afterAttempt_last h (Nat.not_lt.mp ha), (engineTake_spares _).figures]
    funext sd
    rw [State.figures, State.figures, State.side?_of_lib (failLodgement_lib l reason s)]

theorem afterAttempt_noted {n : Nat} {l : Lodgement} (h : s.lodgement? n = some l) {reason : LodgeFailReason} {m : Notice}
    (space : ∀ k, (Notice.noFilingSpace k).sameSubject m = false)
    (failed : (Notice.lodgementFailed l.number l.title reason).sameSubject m = false) (hm : s.noted m) :
    (afterAttempt n reason s).noted m := by
  by_cases ha : l.attempts < 2
  · rw [afterAttempt_retry h ha]
    exact (askSide_asks _ _).noted m space hm
  · rw [afterAttempt_last h (Nat.not_lt.mp ha)]
    refine (engineTake_spares _).noted m space ?_
    have queued := State.noted.queueNotice hm failed
    rw [State.noted] at queued ⊢
    rwa [failLodgement_link]

/-- A side that is FULL stays so. -/
theorem afterAttempt_full {n : Nat} {l : Lodgement} (h : s.lodgement? n = some l) (reason : LodgeFailReason) {sd : SideId}
    (full : (s.side? sd).map (fun r => r.role) = some .full) :
    ((afterAttempt n reason s).side? sd).map (fun r => r.role) = some .full := by
  by_cases ha : l.attempts < 2
  · rw [afterAttempt_retry h ha]
    rcases (engineAsk_seeks s).roles sd with same | done
    · exact same.trans full
    · exact done
  · rw [afterAttempt_last h (Nat.not_lt.mp ha)]
    rcases (engineTake_seeks (failLodgement l reason s)).roles sd with same | done
    · rw [same, State.side?_of_lib (failLodgement_lib l reason s)]
      exact full
    · exact done

/-- A lodgement that may be tried again stays in hand (R146). -/
theorem afterAttempt_inHand {n : Nat} {l : Lodgement} (h : s.lodgement? n = some l) (ha : l.attempts < 2) (taken : s.inHand = some n)
    (reason : LodgeFailReason) : (afterAttempt n reason s).inHand = some n := by
  rw [afterAttempt_retry h ha]
  exact (askSide_asks _ _).inHand.trans taken

/-- A lodgement that has failed is noted and leaves the hand, and its pages are released (R147). -/
theorem afterAttempt_failed {n : Nat} {l : Lodgement} (h : s.lodgement? n = some l) (ha : 2 ≤ l.attempts) (taken : s.inHand = some n)
    (reason : LodgeFailReason) : (afterAttempt n reason s).noted (.lodgementFailed n l.title reason) ∧
      (afterAttempt n reason s).inHand ≠ some n ∧
      ∀ x ∈ ((afterAttempt n reason s).rings[filingRing]).entries, x.owner = n → x.live = true → x.streaming = true := by
  rw [afterAttempt_last h ha]
  obtain ⟨rfl, -⟩ := State.lodgement?_spec h
  have filing := failLodgement_filing reason taken
  have noted : (failLodgement l reason s).noted (.lodgementFailed l.number l.title reason) := by
    rw [State.noted, failLodgement_link]
    exact queueNotice_noted ..
  refine ⟨(engineTake_spares _).noted _ (fun _ => rfl) noted, ?_, fun x hx => ?_⟩
  · have empty : (failLodgement l reason s).inHand = none := by rw [State.inHand, filing]; rfl
    rcases engineTake_cases (failLodgement l reason s) with ⟨asks, -⟩ | ⟨m, hnext, asks⟩
    · rw [asks.inHand, empty]
      nofun
    · have held := (State.nextStaged_some hnext).1
      rw [filing, List.mem_filter, decide_eq_true_eq] at held
      have now : (engineTake (failLodgement l reason s)).inHand = some m.number := asks.inHand
      rw [now]
      exact fun e => held.2 (Option.some.inj e)
  · have pages : (engineTake (failLodgement l reason s)).rings[filingRing] = (endLodgement l s).rings[filingRing] :=
      (engineTake_spares _).pages.trans (congrArg Bench.pages (judgePins_bench _))
    rw [pages, endLodgement_pages] at hx
    exact PageRing.release_streaming hx

-- A failed attempt on a drive -------------------------------------------------------------------------------------

/-- The lodgement in hand has given up its extent (R139, R144). -/
theorem dropExtent_filing (n : Nat) (s : State) : (dropExtent n s).filing = { s.filing with
    table := s.filing.table.map fun l => if l.number = n then { l with extent := none, state := .staged } else l
    hand := some (n, .side) } :=
  congrArg State.filing (removeWrite_sameButDrives _ n)

theorem removeWrite_lib (n : Nat) (s : State) : (removeWrite n s).lib = s.lib := by rw [removeWrite_sameButDrives s n]

theorem dropExtent_lib (n : Nat) (s : State) : (dropExtent n s).lib = s.lib := removeWrite_lib n _

theorem dropExtent_lodgement? {n : Nat} {l : Lodgement} (h : s.lodgement? n = some l) :
    (dropExtent n s).lodgement? n = some { l with extent := none, state := .staged } := by
  have found := State.lodgement?_modLodgement s n n (fun l => { l with extent := none, state := .staged }) fun _ => rfl
  rw [h, Option.map_some, if_pos rfl] at found
  rw [State.lodgement?, dropExtent_filing]
  exact found

/-- The attempt up to what follows it: the region given up, the error counted, the extent dropped (R144). -/
def attemptLost (d : DriveNo) (n : Nat) (e : Location) (s : State) : State :=
  judgePins (dropExtent n (endRun d (sideError e.sideId (giveUp e s))))

theorem failAttempt_eq (d : DriveNo) (l : Lodgement) (e : Location) (s : State) :
    failAttempt d l e s = choose d (afterAttempt l.number .media (attemptLost d l.number e s)) := rfl

theorem attemptLost_filing (d : DriveNo) (n : Nat) (e : Location) (s : State) :
    (attemptLost d n e s).filing = (dropExtent n s).filing := by
  have counted : (sideError e.sideId (giveUp e s)).filing = s.filing := sideError_filing ..
  rw [attemptLost, judgePins_filing, dropExtent_filing, dropExtent_filing, ← counted]
  rfl

theorem attemptLost_shell (d : DriveNo) (n : Nat) (e : Location) (s : State) : (attemptLost d n e s).shell = s.shell := by
  simp [attemptLost]

theorem attemptLost_spares (d : DriveNo) (n : Nat) (e : Location) (s : State) :
    State.Spares (sideError e.sideId (giveUp e s)) (attemptLost d n e s) :=
  State.Spares.trans (.of_bench (endRun_bench _ d)) ((dropExtent_spares n _).trans (.of_bench (judgePins_bench _)))

theorem attemptLost_lib (d : DriveNo) (n : Nat) (e : Location) (s : State) :
    (attemptLost d n e s).surround.lib = (State.surround (sideError e.sideId (giveUp e s))).lib := by
  refine (congrArg Surround.lib (judgePins_surround _)).trans (State.surround_lib ((dropExtent_lib n _).trans ?_))
  rfl

/-- The failed attempt, part by part (R144, R146, R147). -/
theorem failAttempt_spec {d : DriveNo} (hd : s.running d) {l : Lodgement} {e : Location} {sr : SideRecord}
    (hl : s.lodgement? l.number = some l) (he : l.extent = some e) (hsr : s.side? e.sideId = some sr) :
    ∃ t, failAttempt d l e s = t ∧ t.link.port = s.link.port ∧ t.desk = { s.desk with dir := t.dir } ∧
      t.dir = { s.dir with reserved := t.dir.reserved } ∧
      (∃ x, t.side? e.sideId = some x ∧ x.nextFree = e.start + e.blocks ∧ x.defects = sr.defects + e.blocks ∧
        x.errors = min 255 (sr.errors + 1)) ∧
      (sr.role = .filing → 7 ≤ sr.errors →
        t.noted (.sideRetired e.cart e.side (min 255 (sr.errors + 1))) ∧
          (t.side? e.sideId).map (fun x => x.role) = some .full) ∧
      (l.attempts < 2 → t.dir.reserved = s.dir.reserved ∧
        (t.filing.table.map fun m => m.number) = (s.filing.table.map fun m => m.number) ∧
        ∃ step, t.filing.hand = some (l.number, step)) ∧
      (2 ≤ l.attempts → t.dir.reserved = s.dir.reserved - (if l.kind.adds.isSome then 1 else 0) ∧
        t.filing.table.map (fun m => m.number) =
          (s.filing.table.map fun m => m.number).filter (fun m => m ≠ l.number) ∧
        t.noted (.lodgementFailed l.number l.title .media)) := by
  have given : (giveUp e s).side? e.sideId = some { sr with nextFree := e.start + e.blocks, defects := sr.defects + e.blocks } := by
    rw [giveUp, State.side?_modSide, hsr, Option.map_some, if_pos rfl]
  obtain ⟨counted, retired⟩ := sideError_side? given
  have lostFiling := attemptLost_filing d l.number e s
  have found : (attemptLost d l.number e s).lodgement? l.number = some { l with extent := none, state := .staged } := by
    rw [State.lodgement?, lostFiling]
    exact dropExtent_lodgement? hl
  have taken : (attemptLost d l.number e s).inHand = some l.number := by
    rw [State.inHand, lostFiling, dropExtent_filing]
    rfl
  have numbers : ((attemptLost d l.number e s).filing.table.map fun m => m.number) = s.filing.table.map fun m => m.number := by
    rw [lostFiling, ← State.claims_map_number, dropExtent_claims, State.claims_map_number]
  have atWork : (afterAttempt l.number .media (attemptLost d l.number e s)).running d := by
    have lost : State.Changes True False s (attemptLost d l.number e s) :=
      (judgePins_changes.after ((dropExtent_changes id _).after (endRun_changes d))).after ((sideError_changes _).after
        (passSide_changes id (State.lodgement?_spec hl).2 he _ (fun _ => rfl) fun _ => ⟨rfl, rfl⟩))
    exact ((afterAttempt_changes id _ _).after lost).running trivial d hd
  have lostSpares := attemptLost_spares d l.number e s
  have shell := afterAttempt_shell found .media
  rw [← choose_shell _ d, ← failAttempt_eq] at shell
  have desk := (desk_of_shell (attemptLost_shell d l.number e s))
  have dir : (attemptLost d l.number e s).dir = s.dir := congrArg Desk.dir desk
  rw [State.shellWith, desk, dir, port_of_shell (attemptLost_shell d l.number e s)] at shell
  have chosen : State.Spares _ (failAttempt d l e s) := .of_bench (choose_bench (afterAttempt l.number .media (attemptLost d l.number e s)) d)
  have claims : (failAttempt d l e s).filing.table.map (fun m => m.number) =
      (afterAttempt l.number .media (attemptLost d l.number e s)).filing.table.map fun m => m.number := by
    rw [← State.claims_map_number, failAttempt_eq, choose_claims, State.claims_map_number]
  rw [afterAttempt_numbers found taken, numbers] at claims
  have newDesk : (failAttempt d l e s).desk = _ := congrArg Prod.fst shell
  have newDir : (failAttempt d l e s).dir = _ := congrArg Desk.dir newDesk
  refine ⟨_, rfl, congrArg Prod.snd shell, by rw [newDesk, newDir], by rw [newDir], ?_, fun hf h7 => ⟨?_, ?_⟩, fun ha => ⟨?_, ?_, ?_⟩,
    fun ha => ⟨?_, ?_, ?_⟩⟩
  · have figures := congrFun (chosen.figures.trans ((afterAttempt_figures found .media).trans lostSpares.figures)) e.sideId
    rw [State.figures, State.figures, counted, Option.map_some, Option.map_eq_some_iff] at figures
    obtain ⟨x, hx, same⟩ := figures
    simp only [SideRecord.figures, Prod.mk.injEq] at same
    exact ⟨x, hx, same⟩
  · exact chosen.noted _ (fun _ => rfl) (afterAttempt_noted found (fun _ => rfl) rfl (lostSpares.noted _ (fun _ => rfl) (retired hf h7)))
  · have full : ((attemptLost d l.number e s).side? e.sideId).map (fun x => x.role) = some .full := by
      rw [State.side?_of_lib (attemptLost_lib d l.number e s), counted, Option.map_some, if_pos ⟨hf, h7⟩]
    rcases (choose_eases atWork).seeks.roles e.sideId with same | done
    · exact same.trans (afterAttempt_full found .media full)
    · exact done
  · rw [newDir, if_pos ha]
  · rw [claims, if_pos ha]
  · have hand := afterAttempt_inHand found ha taken .media
    exact State.hand_of_inHand ((congrArg Bench.inHand (choose_bench _ d)).trans hand)
  · rw [newDir, if_neg (Nat.not_lt.mpr ha)]
  · rw [claims, if_neg (Nat.not_lt.mpr ha)]
  · exact chosen.noted _ (fun _ => rfl) (afterAttempt_failed found ha taken .media).1

theorem State.filingRun_of {d : DriveNo} {u : Run} (state : (s.drives[d]).state = .writing ∨ (s.drives[d]).state = .verifying)
    (hrun : (s.drives[d]).run = some u) : s.filingRun d = some u := by
  rcases state with h | h
  · have writes : s.runIn d .writing = some u := (if_pos h).trans hrun
    simp only [State.filingRun, writes]
  · have idle : s.runIn d .writing = none := if_neg (by rw [h]; nofun)
    have verifies : s.runIn d .verifying = some u := (if_pos h).trans hrun
    simp only [State.filingRun, idle, verifies]

/-- Settles O34: the run's lodgement fails its attempt, whichever event reports it. -/
theorem failedAttemptGivesUpTheRegion : Obligations.FailedAttemptGivesUpTheRegion := by
  intro d u l e sr i s hrun hlive hl he hsr hi
  obtain ⟨number, -⟩ := State.lodgement?_spec hl
  have lodgement : s.runLodgement d = some (l, e) := by simp only [State.runLodgement, hrun, hl, he, Option.map_some]
  have atWork : s.running d := by
    rcases hi with ⟨-, h | h⟩ | ⟨-, -, h, -⟩ <;> exact congrArg DriveState.phase h
  obtain ⟨t, rfl, rest⟩ := failAttempt_spec atWork (number ▸ hl) he hsr
  refine ⟨_, ?_, rest⟩
  rcases hi with ⟨rfl, state⟩ | ⟨readBack, rfl, state, wrong⟩
  · refine congrArg Host.Outcome.next ?_
    simp only [writeError, State.filingRun_of state hrun, hlive, if_true, failRun, lodgement]
  · have run : s.runIn d .verifying = some u := (if_pos state).trans hrun
    have mismatch : s.verifies l readBack = false := by
      simp only [State.verifies, Bool.and_eq_false_iff, decide_eq_false_iff_not]
      exact wrong
    refine congrArg Host.Outcome.next ?_
    simp only [verifyCompletion, run, hlive, if_true, verified, lodgement, mismatch]
    rfl

end Sys2Proof.Machine
end
-- ==== Proofs: picks, occupied slots and the mail slot ====
section
/-!
O49: the pick completions, the occupied target slots and the mail slot sensor.
-/
namespace Sys2Proof.Machine

variable {s t : State}

-- Picks -----------------------------------------------------------------------------------------------------------

/-- Judging a pin changes a drive's timers and marks alone (R70). -/
theorem judgePin_frame (d : DriveNo) (s : State) :
    (judgePin d s).picker = s.picker ∧ (judgePin d s).lib = s.lib ∧
      ((judgePin d s).drives[d]).state = (s.drives[d]).state ∧ ((judgePin d s).drives[d]).mounted = (s.drives[d]).mounted := by
  unfold judgePin lingerJudge
  dsimp only
  repeat' split
  · rw [State.modDrive_get, if_pos rfl]
    exact ⟨rfl, rfl, rfl, rfl⟩
  · rw [State.modDrive_get, if_pos rfl, State.modDrive_get, if_pos rfl]
    exact ⟨rfl, rfl, rfl, rfl⟩
  · exact ⟨rfl, rfl, rfl, rfl⟩

/-- What a point picked from loses leaves the desk, the link, fetching and filing. -/
theorem leavePoint_frame (p : PickPoint) (s : State) :
    (leavePoint p s).desk = s.desk ∧ (leavePoint p s).link = s.link ∧ (leavePoint p s).fetch = s.fetch ∧
      (leavePoint p s).filing = s.filing ∧ (leavePoint p s).rings = s.rings ∧ (leavePoint p s).picker = s.picker ∧
      (leavePoint p s).lib.mail = (s.lib.mail && decide (p ≠ .mail)) ∧ (leavePoint p s).lib.carts = s.lib.carts := by
  cases p with
  | slot n => exact ⟨rfl, rfl, rfl, rfl, rfl, rfl, (Bool.and_true _).symm, rfl⟩
  | mail => exact ⟨rfl, rfl, rfl, rfl, rfl, rfl, (Bool.and_false _).symm, rfl⟩
  | drive d =>
    have around := judgePin_surround d (s.modDrive d fun r => { r with mounted := none, unrecorded := false })
    obtain ⟨picker, lib, -⟩ := judgePin_frame d (s.modDrive d fun r => { r with mounted := none, unrecorded := false })
    exact ⟨congrArg Surround.desk around, congrArg Surround.link around, congrArg Surround.fetch around,
      congrArg Surround.filing around, congrArg Surround.rings around, picker,
      (congrArg Library.mail lib).trans (Bool.and_true _).symm, congrArg Library.carts lib⟩

/-- A drive picked from mounts nothing, in the state it was in (R71). -/
theorem leavePoint_drive (d : DriveNo) (s : State) :
    ((leavePoint (.drive d) s).drives[d]).mounted = none ∧
      ((leavePoint (.drive d) s).drives[d]).state = (s.drives[d]).state := by
  obtain ⟨-, -, state, mounted⟩ := judgePin_frame d (s.modDrive d fun r => { r with mounted := none, unrecorded := false })
  rw [State.modDrive_get, if_pos rfl] at state mounted
  exact ⟨mounted, state⟩

theorem modCartOf_frame (cart : Option Nat) (g : Cartridge → Cartridge) (s : State) :
    modCartOf cart g s = { s with lib := { s.lib with carts := (modCartOf cart g s).lib.carts } } := by
  cases cart <;> rfl

theorem modCartOf_cart? {cart : Option Nat} {c : Nat} (h : cart = some c) {g : Cartridge → Cartridge} (hg : ∀ r, (g r).number = r.number)
    (s : State) : (modCartOf cart g s).cart? c = (s.cart? c).map g := by
  subst h
  refine (State.cart?_modCart s c c g hg).trans ?_
  simp only [if_pos]

theorem pickDone_spec (p : PickPoint) (a : Active) (s : State) :
    ∃ t, pickDone p a s = t ∧ t.desk = s.desk ∧ t.link = s.link ∧ t.fetch = s.fetch ∧
      t.filing = s.filing ∧ t.rings = s.rings ∧ t.lib.mail = (s.lib.mail && decide (p ≠ .mail)) ∧
      t.picker = { s.picker with active := some { a with
        picked := true, waiting := decide (a.target = .mail) && t.lib.mail } } ∧
      (∀ c, a.task.cart = some c → (t.cart? c).map (fun x => x.place) = (s.cart? c).map fun _ => .picker) ∧
      ∀ d, p = .drive d → (t.drives[d]).mounted = none ∧ (t.drives[d]).state = (s.drives[d]).state := by
  have carried := modCartOf_frame a.task.cart (fun r => { r with place := .picker }) s
  have placed : ∀ c, a.task.cart = some c → (modCartOf a.task.cart (fun r => { r with place := .picker }) s).cart? c =
      (s.cart? c).map fun r => { r with place := .picker } := fun c hc =>
    modCartOf_cart? (g := fun r => { r with place := .picker }) hc (fun _ => rfl) s
  unfold pickDone
  dsimp only
  generalize modCartOf a.task.cart (fun r => { r with place := .picker }) s = u at carried placed
  obtain ⟨desk, link, fetch, filing, rings, picker, mail, carts⟩ := leavePoint_frame p u
  have drive : ∀ d, p = .drive d →
      ((leavePoint p u).drives[d]).mounted = none ∧ ((leavePoint p u).drives[d]).state = (u.drives[d]).state := by
    rintro d rfl
    exact leavePoint_drive d u
  generalize leavePoint p u = v at desk link fetch filing rings picker mail carts drive
  refine ⟨_, rfl, ?_, ?_, ?_, ?_, ?_, ?_, ?_, fun c hc => ?_, fun d hp => ?_⟩
  · exact desk.trans (by rw [carried]; rfl)
  · exact link.trans (by rw [carried])
  · exact fetch.trans (by rw [carried])
  · exact filing.trans (by rw [carried])
  · exact rings.trans (by rw [carried])
  · exact mail.trans (by rw [carried])
  · have same : u.picker = s.picker := by rw [carried]
    simp only [State.modPicker_picker, State.modPicker_lib, picker, same, Active.pick]
  · have found : v.cart? c = u.cart? c := by rw [State.cart?, State.cart?, carts]
    have moved := found.trans (placed c hc)
    exact (congrArg (Option.map _) moved).trans (Option.map_map ..)
  · have same : u.drives = s.drives := by rw [carried]
    have left := drive d hp
    rw [same] at left
    exact left

-- Occupied slots --------------------------------------------------------------------------------------------------

theorem blockSlot_blocked (n : Nat) (s : State) : ∀ x, x ∈ (blockSlot n s).lib.blocked ↔ x = n ∨ x ∈ s.lib.blocked := by
  intro x
  simp only [blockSlot, State.modLib_lib]
  split
  · next h =>
    have mem : n ∈ s.lib.blocked := by simpa using h
    exact ⟨.inr, fun hx => hx.elim (fun e => e ▸ mem) id⟩
  · simp [or_comm]

/-- A blocked slot is open no longer, and the others stand (R43). -/
theorem blockSlot_slotOpen (n x : Nat) (s : State) :
    (blockSlot n s).lib.slotOpen x = true ↔ x ≠ n ∧ s.lib.slotOpen x = true := by
  have carts : (blockSlot n s).lib.carts = s.lib.carts := rfl
  simp only [Library.slotOpen, carts, Bool.and_eq_true, Bool.not_eq_true', List.contains_eq_mem, decide_eq_false_iff_not,
    blockSlot_blocked, not_or, and_assoc]

/-- The task goes to another slot, its cartridge's new home, and nothing else moves (R44). -/
theorem retargetTask_open {m : Nat} (h : s.lib.lowestOpen = some m) (a : Active) :
    (retargetTask a s).picker = { s.picker with active := some { a with target := .slot m } } ∧
      ∀ c, a.task.cart = some c → ((retargetTask a s).cart? c).map (fun x => x.home) = (s.cart? c).map fun _ => some m := by
  simp only [retargetTask, h]
  refine ⟨?_, fun c hc => ?_⟩
  · unfold setHome
    split <;> rfl
  · rw [hc]
    refine (congrArg (Option.map _) (State.cart?_modCart (s.modPicker fun p => { p with active := some { a with target := .slot m } }) c c
      (fun r => { r with home := some m }) fun _ => rfl)).trans ?_
    simp only [if_pos, Option.map_map]
    rfl

theorem retargetTask_frame (a : Active) (s : State) :
    (retargetTask a s).desk = s.desk ∧ (retargetTask a s).link = s.link ∧ (retargetTask a s).fetch = s.fetch ∧
      (retargetTask a s).filing = s.filing ∧ (retargetTask a s).rings = s.rings ∧ (retargetTask a s).drives = s.drives ∧
      (retargetTask a s).lib.blocked = s.lib.blocked := by
  unfold retargetTask setHome
  split
  · split <;> exact ⟨rfl, rfl, rfl, rfl, rfl, rfl, rfl⟩
  · exact ⟨rfl, rfl, rfl, rfl, rfl, rfl, rfl⟩

-- The mail slot sensor --------------------------------------------------------------------------------------------

theorem retarget_surround (s : State) : (retarget s).surround = s.surround := by
  unfold retarget
  split
  · split
    · exact setHome_surround _ _ (s.modPicker _)
    · rfl
  · rfl

theorem slotOpened_surround (s : State) : (slotOpened s).surround = s.surround :=
  (pickerChoose_surround _).trans ((forDrives_surround releaseUnrecorded_surround _).trans (retarget_surround s))

/-- A notice, and the picker's queue, are all that the removal of an IMPORT changes (R53). -/
theorem removeImport_frame (c : Nat) (s : State) :
    (removeImport c s).fetch = s.fetch ∧ (removeImport c s).filing = s.filing ∧ (removeImport c s).rings = s.rings ∧
      (removeImport c s).lib = s.lib := by
  unfold removeImport
  split <;> exact ⟨rfl, rfl, rfl, rfl⟩

theorem removeImport_noted {c : Nat} (h : s.importQueued c = true) : (removeImport c s).noted (.cartridgePlaced c .offline 0 .removed) := by
  rw [removeImport, if_pos h]
  exact queueNotice_noted ..

theorem takeOut_frame (s : State) :
    (takeOut s).fetch = s.fetch ∧ (takeOut s).filing = s.filing ∧ (takeOut s).rings = s.rings ∧ (takeOut s).lib.mail = s.lib.mail := by
  unfold takeOut
  split
  · next r _ =>
    split
    · exact ⟨rfl, rfl, rfl, rfl⟩
    · obtain ⟨fetch, filing, rings, lib⟩ := removeImport_frame r.number (s.modCart r.number Cartridge.lost)
      exact ⟨fetch, filing, rings, (congrArg Library.mail lib :)⟩
  · exact ⟨rfl, rfl, rfl, rfl⟩

/-- The cartridge taken out of the mail slot is OFFLINE, and its IMPORT is removed (R50, R53). -/
theorem takeOut_offline {c : Cartridge} (hc : s.cartAt .mail = some c) (free : s.inGrip c.number = false) :
    ((takeOut s).cart? c.number).map (fun x => x.place) = some .offline ∧
      (s.importQueued c.number = true → (takeOut s).noted (.cartridgePlaced c.number .offline 0 .removed)) := by
  have taken : takeOut s = removeImport c.number (s.modCart c.number Cartridge.lost) := by
    simp only [takeOut, hc, free]
    rfl
  have lib := (removeImport_frame c.number (s.modCart c.number Cartridge.lost)).2.2.2
  rw [taken]
  refine ⟨?_, fun hq => removeImport_noted hq⟩
  have recorded : (s.cart? c.number).isSome = true :=
    List.find?_isSome.mpr ⟨c, List.mem_of_find?_eq_some hc, decide_eq_true rfl⟩
  obtain ⟨r, hr⟩ := Option.isSome_iff_exists.mp recorded
  rw [State.cart?, lib]
  refine (congrArg (Option.map _) (State.cart?_modCart s c.number c.number Cartridge.lost fun _ => rfl)).trans ?_
  rw [hr, Option.map_some, Option.map_some, if_pos rfl]
  rfl

-- The obligation --------------------------------------------------------------------------------------------------

/-- Settles O49, event by event. -/
theorem pickerMovesAndMailSlot : Obligations.PickerMovesAndMailSlot := by
  intro s
  refine ⟨fun a p ha hp hs => ?_, fun a n ha hp hw ht => ?_, rfl, fun hm => ?_, fun hm => ?_⟩
  · obtain ⟨t, rfl, rest⟩ := pickDone_spec p a s
    refine ⟨_, congrArg Host.Outcome.next ?_, rest⟩
    simp only [picked, ha]
    exact if_pos ⟨hp, hs⟩
  · obtain ⟨desk, link, fetch, filing, rings, drives, blocked⟩ := retargetTask_frame a (blockSlot n s)
    refine ⟨_, congrArg Host.Outcome.next (?_ : slotOccupied n s = retargetTask a (blockSlot n s)), desk, link, fetch, filing, rings,
      drives, ?_, fun m h1 h2 hne ho hlow => ?_⟩
    · simp only [slotOccupied, ha]
      exact if_pos ⟨hp, hw, ht⟩
    · rw [blocked]
      exact (blockSlot_blocked n s n).mpr (.inl rfl)
    · refine retargetTask_open (Library.lowestOpen_eq_some h1 h2 ((blockSlot_slotOpen n m s).mpr ⟨hne, ho⟩) fun x hx1 hx2 => ?_) a
      rw [← Bool.not_eq_true, blockSlot_slotOpen]
      rintro ⟨hxn, hxo⟩
      simp [hlow x hx1 hx2 hxn] at hxo
  · exact congrArg Host.Outcome.next (if_neg (by simp [hm]))
  · have emptied : mailEmptied s = arbitrate (slotOpened (freeMail (takeOut (s.modLib fun l => { l with mail := false })))) := if_pos hm
    obtain ⟨fetch, filing, rings, mail⟩ := takeOut_frame (s.modLib fun l => { l with mail := false })
    have shell : (takeOut (s.modLib fun l => { l with mail := false })).shell = s.shell := takeOut_shell _
    have offline : ∀ c, s.cartAt .mail = some c → s.inGrip c.number = false → _ := fun c hc free =>
      takeOut_offline (s := s.modLib fun l => { l with mail := false }) hc free
    generalize takeOut (s.modLib fun l => { l with mail := false }) = w at emptied fetch filing rings mail shell offline
    have around := slotOpened_surround (freeMail w)
    have opened : (slotOpened (freeMail w)).shell = s.shell := (slotOpened_shell _).trans shell
    refine ⟨_, congrArg Host.Outcome.next emptied, desk_of_shell opened, port_of_shell opened, (State.mail_of_surround around).trans mail,
      (State.fetch_of_surround around).trans fetch, (State.filing_of_surround around).trans filing,
      (State.rings_of_surround around).trans rings, fun c hc free => ?_⟩
    obtain ⟨place, noted⟩ := offline c hc free
    refine ⟨(State.place_of_surround around c.number).trans place, fun hq => ?_⟩
    have link : (slotOpened (freeMail w)).link = w.link := State.link_of_surround around
    rw [State.noted, link]
    exact noted hq

end Sys2Proof.Machine
end
-- ==== Proofs: placements ====
section
/-!
O50: the placement completions.
-/
namespace Sys2Proof.Machine

variable {s t u : State}

-- The end of a task -----------------------------------------------------------------------------------------------

/-- The picker's task is over: the picker is IDLE, or BUSY with one begun since. -/
def State.endedSince (s t : State) : Prop :=
  t.picker.active = none ∧ t.picker.state = .idle ∨
    ∃ b, t.picker.active = some b ∧ t.picker.state = .busy ∧ (b.task ∈ s.picker.queue ∨ b.task.kind = .load) ∧
      b.picked = b.source.isNone ∧ b.waiting = false

/-- After the end of a task the picker may choose anew. -/
theorem State.Tends.endedSince (h : (endTask u).Tends t) (up : u.picker.state ≠ .fault)
    (queue : ∀ k ∈ u.picker.queue, k ∈ s.picker.queue ∨ k.kind = .load) : s.endedSince t := by
  have idle : (endTask u).picker.state = .idle := if_neg up
  rcases h.picker with ⟨state, active⟩ | ⟨b, ⟨-, busy, active, picked, waiting⟩, task⟩
  · exact .inl ⟨active, state.trans idle⟩
  · exact .inr ⟨b, active, busy, task.elim (queue _) .inr, picked, waiting⟩

theorem exec_placementCompletion {a : Active} {p : PickPoint} (ha : s.picker.active = some a) (hp : a.picked = true)
    (hw : a.waiting = false) (ht : a.target = p) {t : State} (h : placeDone p a s = t) :
    exec (.placementCompletion p) s = .next (arbitrate t) := by
  refine congrArg Host.Outcome.next ?_
  rw [← h]
  simp only [placed, ha]
  exact if_pos ⟨hp, hw, ht⟩

theorem modCartOf_place {cart : Option Nat} (p : Place) (g : Cartridge → Cartridge) (hg : ∀ r, (g r).number = r.number ∧ (g r).place = p)
    (s : State) {c : Nat} (hc : cart = some c) :
    ((modCartOf cart g s).cart? c).map (fun x => x.place) = (s.cart? c).map fun _ => p := by
  rw [modCartOf_cart? hc (fun r => (hg r).1), Option.map_map]
  exact congrArg (fun f => (s.cart? c).map f) (funext fun r => (hg r).2)

-- Drives that are neither EMPTY nor IDLE ---------------------------------------------------------------------------

/-- A drive in SPINUP is left as it is by the picker and the allocator. -/
theorem Drive.spinup_of_settled {r q : Drive} (h : r.settled = q.settled) (hq : q.state = .spinup) :
    r.state = .spinup ∧ r.reserved = q.reserved ∧ r.mounted = q.mounted ∧ r.unrecorded = q.unrecorded := by
  simp only [Drive.settled, Drive.mk.injEq] at h
  obtain ⟨state, mounted, unrecorded, reserved, -⟩ := h
  rw [hq] at state reserved
  have spinup : r.state = .spinup := by
    revert state
    cases r.state <;> simp [DriveState.settled]
  rw [spinup] at reserved
  exact ⟨spinup, by simpa [DriveState.settled] using reserved, mounted, unrecorded⟩

theorem DriveState.eq_fault {x : DriveState} (h : x.phase = .fault) : x = .fault := by
  revert h
  cases x <;> simp [DriveState.phase]

theorem DriveState.eq_empty {x : DriveState} (h : x.phase = .empty) : x = .empty := by
  revert h
  cases x <;> simp [DriveState.phase]

theorem DriveState.eq_loading {x : DriveState} (h : x.phase = .loading) : x = .loading := by
  revert h
  cases x <;> simp [DriveState.phase]

-- A placement in a drive ------------------------------------------------------------------------------------------

/-- A LOAD's placement up to the end of its task (R63). -/
theorem placeInDrive_load {d : DriveNo} {a : Active} (hk : a.task.kind = .load) (s : State) : placeInDrive d a s =
    afterTask (endTask ((modCartOf a.task.cart (fun r => { r with place := .drive d }) s).modDrive d (takeLoad a))) := by
  simp only [placeInDrive, hk]

/-- A LOAD's placement, part by part (R63). -/
theorem placeInDrive_load_spec {a : Active} {c : Nat} {sd : Side} {d : DriveNo} (task : a.task = ⟨.load, some c, sd, some d⟩)
    (busy : s.picker.state = .busy) :
    ∃ t, placeInDrive d a s = t ∧ t.desk = s.desk ∧ t.link = s.link ∧ s.endedSince t ∧
      t.fetch = s.fetch ∧ t.filing = s.filing ∧ (t.drives[d]).state = .spinup ∧
      (t.drives[d]).mounted = some ⟨c, sd⟩ ∧ (t.drives[d]).reserved = none ∧
      (t.cart? c).map (fun x => x.place) = (s.cart? c).map fun _ => .drive d := by
  have cart : a.task.cart = some c := by rw [task]
  have carried := modCartOf_frame a.task.cart (fun r => { r with place := .drive d }) s
  have place := modCartOf_place (.drive d) (fun r => { r with place := .drive d }) (fun _ => ⟨rfl, rfl⟩) s cart
  rw [placeInDrive_load (by rw [task])]
  generalize modCartOf a.task.cart (fun r => { r with place := .drive d }) s = v at carried place
  have around := afterTask_surround (endTask (v.modDrive d (takeLoad a)))
  have tends := (afterTask_eases (endTask (v.modDrive d (takeLoad a)))).tends
  have drive : (afterTask (endTask (v.modDrive d (takeLoad a)))).drives[d].settled = (takeLoad a v.drives[d]).settled := by
    have same : ((endTask (v.modDrive d (takeLoad a))).drives[d]).settled = (takeLoad a v.drives[d]).settled :=
      congrArg Drive.settled ((State.modDrive_get v d d _).trans (if_pos rfl))
    exact (congrFun (congrArg Surround.drives around) d).trans same
  obtain ⟨state, reserved, mounted, -⟩ := Drive.spinup_of_settled drive rfl
  have picker : v.picker = s.picker := by rw [carried]
  refine ⟨_, rfl, ?_, ?_, tends.endedSince ?_ fun k hk => .inl ?_, ?_, ?_, state, mounted.trans ?_, reserved, ?_⟩
  · exact (State.desk_of_surround around).trans (by rw [carried]; rfl)
  · exact (State.link_of_surround around).trans (by rw [carried]; rfl)
  · rw [State.modDrive_picker, picker, busy]
    nofun
  · rwa [State.modDrive_picker, picker] at hk
  · exact (State.fetch_of_surround around).trans (by rw [carried]; rfl)
  · exact (State.filing_of_surround around).trans (by rw [carried]; rfl)
  · rw [takeLoad, cart, task]
    rfl
  · exact (State.place_of_surround around c).trans place

theorem dropReservation_get (d : DriveNo) (s : State) : (dropReservation d s).drives[d] = { s.drives[d] with reserved := none } :=
  (State.modDrive_get s d d fun r => { r with reserved := none }).trans (if_pos rfl)

/-- A cartridge returned to its drive, before it is met as trapped. -/
def takenBack (d : DriveNo) (a : Active) (s : State) : State :=
  dropReservation d ((modCartOf a.task.cart (fun r => { r with place := .drive d }) s).modDrive d (takeBack a))

theorem placeInDrive_unload {d : DriveNo} {a : Active} (hk : a.task.kind = .unload) (s : State) :
    placeInDrive d a s = afterTask (endTask (trapPlaced d a.task.cart (takenBack d a s))) := by
  simp only [placeInDrive, hk, takenBack]

theorem takenBack_frame (d : DriveNo) (a : Active) (s : State) :
    (takenBack d a s).desk = s.desk ∧ (takenBack d a s).link = s.link ∧ (takenBack d a s).fetch = s.fetch ∧
      (takenBack d a s).filing = s.filing ∧ (takenBack d a s).lib.active = s.lib.active ∧
      (takenBack d a s).picker.state = s.picker.state ∧ (∀ k ∈ (takenBack d a s).picker.queue, k ∈ s.picker.queue) ∧
      (takenBack d a s).drives[d] = { takeBack a s.drives[d] with reserved := none } ∧
      ∀ c, a.task.cart = some c → ((takenBack d a s).cart? c).map (fun x => x.place) = (s.cart? c).map fun _ => .drive d := by
  have carried := modCartOf_frame a.task.cart (fun r => { r with place := .drive d }) s
  have place := fun c => modCartOf_place (c := c) (.drive d) (fun r => { r with place := .drive d }) (fun _ => ⟨rfl, rfl⟩) s
    (cart := a.task.cart)
  unfold takenBack
  generalize modCartOf a.task.cart (fun r => { r with place := .drive d }) s = v at carried place
  refine ⟨?_, ?_, ?_, ?_, ?_, ?_, fun k hk => ?_, ?_, place⟩
  · rw [carried]; rfl
  · rw [carried]; rfl
  · rw [carried]; rfl
  · rw [carried]; rfl
  · rw [carried]; rfl
  · rw [carried]; rfl
  · rw [carried] at hk
    exact List.mem_of_mem_filter hk
  · have same : v.drives = s.drives := by rw [carried]
    rw [dropReservation_get, State.modDrive_get, if_pos rfl, same]

/-- The orders that failed are gone (R118). -/
theorem failOrders_gone (ns : List Nat) (reason : FailReason) (s : State) :
    ∀ o ∈ (failOrders ns reason s).fetch.queue, o.number ∉ ns := by
  induction ns generalizing s with
  | nil => exact fun _ _ => List.not_mem_nil
  | cons n ns ih =>
    intro o ho
    rw [List.mem_cons, not_or]
    refine ⟨?_, ih (failOrder n reason s) o ho⟩
    rintro rfl
    obtain ⟨p, hp, number, -⟩ := (failOrders_eases ns reason (failOrder o.number reason s)).orders o ho
    have mem : o.number ∈ (failOrder o.number reason s).fetch.queue.map fun p => p.number := List.mem_map.mpr ⟨p, hp, number⟩
    cases hn : s.order? o.number with
    | none =>
      have same : failOrder o.number reason s = s := by simp only [failOrder, hn]
      rw [same] at hp
      exact absurd number (by simpa using List.find?_eq_none.mp hn p hp)
    | some q =>
      have orders : ((failOrder o.number reason s).fetch.queue.map fun p => p.number) = _ :=
        congrArg Bench.orders (failOrder_bench hn reason)
      rw [orders, List.mem_filter] at mem
      simp at mem

/-- No order of a cartridge whose WAITING orders have failed waits (R81). -/
theorem failOrders_waitingFor {c : Nat} {reason : FailReason} (h : (failOrders (s.waitingFor c) reason s).wanes t) :
    ∀ o ∈ t.fetch.queue, o.loc.cart = c → o.state ≠ .waiting := by
  intro o ho hc hw
  obtain ⟨p, hp, number, loc, waiting⟩ := h o ho
  obtain ⟨q, hq, number', loc', waiting'⟩ := (failOrders_eases (s.waitingFor c) reason s).orders p hp
  refine failOrders_gone _ _ s p hp (List.mem_map.mpr ⟨q, List.mem_filter.mpr ⟨hq, ?_⟩, number'⟩)
  simp [waiting' (waiting hw), loc', loc, hc]

/-- A drive in FAULT that takes a cartridge back traps it: it holds no active filing side and none of its orders waits (R59, R81). -/
theorem trapPlaced_fault {d : DriveNo} {c : Nat} (fault : (s.drives[d]).state = .fault)
    (place : (s.cart? c).map (fun x => x.place) = (u.cart? c).map fun _ => .drive d) :
    State.shuns (trapPlaced d (some c) s) c ∧
      ∀ o ∈ (trapPlaced d (some c) s).fetch.queue, o.loc.cart = c → o.state ≠ .waiting := by
  have trapped : trapPlaced d (some c) s = activeLost (failOrders (s.waitingFor c) .drive (clearActiveOf c s)) := by
    simp only [trapPlaced]
    exact if_pos fault
  have barred : (clearActiveOf c s).barred c := by
    cases hc : s.cart? c with
    | none =>
      have absent : (clearActiveOf c s).cart? c = none := hc
      rw [State.barred, absent]
      exact .inr nofun
    | some r =>
      rw [hc, Option.map_some] at place
      obtain ⟨q, -, hq⟩ := Option.map_eq_some_iff.mp place.symm
      exact .inl ((State.trapped_iff (s := clearActiveOf c s) hc).mpr ⟨d, hq.symm, fault⟩)
  have shuns : (clearActiveOf c s).shuns c := ⟨barred, fun x hx => by simpa using (Option.mem_filter_iff.mp hx).2⟩
  have failed := failOrders_eases (s.waitingFor c) .drive (clearActiveOf c s)
  have lost := failed.seeks.trans (activeLost_seeks _)
  rw [trapped]
  exact ⟨⟨lost.tends.barred barred, (lost.shuns c shuns).1⟩,
    failOrders_waitingFor (s := clearActiveOf c s) (reason := .drive) (activeLost_seeks _).orders⟩

/-- The return of a cartridge to its drive, part by part (R44, R59, R71, R81). -/
theorem placeInDrive_unload_spec {a : Active} {d : DriveNo} (hk : a.task.kind = .unload) (busy : s.picker.state = .busy) :
    ∃ t, placeInDrive d a s = t ∧ t.desk = s.desk ∧ t.link.port = s.link.port ∧ s.endedSince t ∧
      (t.drives[d]).mounted = a.wasMounted ∧ (t.drives[d]).unrecorded = a.task.cart.isNone ∧
      (∀ c, a.task.cart = some c → (t.cart? c).map (fun x => x.place) = (s.cart? c).map fun _ => .drive d) ∧
      ((s.drives[d]).state ≠ .fault → (t.drives[d]).state = .spinup ∧ t.link = s.link ∧ t.fetch = s.fetch ∧
        t.filing = s.filing ∧ t.lib.active = s.lib.active) ∧
      ((s.drives[d]).state = .fault → (t.drives[d]).state = .fault ∧ ∀ c, a.task.cart = some c →
        (∀ sd, t.lib.active = some sd → sd.cart ≠ c) ∧ ∀ o ∈ t.fetch.queue, o.loc.cart = c → o.state ≠ .waiting) := by
  have shell := placeInDrive_shell s d a
  obtain ⟨desk, link, fetch, filing, active, state, queue, drive, place⟩ := takenBack_frame d a s
  rw [placeInDrive_unload hk] at shell ⊢
  generalize takenBack d a s = v at desk link fetch filing active state queue drive place shell
  have met : v.Tends (trapPlaced d a.task.cart v) := State.Changes.tends (f := True) (trapPlaced_changes d _)
  have rested := afterTask_eases (endTask (trapPlaced d a.task.cart v))
  have held : (v.drives[d]).berth.phase ≠ .empty := by
    rw [drive]
    simp only [takeBack, Drive.berth]
    split <;> nofun
  have berths : ∀ w x : State, w.Tends x → (w.drives[d]).berth.phase ≠ .empty → (x.drives[d]).berth = (w.drives[d]).berth :=
    fun w x h hw => (h.berth d).resolve_right fun e => hw e.1
  have berth : ((afterTask (endTask (trapPlaced d a.task.cart v))).drives[d]).berth = (v.drives[d]).berth := by
    have first := berths _ _ met held
    exact (berths _ _ rested.tends (by rw [← first] at held; exact held)).trans first
  have mounted : (v.drives[d]).mounted = a.wasMounted ∧ (v.drives[d]).unrecorded = a.task.cart.isNone := by
    rw [drive]
    exact ⟨rfl, rfl⟩
  have notIdle : v.picker.state ≠ .idle := by rw [state, busy]; nofun
  refine ⟨_, rfl, desk_of_shell shell, port_of_shell shell, rested.tends.endedSince ?_ fun k hq => ?_,
    (congrArg Berth.mounted berth).trans mounted.1, (congrArg Berth.unrecorded berth).trans mounted.2, fun c hc => ?_,
    fun up => ?_, fun fault => ⟨?_, fun c hc => ?_⟩⟩
  · rcases met.picker with ⟨same, -⟩ | ⟨b, ⟨idle, -⟩, -⟩
    · rw [same, state, busy]
      nofun
    · exact absurd idle notIdle
  · exact (met.queue k hq).imp_left (queue k)
  · have moved : ((endTask (trapPlaced d a.task.cart v)).cart? c).map (fun x => x.place) = (v.cart? c).map fun x => x.place := met.place c
    exact (rested.tends.place c).trans (moved.trans (place c hc))
  · have spinup : (v.drives[d]).state = .spinup := by
      rw [drive]
      exact if_neg up
    have free : trapPlaced d a.task.cart v = v := by
      unfold trapPlaced
      split
      · exact if_neg (by rw [spinup]; nofun)
      · rfl
    rw [free]
    have around := afterTask_surround (endTask v)
    have settled : ((afterTask (endTask v)).drives[d]).settled = (v.drives[d]).settled :=
      congrFun (congrArg Surround.drives around) d
    exact ⟨(Drive.spinup_of_settled settled spinup).1, (State.link_of_surround around).trans link,
      (State.fetch_of_surround around).trans fetch, (State.filing_of_surround around).trans filing,
      (State.active_of_surround around).trans active⟩
  · refine DriveState.eq_fault ((congrArg Berth.phase berth).trans ?_)
    rw [drive]
    exact congrArg DriveState.phase (if_pos fault)
  · have faulted : (v.drives[d]).state = .fault := by
      rw [drive]
      exact if_pos fault
    obtain ⟨shuns, waiting⟩ := trapPlaced_fault (u := s) faulted (place c hc)
    rw [hc] at rested ⊢
    refine ⟨fun sd hsd => (rested.seeks.shuns c shuns).1 sd hsd, fun o ho hcart hw => ?_⟩
    obtain ⟨p, hp, -, loc, wait⟩ := rested.orders o ho
    exact waiting p hp (loc ▸ hcart) (wait hw)

-- A placement in a slot -------------------------------------------------------------------------------------------

/-- The drive of an UNLOAD is EMPTY after its placement, and nothing but a drive changes (R71). -/
theorem emptyDrive_frame (a : Active) (s : State) :
    emptyDrive a s = { s with drives := (emptyDrive a s).drives } ∧
      ∀ d, a.task.kind = .unload → a.task.drive = some d → (s.drives[d]).state = .unloading →
        ((emptyDrive a s).drives[d]).state = .empty := by
  refine ⟨?_, fun d hk hd hs => ?_⟩
  · unfold emptyDrive
    split <;> rfl
  · simp only [emptyDrive, hk, hd]
    rw [State.modDrive_get, if_pos rfl, if_pos hs]

/-- A placed IMPORT is noted (R53). -/
theorem importPlaced_noted {a : Active} {c n : Nat} (hk : a.task.kind = .importTask) (hc : a.task.cart = some c) (s : State) :
    (importPlaced a n s).noted (.cartridgePlaced c (.slot n) n .done) := by
  simp only [importPlaced, hk, hc]
  exact (askSide_asks _ _).noted _ (fun _ => rfl) (queueNotice_noted ..)

/-- A placement in a slot, part by part (R44, R53, R71). -/
theorem placeInSlot_spec {a : Active} (n : Nat) (busy : s.picker.state = .busy) :
    ∃ t, placeInSlot n a s = t ∧ t.desk = s.desk ∧ t.link.port = s.link.port ∧ s.endedSince t ∧
      (∀ c, a.task.cart = some c → (t.cart? c).map (fun x => x.place) = (s.cart? c).map fun _ => .slot n) ∧
      (∀ d, a.task.kind = .unload → a.task.drive = some d → (s.drives[d]).state = .unloading →
        (t.drives[d]).state = .empty ∨ (t.drives[d]).state = .loading) ∧
      ∀ c, a.task.kind = .importTask → a.task.cart = some c → t.noted (.cartridgePlaced c (.slot n) n .done) := by
  have shell := placeInSlot_shell s n a
  have carried := modCartOf_frame a.task.cart (fun r => { r with place := .slot n, home := some n }) s
  have place := fun c => modCartOf_place (c := c) (.slot n) (fun r => { r with place := .slot n, home := some n })
    (fun _ => ⟨rfl, rfl⟩) s (cart := a.task.cart)
  unfold placeInSlot at shell ⊢
  generalize modCartOf a.task.cart (fun r => { r with place := .slot n, home := some n }) s = v at carried place shell
  obtain ⟨emptied, drive⟩ := emptyDrive_frame a v
  generalize emptyDrive a v = w at emptied drive shell
  have drives : v.drives = s.drives := by rw [carried]
  have picker : w.picker = s.picker := by rw [emptied, carried]
  have tends : (endTask w).Tends (afterTask (importPlaced a n (endTask w))) :=
    State.Changes.tends (f := True) ((importPlaced_changes a n).trans afterTask_changes)
  refine ⟨_, rfl, desk_of_shell shell, port_of_shell shell, tends.endedSince ?_ fun k hk => .inl (picker ▸ hk), fun c hc => ?_,
    fun d hk hd hs => ?_, fun c hk hc => ?_⟩
  · rw [picker, busy]
    nofun
  · have same : (endTask w).cart? c = v.cart? c := by rw [emptied]; rfl
    rw [tends.place c, same]
    exact place c hc
  · have empty : ((endTask w).drives[d]).berth.phase = .empty :=
      congrArg DriveState.phase (drive d hk hd (by rwa [drives]))
    rcases tends.berth d with same | ⟨-, loading⟩
    · exact .inl (DriveState.eq_empty ((congrArg Berth.phase same).trans empty))
    · exact .inr (DriveState.eq_loading (congrArg Berth.phase loading))
  · have link : (afterTask (importPlaced a n (endTask w))).link = (importPlaced a n (endTask w)).link :=
      State.link_of_surround (afterTask_surround _)
    rw [State.noted, link]
    exact importPlaced_noted hk hc _

-- A placement in the mail slot ------------------------------------------------------------------------------------

/-- A picker that holds no cartridge for want of a slot sends none on (R44). -/
theorem retarget_idle (h : ∀ a, s.picker.active = some a → a.waiting = false) : retarget s = s := by
  unfold retarget
  split
  · next a ha => rw [h a ha]
  · rfl

theorem slotOpened_tends (h : ∀ a, s.picker.active = some a → a.waiting = false) : s.Tends (slotOpened s) := by
  rw [slotOpened, retarget_idle h]
  exact State.Changes.tends (f := True) (State.Changes.trans (forDrives_changes fun d _ => releaseUnrecorded_changes d)
    pickerChoose_changes)

/-- The end of a task in the mail slot: the mark of an EXPORT goes, and the notices (R53, R56). -/
theorem mailNotice_frame (a : Active) (s : State) :
    (mailNotice a s).picker = s.picker ∧ (mailNotice a s).lib.mail = s.lib.mail ∧ (mailNotice a s).lib.carts = s.lib.carts := by
  unfold mailNotice
  split <;> exact ⟨rfl, rfl, rfl⟩

theorem mailNotice_export {a : Active} {c : Nat} {r : Cartridge} (hk : a.task.kind = .exportTask) (hc : a.task.cart = some c)
    (hr : s.cart? c = some r) :
    (mailNotice a s).isLeaving c = false ∧ (mailNotice a s).noted (.cartridgeAtMailSlot c r.former) := by
  simp only [mailNotice, hk, hc, hr]
  refine ⟨?_, queueNotice_noted ..⟩
  simp [State.isLeaving, queueNotice, clearLeaving]

theorem mailNotice_import {a : Active} {c : Nat} (hk : a.task.kind = .importTask) (hc : a.task.cart = some c) (s : State) :
    (mailNotice a s).noted (.cartridgePlaced c .mail 0 .noFreeSlot) := by
  simp only [mailNotice, hk, hc]
  exact queueNotice_noted ..

/-- A cartridge placed in the mail slot keeps its former slot, or the home slot it had as that (R42). -/
theorem Cartridge.toMail_former (r : Cartridge) :
    (∀ h, r.home = some h → r.toMail.former = some h) ∧ (r.home = none → r.toMail.former = r.former) := by
  refine ⟨fun h hh => ?_, fun hn => ?_⟩
  · simp [Cartridge.toMail, hh]
  · simp [Cartridge.toMail, hn]

/-- A placement in the mail slot, part by part (R42, R44, R53, R56). -/
theorem placeInMail_spec (a : Active) (busy : s.picker.state = .busy) :
    ∃ t, placeInMail a s = t ∧ t.desk = s.desk ∧ t.link.port = s.link.port ∧ s.endedSince t ∧ t.lib.mail = true ∧
      ∀ c, a.task.cart = some c → ∀ r, s.cart? c = some r → s.staysHomed c →
        ∃ q : Cartridge, t.cart? c = some q ∧ q.place = .mail ∧ q.home = none ∧
          (∀ h, r.home = some h → q.former = some h) ∧ (r.home = none → q.former = r.former) ∧
          q.sideA = r.sideA ∧ q.sideB = r.sideB ∧
          (a.task.kind = .exportTask → t.isLeaving c = false ∧ t.noted (.cartridgeAtMailSlot c q.former)) ∧
          (a.task.kind = .importTask → t.noted (.cartridgePlaced c .mail 0 .noFreeSlot)) := by
  have shell := placeInMail_shell s a
  have carried := modCartOf_frame a.task.cart Cartridge.toMail s
  have moved := fun c hc => modCartOf_cart? (c := c) (cart := a.task.cart) hc (g := Cartridge.toMail) (fun _ => rfl) s
  unfold placeInMail at shell ⊢
  generalize modCartOf a.task.cart Cartridge.toMail s = v at carried moved shell
  obtain ⟨picker, mail, carts⟩ := mailNotice_frame a (v.modLib fun l => { l with mail := true })
  have exported := fun (c : Nat) (r : Cartridge) hk hc => mailNotice_export (s := v.modLib fun l => { l with mail := true }) (a := a)
    (c := c) (r := r) hk hc
  have imported := fun (c : Nat) hk hc => mailNotice_import (a := a) (c := c) hk hc (v.modLib fun l => { l with mail := true })
  generalize mailNotice a (v.modLib fun l => { l with mail := true }) = w at picker mail carts exported imported shell
  have picker' : w.picker = s.picker := picker.trans (by rw [carried]; rfl)
  have ended := runAllocator_eases (endTask w)
  have around := (slotOpened_surround (runAllocator (endTask w))).trans (runAllocator_surround (endTask w))
  have tends : (endTask w).Tends (slotOpened (runAllocator (endTask w))) := by
    refine ended.tends.trans (slotOpened_tends fun b hb => ?_)
    rcases ended.tends.picker with ⟨-, active⟩ | ⟨x, ⟨-, -, active, -, waiting⟩, -⟩
    · exact nomatch hb.symm.trans active
    · exact Option.some.inj (active.symm.trans hb) ▸ waiting
  have link : (slotOpened (runAllocator (endTask w))).link = w.link := State.link_of_surround around
  refine ⟨_, rfl, desk_of_shell shell, port_of_shell shell, tends.endedSince ?_ fun k hk => .inl (picker' ▸ hk),
    (State.mail_of_surround around).trans mail, fun c hc r hr homed => ?_⟩
  · rw [picker', busy]
    nofun
  · have found : (endTask w).cart? c = some r.toMail := by
      have same : (endTask w).cart? c = v.cart? c := by rw [State.cart?, State.cart?]; exact congrArg _ carts
      rw [same, moved c hc, hr]
      rfl
    have homed' : (endTask w).staysHomed c := fun k hk => homed k (picker' ▸ hk)
    have kept := State.cart?_kept around tends homed'
    obtain ⟨home, former⟩ := r.toMail_former
    refine ⟨r.toMail, kept.trans found, rfl, rfl, home, former, rfl, rfl, fun hk => ?_, fun hk => ?_⟩
    · have moved' : (v.modLib fun l => { l with mail := true }).cart? c = some r.toMail := by
        refine Eq.trans (b := v.cart? c) rfl ?_
        rw [moved c hc, hr]
        rfl
      obtain ⟨staying, noted⟩ := exported c r.toMail hk hc moved'
      refine ⟨?_, ?_⟩
      · rw [State.isLeaving, State.leaving_of_surround around]
        exact staying
      · rw [State.noted, link]
        exact noted
    · rw [State.noted, link]
      exact imported c hk hc

-- The obligation --------------------------------------------------------------------------------------------------

/-- Settles O50, placement by placement. -/
theorem placementEndsTheTask : Obligations.PlacementEndsTheTask := by
  intro a s ha hp hw busy ended hended
  have since : ∀ t, s.endedSince t → ended t := fun t h => (hended t).mpr h
  refine ⟨fun c sd d task target => ?_, fun d hk target => ?_, fun n target => ?_, fun target => ?_⟩
  · obtain ⟨t, done, desk, link, hend, rest⟩ := placeInDrive_load_spec task busy
    exact ⟨t, exec_placementCompletion ha hp hw target done, desk, link, since t hend, rest⟩
  · obtain ⟨t, done, desk, port, hend, rest⟩ := placeInDrive_unload_spec (d := d) hk busy
    exact ⟨t, exec_placementCompletion ha hp hw target done, desk, port, since t hend, rest⟩
  · obtain ⟨t, done, desk, port, hend, rest⟩ := placeInSlot_spec (a := a) n busy
    exact ⟨t, exec_placementCompletion ha hp hw target done, desk, port, since t hend, rest⟩
  · obtain ⟨t, done, desk, port, hend, rest⟩ := placeInMail_spec a busy
    exact ⟨t, exec_placementCompletion ha hp hw target done, desk, port, since t hend, rest⟩

end Sys2Proof.Machine
end
-- ==== Proofs: the picker fault ====
section
/-!
SUPPORT for O48 and O55: the picker's fault. Every task and reservation is gone, no order waits, and the cartridges and drives stay.
-/
namespace Sys2Proof.Machine

variable {s t u : State}

-- Where cartridges are, and which are barred ----------------------------------------------------------------------

/-- A trapped cartridge stays so while it stays and drives in FAULT stay in FAULT. -/
theorem State.barred.of_place {c : Nat} (h : s.barred c) (place : (t.cart? c).map (fun r => r.place) = (s.cart? c).map fun r => r.place)
    (fault : ∀ d : DriveNo, (s.drives[d]).state = .fault → (t.drives[d]).state = .fault) : t.barred c := by
  rcases h with trapped | away
  · cases hs : s.cart? c with
    | none => simp [State.trapped, hs] at trapped
    | some r =>
      obtain ⟨d, hd, hf⟩ := (State.trapped_iff hs).mp trapped
      rw [hs, Option.map_some, Option.map_eq_some_iff] at place
      obtain ⟨q, hq, same⟩ := place
      exact .inl ((State.trapped_iff hq).mpr ⟨d, same.trans hd, fault d hf⟩)
  · exact .inr (by rwa [place])

theorem modCart_place {g : Cartridge → Cartridge} (hg : ∀ r, (g r).number = r.number ∧ (g r).place = r.place) (n c : Nat) (s : State) :
    ((s.modCart n g).cart? c).map (fun r => r.place) = (s.cart? c).map fun r => r.place := by
  rw [State.cart?_modCart s n c g fun r => (hg r).1, Option.map_map]
  refine congrArg (fun k => (s.cart? c).map k) (funext fun r => ?_)
  simp only [Function.comp_apply]
  split
  · exact (hg r).2
  · rfl

-- What follows a fault of the picker ------------------------------------------------------------------------------

/-- What a drive holds goes on: it stays, or a LOAD is begun into an EMPTY drive. -/
def Berth.LeadsTo (b c : Berth) : Prop := c = b ∨ b.phase = .empty ∧ c = { b with phase := .loading }

theorem Berth.LeadsTo.trans {a b c : Berth} (h : a.LeadsTo b) (k : b.LeadsTo c) : a.LeadsTo c := by
  rcases h with rfl | ⟨empty, rfl⟩
  · exact k
  · rcases k with same | ⟨empty', -⟩
    · exact .inr ⟨empty, same⟩
    · cases empty'

theorem Berth.LeadsTo.eq {b c : Berth} (h : b.LeadsTo c) (held : b.phase ≠ .empty) : c = b :=
  h.resolve_right fun e => held e.1

/-- What the dropping of tasks leaves: cartridges and drives, a picker in FAULT, and a barred cartridge its active filing side. -/
structure State.Drops (s t : State) : Prop where
  place   : ∀ c, (t.cart? c).map (fun r => r.place) = (s.cart? c).map fun r => r.place
  berth   : ∀ d : DriveNo, (s.drives[d]).berth.LeadsTo (t.drives[d]).berth
  stilled : s.stilled → t.stilled ∧ t.picker.starts = s.picker.starts
  orders  : s.wanes t
  shuns   : ∀ c, s.shuns c → t.shuns c

theorem State.Seeks.drops (h : s.Seeks t) : s.Drops t :=
  ⟨h.tends.place, h.tends.berth, h.stilled, h.orders, fun c hc => ⟨h.tends.barred hc.1, (h.shuns c hc).1⟩⟩

theorem State.Drops.refl (s : State) : s.Drops s := (State.Seeks.refl s).drops

theorem State.Drops.trans (h : s.Drops t) (k : t.Drops u) : s.Drops u where
  place c := (k.place c).trans (h.place c)
  berth d := (h.berth d).trans (k.berth d)
  stilled hs :=
    have ⟨ht, starts⟩ := h.stilled hs
    have ⟨hu, starts'⟩ := k.stilled ht
    ⟨hu, starts'.trans starts⟩
  orders := h.orders.trans k.orders
  shuns c hc := k.shuns c (h.shuns c hc)

/-- A change of the library in which every cartridge stays and the active filing side stays. -/
theorem State.Drops.lib (g : Library → Library)
    (place : ∀ c, ((s.modLib g).cart? c).map (fun r => r.place) = (s.cart? c).map fun r => r.place)
    (active : (g s.lib).active = s.lib.active) : s.Drops (s.modLib g) where
  place := place
  berth _ := .inl rfl
  stilled hs := ⟨hs, rfl⟩
  orders := .refl s
  shuns c hc := ⟨hc.1.of_place (place c) fun _ => id, fun x hx => hc.2 x (active ▸ hx)⟩

theorem dropTask_drops (s : State) (k : Task) : s.Drops (dropTask k s) := by
  unfold dropTask
  split
  · refine State.Drops.lib (s := s) _ (fun x => modCart_place (fun r => ?_) _ x s) rfl
    split <;> exact ⟨rfl, rfl⟩
  · exact State.Drops.trans (.lib (s := s) _ (fun _ => rfl) rfl) (engineAsk_seeks _).drops
  · exact .refl s

-- The fault -------------------------------------------------------------------------------------------------------

/-- The picker in FAULT and every drive unasked, before its tasks are dropped one by one (R76). -/
def pickerDown (s : State) : State :=
  ((match s.picker.active with
    | some a => endDriveTask a s
    | none => s).modPicker fun p => { p with state := .fault, queue := [], active := none }).forDrives
      fun d t => t.modDrive d Drive.pickerFault

theorem pickerFaults_eq (s : State) : pickerFaults s =
    failOrders (pickerDown s).waitingOrders .picker (s.picker.tasks.foldl (fun t k => dropTask k t) (pickerDown s)) := rfl

theorem pickerFault_sameButDrives (s : State) :
    s.sameButDrives (s.forDrives fun d t => t.modDrive d Drive.pickerFault) :=
  forDrives_sameButDrives (fun d t => t.modDrive_sameButDrives d _) s

theorem pickerFault_get (s : State) (x : DriveNo) :
    ((s.forDrives fun d t => t.modDrive d Drive.pickerFault).drives[x]) = (s.drives[x]).pickerFault := by
  rw [State.forDrives, foldl_modDrive_get _ x _ _ (by decide), if_pos (by revert x; decide)]

theorem endDriveTask_sameButDrives (a : Active) (s : State) : s.sameButDrives (endDriveTask a s) := by
  unfold endDriveTask
  split
  · exact s.modDrive_sameButDrives _ _
  · rfl

/-- The picker goes down with nothing left to do; its load starts and the fetch queue stay (R76). -/
theorem pickerDown_stilled (s : State) :
    (pickerDown s).stilled ∧ (pickerDown s).picker.starts = s.picker.starts ∧ (pickerDown s).fetch = s.fetch := by
  have ended : ∀ v : State, v.picker.starts = s.picker.starts → v.fetch = s.fetch →
      let w := (v.modPicker fun p => { p with state := .fault, queue := [], active := none }).forDrives
        fun d t => t.modDrive d Drive.pickerFault
      w.stilled ∧ w.picker.starts = s.picker.starts ∧ w.fetch = s.fetch := fun v starts fetch => by
    have same := pickerFault_sameButDrives (v.modPicker fun p => { p with state := .fault, queue := [], active := none })
    have drives := pickerFault_get (v.modPicker fun p => { p with state := .fault, queue := [], active := none })
    dsimp only
    generalize (v.modPicker fun p => { p with state := .fault, queue := [], active := none }).forDrives _ = w at same drives
    have asked : ∀ d : DriveNo, (w.drives[d]).unasked := fun d => by
      rw [drives d]
      exact ⟨rfl, rfl⟩
    have picker : w.picker = { v.picker with state := .fault, queue := [], active := none } := by rw [same]; rfl
    have queue : w.fetch = v.fetch := by rw [same]; rfl
    refine ⟨⟨by rw [picker], by rw [picker], by rw [picker], asked⟩, by rw [picker]; exact starts, queue.trans fetch⟩
  unfold pickerDown
  split
  · next a _ =>
    have same := endDriveTask_sameButDrives a s
    exact ended _ (by rw [same]) (by rw [same])
  · exact ended s rfl rfl

/-- A picker with no task in progress goes down where the drives stand. -/
theorem pickerDown_idle (h : s.picker.active = none) :
    (pickerDown s).lib = s.lib ∧ ∀ d : DriveNo, (pickerDown s).drives[d] = (s.drives[d]).pickerFault := by
  unfold pickerDown
  rw [h]
  dsimp only
  refine ⟨?_, fun d => pickerFault_get _ d⟩
  rw [pickerFault_sameButDrives]
  rfl

theorem pickerFaults_drops (s : State) : (pickerDown s).Drops (pickerFaults s) := by
  rw [pickerFaults_eq]
  exact (foldl_kept (P := (pickerDown s).Drops) (fun t k ht => ht.trans (dropTask_drops t k)) _ _ (.refl _)).trans
    (failOrders_eases _ _ _).seeks.drops

/-- No order waits where the orders of a list with every waiting one have failed (R76). -/
theorem failOrders_waiting {reason : FailReason} (h : u.wanes s) :
    ∀ o ∈ (failOrders u.waitingOrders reason s).fetch.queue, o.state ≠ .waiting := by
  intro o ho waits
  obtain ⟨p, hp, number, -, waiting⟩ := (h.trans (failOrders_eases u.waitingOrders reason s).orders) o ho
  refine failOrders_gone _ _ s o ho (List.mem_map.mpr ⟨p, List.mem_filter.mpr ⟨hp, ?_⟩, number⟩)
  exact decide_eq_true (waiting waits)

theorem State.wanes.waitless (h : s.wanes t) (none : ∀ o ∈ s.fetch.queue, o.state ≠ .waiting) :
    ∀ o ∈ t.fetch.queue, o.state ≠ .waiting := fun o ho waits => by
  obtain ⟨p, hp, -, -, waiting⟩ := h o ho
  exact none p hp (waiting waits)

theorem pickerFaults_waiting (s : State) : ∀ o ∈ (pickerFaults s).fetch.queue, o.state ≠ .waiting := by
  rw [pickerFaults_eq]
  exact failOrders_waiting
    (foldl_kept (P := (pickerDown s).wanes) (fun t k ht => ht.trans (dropTask_drops t k).orders) _ _ (.refl _))

/-- The picker's fault, part by part (R76, R119). -/
theorem faultPicker_spec (ready : s.condition = .ready) (up : s.picker.state ≠ .fault) :
    ∃ t, exec .pickerFault s = .next (arbitrate t) ∧ t.desk = s.desk ∧ t.link.port = s.link.port ∧ t.stilled ∧
      t.picker.starts = s.picker.starts ∧ (∀ o ∈ t.fetch.queue, o.state ≠ .waiting) ∧ t.noted s.picker.faultNotice := by
  obtain ⟨down, starts, -⟩ := pickerDown_stilled s
  obtain ⟨stilled, starts'⟩ := (pickerFaults_drops s).stilled down
  have waiting := pickerFaults_waiting s
  have shell : (pickerFaults s).shell = s.shell := by simp
  have acts : exec .pickerFault s = .next (arbitrate (queueNotice s.picker.faultNotice (pickerFaults s))) :=
    congrArg Host.Outcome.next (if_neg (by simp [ready, up]))
  generalize pickerFaults s = v at stilled starts' waiting shell acts
  exact ⟨queueNotice s.picker.faultNotice v, acts, desk_of_shell ((queueNotice_shell v _).trans shell),
    port_of_shell ((queueNotice_shell v _).trans shell), stilled, starts'.trans starts, waiting, queueNotice_noted ..⟩

end Sys2Proof.Machine
end
-- ==== Proofs: the mechanism reset ====
section
/-!
O48: the report of the mechanism reset, drive by drive, then the picker, the mail slot and the sweep.
-/
namespace Sys2Proof.Machine

variable {s t u : State}

theorem DriveState.eq_unloading {x : DriveState} (h : x.phase = .unloading) : x = .unloading := by
  revert h
  cases x <;> simp [DriveState.phase]

-- Where a cartridge is --------------------------------------------------------------------------------------------

/-- No two cartridges have one number. -/
def State.numbered (s : State) : Prop := (s.lib.carts.map fun c => c.number).Pairwise (· ≠ ·)

theorem State.numbered.eq_of_number (h : s.numbered) {r q : Cartridge} (hr : r ∈ s.lib.carts) (hq : q ∈ s.lib.carts)
    (e : r.number = q.number) : r = q :=
  List.inj_on_of_nodup_map h hr hq e

theorem State.numbered.cart? (h : s.numbered) {r : Cartridge} (hr : r ∈ s.lib.carts) : s.cart? r.number = some r := by
  cases hc : s.cart? r.number with
  | none => exact absurd rfl (State.cart?_eq_none hc r hr)
  | some q =>
    obtain ⟨number, mem⟩ := State.cart?_spec hc
    rw [h.eq_of_number mem hr number]

/-- A cartridge is at a place. -/
def State.standsAt (s : State) (c : Nat) (p : Place) : Prop := (s.cart? c).map (fun r => r.place) = some p

theorem State.cartAt_spec {p : Place} {r : Cartridge} (h : s.cartAt p = some r) : r ∈ s.lib.carts ∧ r.place = p :=
  ⟨List.mem_of_find?_eq_some h, by simpa using List.find?_some h⟩

theorem State.numbered.standsAt (h : s.numbered) {r : Cartridge} (hr : r ∈ s.lib.carts) : s.standsAt r.number r.place := by
  rw [State.standsAt, h.cart? hr]
  rfl

/-- The active filing side is on no side of a cartridge. -/
def State.inactive (s : State) (c : Nat) : Prop := ∀ x ∈ s.lib.active, x.cart ≠ c

/-- A cartridge found missing: OFFLINE, and not the active filing side's (R49, R60). -/
def State.missing (s : State) (c : Nat) : Prop := s.standsAt c .offline ∧ s.inactive c

/-- A cartridge found in a drive in FAULT: trapped, and not the active filing side's (R49, R59). -/
def State.caught (s : State) (d : DriveNo) (c : Nat) : Prop :=
  s.standsAt c (.drive d) ∧ s.inactive c ∧ (s.drives[d]).state = .fault

theorem State.missing.shuns {c : Nat} (h : s.missing c) : s.shuns c := by
  refine ⟨.inr fun p hp => ?_, h.2⟩
  cases h.1.symm.trans hp
  rfl

theorem State.caught.shuns {c : Nat} {d : DriveNo} (h : s.caught d c) : s.shuns c := by
  obtain ⟨stands, inactive, fault⟩ := h
  obtain ⟨r, hr, place⟩ := Option.map_eq_some_iff.mp stands
  exact ⟨.inl ((State.trapped_iff hr).mpr ⟨d, place, fault⟩), inactive⟩

-- A cartridge found missing ---------------------------------------------------------------------------------------

/-- A cartridge becomes OFFLINE, and the active filing side is cleared if it names it (R49, R60). -/
def loseCart (c : Nat) (s : State) : State := clearActiveOf c (s.modCart c Cartridge.lost)

theorem loseCart_numbered (h : s.numbered) (c : Nat) : (loseCart c s).numbered := by
  refine (congrArg (List.Pairwise (· ≠ ·)) ?_).mpr h
  exact map_key_map (fun r : Cartridge => r.number) Cartridge.lost (fun _ => rfl) c s.lib.carts

theorem loseCart_cart? (c n : Nat) (s : State) : (loseCart c s).cart? n = (s.cart? n).map fun r => if n = c then r.lost else r :=
  State.cart?_modCart s c n Cartridge.lost fun _ => rfl

theorem loseCart_missing {r : Cartridge} (h : s.numbered) (hr : r ∈ s.lib.carts) : (loseCart r.number s).missing r.number := by
  refine ⟨?_, fun x hx => by simpa using (Option.mem_filter_iff.mp hx).2⟩
  rw [State.standsAt, loseCart_cart?, h.cart? hr]
  simp [Cartridge.lost]

theorem loseCart_standsAt_of_ne {c n : Nat} {p : Place} (ne : n ≠ c) (h : s.standsAt n p) : (loseCart c s).standsAt n p := by
  rw [State.standsAt, loseCart_cart?]
  simp only [if_neg ne, Option.map_id']
  exact h

theorem loseCart_inactive {n : Nat} (c : Nat) (h : s.inactive n) : (loseCart c s).inactive n := fun x hx =>
  h x (Option.mem_filter_iff.mp hx).1

theorem loseCart_keeps_missing {n : Nat} (c : Nat) (h : s.missing n) : (loseCart c s).missing n := by
  refine ⟨?_, loseCart_inactive c h.2⟩
  obtain ⟨r, hr, place⟩ := Option.map_eq_some_iff.mp h.1
  rw [State.standsAt, loseCart_cart?, hr, Option.map_some, Option.map_some]
  split
  · rfl
  · rw [place]

/-- What stands elsewhere is not the cartridge that is lost. -/
theorem loseCart_mem {r q : Cartridge} (h : s.numbered) (hr : r ∈ s.lib.carts) (hq : q ∈ s.lib.carts) (ne : q.place ≠ r.place) :
    q ∈ (loseCart r.number s).lib.carts := by
  refine List.mem_map.mpr ⟨q, hq, if_neg fun e => ne ?_⟩
  rw [h.eq_of_number hq hr e]

theorem loseCart_cartAt {r : Cartridge} {p : Place} (h : s.numbered) (hr : r ∈ s.lib.carts) (hp : r.place ≠ p) (hoff : p ≠ .offline) :
    (loseCart r.number s).cartAt p = s.cartAt p := by
  have read : (loseCart r.number s).cartAt p =
      (s.lib.carts.map fun q => if q.number = r.number then q.lost else q).find? fun q => q.place = p := rfl
  have same : s.lib.carts.find? ((fun q => decide (q.place = p)) ∘ fun q => if q.number = r.number then q.lost else q) = s.cartAt p :=
    List.find?_congr fun q hq => by
      simp only [Function.comp_apply]
      split
      · next e =>
        rw [h.eq_of_number hq hr e]
        simp [Cartridge.lost, hp, hoff.symm]
      · rfl
  rw [read, List.find?_map, same]
  cases hc : s.cartAt p with
  | none => rfl
  | some q =>
    obtain ⟨mem, place⟩ := State.cartAt_spec hc
    have ne : q.number ≠ r.number := fun e => hp (h.eq_of_number mem hr e ▸ place)
    rw [Option.map_some, if_neg ne]

-- One drive of the report -----------------------------------------------------------------------------------------

/-- What a drive's report leaves of the library. -/
theorem settleCart_lib (rep : DriveReport) (c : Nat) (s : State) :
    (settleCart rep c s).lib = (loseCart c s).lib ∧ DriveReport.bare rep = true ∨
      (settleCart rep c s).lib = (clearActiveOf c s).lib ∧ DriveReport.bare rep = false ∨
      (settleCart rep c s).lib = s.lib ∧ DriveReport.bare rep = false := by
  cases rep with
  | absent | vacant => exact .inl ⟨rfl, rfl⟩
  | fault _ => exact .inr (.inl ⟨rfl, rfl⟩)
  | holding _ => exact .inr (.inr ⟨rfl, rfl⟩)

theorem settleCart_rest (rep : DriveReport) (c : Nat) (s : State) :
    (settleCart rep c s).drives = s.drives ∧ (settleCart rep c s).picker = s.picker := by
  cases rep <;> exact ⟨rfl, rfl⟩

theorem dropLoadOf_lib (d : DriveNo) (s : State) : (dropLoadOf d s).lib = s.lib := by
  unfold dropLoadOf
  split <;> rfl

theorem dropLoadOf_picker (d : DriveNo) (s : State) :
    (dropLoadOf d s).picker.active = s.picker.active ∧ ∀ k ∈ (dropLoadOf d s).picker.queue, k ∈ s.picker.queue := by
  unfold dropLoadOf
  split
  · exact ⟨rfl, fun k hk => List.mem_of_mem_filter hk⟩
  · exact ⟨rfl, fun k hk => hk⟩

theorem dropReservation_berth (d x : DriveNo) (s : State) : ((dropReservation d s).drives[x]).berth = (s.drives[x]).berth := by
  refine (congrArg Drive.berth (State.modDrive_get s d x fun r => { r with reserved := none })).trans ?_
  split <;> rfl

/-- A drive's report leaves the other drives. -/
theorem resetDrive_get (report : MechReport) (d x : DriveNo) (s : State) :
    ((resetDrive report d s).drives[x]).berth =
      if x = d then (DriveReport.set report.drives[d] (s.cartAt (.drive d)) s.drives[d]).berth else (s.drives[x]).berth := by
  have dropped : ∀ v : State, ((dropLoadOf d v).drives[x]).berth = (v.drives[x]).berth := fun v => by
    unfold dropLoadOf
    split
    · exact dropReservation_berth d x v
    · rfl
  have set : (((s.modDrive d (DriveReport.set report.drives[d] (s.cartAt (.drive d)))).drives[x])).berth = _ :=
    (congrArg Drive.berth (State.modDrive_get s d x _)).trans (apply_ite Drive.berth ..)
  unfold resetDrive
  dsimp only
  rw [dropped]
  split
  · rw [(settleCart_rest ..).1, set]
    split
    · next h => rw [h]
    · rfl
  · rw [set]
    split
    · next h => rw [h]
    · rfl

theorem resetDrive_picker (report : MechReport) (d : DriveNo) (s : State) :
    (resetDrive report d s).picker.active = s.picker.active ∧ ∀ k ∈ (resetDrive report d s).picker.queue, k ∈ s.picker.queue := by
  cases hc : s.cartAt (.drive d) with
  | none =>
    simp only [resetDrive, hc]
    exact dropLoadOf_picker d _
  | some r =>
    have dropped := dropLoadOf_picker d (settleCart report.drives[d] r.number (s.modDrive d (DriveReport.set report.drives[d] (some r))))
    rw [(settleCart_rest ..).2] at dropped
    simp only [resetDrive, hc]
    exact dropped

theorem resetDrive_lib_none {report : MechReport} {d : DriveNo} (h : s.cartAt (.drive d) = none) : (resetDrive report d s).lib = s.lib := by
  simp only [resetDrive, h]
  exact dropLoadOf_lib ..

theorem resetDrive_lib_some {report : MechReport} {d : DriveNo} {r : Cartridge} (h : s.cartAt (.drive d) = some r) :
    (resetDrive report d s).lib =
      (settleCart report.drives[d] r.number (s.modDrive d (DriveReport.set report.drives[d] (some r)))).lib := by
  simp only [resetDrive, h]
  exact dropLoadOf_lib ..

/-- What every drive's report leaves of the library: as it was, one cartridge of the drive lost, or the active filing side cleared of it. -/
theorem resetDrive_lib (report : MechReport) (d : DriveNo) (s : State) :
    (resetDrive report d s).lib = s.lib ∨ ∃ r, s.cartAt (.drive d) = some r ∧
      ((resetDrive report d s).lib = (loseCart r.number s).lib ∨ (resetDrive report d s).lib = (clearActiveOf r.number s).lib) := by
  cases hc : s.cartAt (.drive d) with
  | none => exact .inl (resetDrive_lib_none hc)
  | some r =>
    rw [resetDrive_lib_some hc]
    rcases settleCart_lib report.drives[d] r.number (s.modDrive d (DriveReport.set report.drives[d] (some r))) with
      ⟨lost, -⟩ | ⟨cleared, -⟩ | ⟨same, -⟩
    · exact .inr ⟨r, rfl, .inl lost⟩
    · exact .inr ⟨r, rfl, .inr cleared⟩
    · exact .inl same

/-- A law of the library that no report breaks. -/
theorem resetDrive_keeps {P : State → Prop} (lib : ∀ v w : State, w.lib = v.lib → P v → P w) (report : MechReport) (d : DriveNo)
    (lost : ∀ r, s.cartAt (.drive d) = some r → P s → P (loseCart r.number s))
    (cleared : ∀ c, P s → P (clearActiveOf c s)) (h : P s) : P (resetDrive report d s) := by
  rcases resetDrive_lib report d s with same | ⟨r, hr, same | same⟩
  · exact lib _ _ same h
  · exact lib _ _ same (lost r hr h)
  · exact lib _ _ same (cleared _ h)

-- The round of the drives -----------------------------------------------------------------------------------------

/-- What the turn of one drive needs, the turns before it keep; what it establishes, the turns after it keep. -/
theorem forDrives_turn {P Q : State → Prop} {g : DriveNo → State → State} (d : DriveNo) (before : ∀ x v, x ≠ d → P v → P (g x v))
    (own : ∀ v, P v → Q (g d v)) (after : ∀ x v, x ≠ d → Q v → Q (g x v)) (h : P s) : Q (s.forDrives g) := by
  have rest : ∀ (ds : List DriveNo) (v : State), d ∉ ds → Q v → Q (ds.foldl (fun t x => g x t) v) := fun ds v hd hv => by
    induction ds generalizing v with
    | nil => exact hv
    | cons x ds ih =>
      rw [List.mem_cons, not_or] at hd
      exact ih _ hd.2 (after x v (Ne.symm hd.1) hv)
  have turn : ∀ (ds : List DriveNo) (v : State), ds.Nodup → d ∈ ds → P v → Q (ds.foldl (fun t x => g x t) v) := fun ds v hn hd hv => by
    induction ds generalizing v with
    | nil => cases hd
    | cons x ds ih =>
      obtain ⟨fresh, hn⟩ := List.nodup_cons.mp hn
      by_cases hx : x = d
      · subst hx
        exact rest ds _ fresh (own v hv)
      · exact ih _ hn ((List.mem_cons.mp hd).resolve_left (Ne.symm hx)) (before x v hx hv)
  exact turn allDrives s (by decide) ((by decide : ∀ x : DriveNo, x ∈ allDrives) d) h

theorem State.numbered.of_lib (h : s.numbered) (lib : t.lib = s.lib) : t.numbered := by rwa [State.numbered, lib]

theorem State.standsAt.of_lib {c : Nat} {p : Place} (h : s.standsAt c p) (lib : t.lib = s.lib) : t.standsAt c p := by
  rwa [State.standsAt, State.cart?, lib]

theorem State.missing.of_lib {c : Nat} (h : s.missing c) (lib : t.lib = s.lib) : t.missing c := by
  refine ⟨h.1.of_lib lib, ?_⟩
  rw [State.inactive, lib]
  exact h.2

theorem resetDrive_numbered (h : s.numbered) (report : MechReport) (d : DriveNo) : (resetDrive report d s).numbered :=
  resetDrive_keeps (P := State.numbered) (fun _ _ e h => h.of_lib e) report d (fun _ _ h => loseCart_numbered h _) (fun _ h => h) h

theorem resetDrive_missing {c : Nat} (h : s.missing c) (report : MechReport) (d : DriveNo) : (resetDrive report d s).missing c :=
  resetDrive_keeps (P := (State.missing · c)) (fun _ _ e h => h.of_lib e) report d (fun _ _ h => loseCart_keeps_missing _ h)
    (fun _ h => ⟨h.1, fun x hx => h.2 x (Option.mem_filter_iff.mp hx).1⟩) h

/-- The cartridge found at another place than the drive's is found there still. -/
theorem resetDrive_cartAt (h : s.numbered) (report : MechReport) {d : DriveNo} {p : Place} (hp : p ≠ .drive d) (hoff : p ≠ .offline) :
    (resetDrive report d s).cartAt p = s.cartAt p :=
  (resetDrive_keeps (P := fun v => v.numbered ∧ v.cartAt p = s.cartAt p) (fun _ w e h => ⟨h.1.of_lib e, by rw [State.cartAt, e]; exact h.2⟩)
    report d (fun _ hr h => ⟨loseCart_numbered h.1 _, (loseCart_cartAt h.1 (State.cartAt_spec hr).1
      (by rw [(State.cartAt_spec hr).2]; exact hp.symm) hoff).trans h.2⟩) (fun _ h => h) ⟨h, rfl⟩).2

/-- A cartridge at another place than the drive stays there. -/
theorem resetDrive_mem (h : s.numbered) (report : MechReport) {d : DriveNo} {q : Cartridge} (hq : q ∈ s.lib.carts)
    (ne : q.place ≠ .drive d) : q ∈ (resetDrive report d s).lib.carts :=
  resetDrive_keeps (P := fun v => v.numbered ∧ q ∈ v.lib.carts) (fun _ w e h => ⟨h.1.of_lib e, by rw [e]; exact h.2⟩)
    report d (fun r hr h => ⟨loseCart_numbered h.1 _, loseCart_mem h.1 (State.cartAt_spec hr).1 h.2
      (by rw [(State.cartAt_spec hr).2]; exact ne)⟩) (fun _ h => h) ⟨h, hq⟩ |>.2

/-- A cartridge trapped in another drive stays so. -/
theorem resetDrive_caught (h : s.numbered) (report : MechReport) {d x : DriveNo} (ne : x ≠ d) {c : Nat} (hc : s.caught d c) :
    (resetDrive report x s).caught d c := by
  obtain ⟨stands, inactive, fault⟩ := hc
  have kept := resetDrive_keeps (P := fun v => v.numbered ∧ v.standsAt c (.drive d) ∧ v.inactive c)
    (fun _ w e h => ⟨h.1.of_lib e, h.2.1.of_lib e, by rw [State.inactive, e]; exact h.2.2⟩) report x (fun r hr h => ?_)
    (fun _ h => ⟨h.1, h.2.1, fun x hx => h.2.2 x (Option.mem_filter_iff.mp hx).1⟩) ⟨h, stands, inactive⟩
  · refine ⟨kept.2.1, kept.2.2, DriveState.eq_fault ?_⟩
    have berth := resetDrive_get report x d s
    rw [if_neg ne.symm] at berth
    exact (congrArg Berth.phase berth).trans (congrArg DriveState.phase fault)
  · obtain ⟨mem, place⟩ := State.cartAt_spec hr
    refine ⟨loseCart_numbered h.1 _, loseCart_standsAt_of_ne (fun e => ne ?_) h.2.1, loseCart_inactive _ h.2.2⟩
    have here := h.1.standsAt mem
    rw [← e, place] at here
    simpa [State.standsAt] using (here.symm.trans h.2.1)

theorem DriveReport.set_berth {r q : Drive} (rep : DriveReport) (cart : Option Cartridge) (h : q.fitted = r.fitted) :
    (DriveReport.set rep cart q).berth = (DriveReport.set rep cart r).berth := by
  cases rep <;> simp [DriveReport.set, Drive.berth, h]

/-- A drive's cartridge as its report finds it: missing where the drive holds none, trapped where it is in FAULT. -/
def State.foundAs (s : State) (rep : DriveReport) (d : DriveNo) (c : Nat) : Prop :=
  (rep = .absent ∨ rep = .vacant → s.missing c) ∧ ∀ f, rep = .fault f → s.caught d c

/-- One drive of the report: its record, and the cartridge recorded in it. -/
theorem resetDrive_own (h : s.numbered) (report : MechReport) (d : DriveNo) :
    ((resetDrive report d s).drives[d]).berth = (DriveReport.set report.drives[d] (s.cartAt (.drive d)) s.drives[d]).berth ∧
      ∀ r, s.cartAt (.drive d) = some r → (resetDrive report d s).foundAs report.drives[d] d r.number := by
  have berth := resetDrive_get report d d s
  rw [if_pos rfl] at berth
  refine ⟨berth, fun r hr => ?_⟩
  obtain ⟨mem, place⟩ := State.cartAt_spec hr
  have lib := resetDrive_lib_some (report := report) hr
  have lost : (loseCart r.number s).missing r.number := loseCart_missing h mem
  refine ⟨fun bare => lost.of_lib (lib.trans ?_), fun f fault => ?_⟩
  · rcases bare with e | e <;> · rw [e]; rfl
  · rw [fault] at lib berth
    have cleared : (resetDrive report d s).lib = (clearActiveOf r.number s).lib := lib
    refine ⟨?_, ?_, DriveState.eq_fault (congrArg Berth.phase berth)⟩
    · rw [State.standsAt, State.cart?, cleared]
      exact place ▸ h.standsAt mem
    · rw [State.inactive, cleared]
      exact fun x hx => by simpa using (Option.mem_filter_iff.mp hx).2

/-- The round of the drives, drive by drive. -/
theorem resetDrives_own (h : s.numbered) (report : MechReport) (d : DriveNo) :
    ((s.forDrives (resetDrive report)).drives[d]).berth =
      (DriveReport.set report.drives[d] (s.cartAt (.drive d)) s.drives[d]).berth ∧
      ∀ r, s.cartAt (.drive d) = some r → (s.forDrives (resetDrive report)).foundAs report.drives[d] d r.number := by
  refine (forDrives_turn (P := fun v => v.numbered ∧ v.cartAt (.drive d) = s.cartAt (.drive d) ∧ (v.drives[d]).berth = (s.drives[d]).berth)
    (Q := fun v => v.numbered ∧ (v.drives[d]).berth = (DriveReport.set report.drives[d] (s.cartAt (.drive d)) s.drives[d]).berth ∧
      ∀ r, s.cartAt (.drive d) = some r → v.foundAs report.drives[d] d r.number) d (fun x v ne ⟨hv, cart, berth⟩ => ?_)
    (fun v ⟨hv, cart, berth⟩ => ?_) (fun x v ne ⟨hv, berth, found⟩ => ?_) ⟨h, rfl, rfl⟩).2
  · have other := resetDrive_get report x d v
    rw [if_neg ne.symm] at other
    exact ⟨resetDrive_numbered hv .., (resetDrive_cartAt hv report (fun e => ne (Place.drive.inj e).symm) nofun).trans cart, other.trans berth⟩
  · obtain ⟨own, found⟩ := resetDrive_own hv report d
    rw [cart] at own found
    exact ⟨resetDrive_numbered hv .., own.trans (DriveReport.set_berth _ _ (congrArg Berth.fitted berth)), found⟩
  · have other := resetDrive_get report x d v
    rw [if_neg ne.symm] at other
    exact ⟨resetDrive_numbered hv .., other.trans berth, fun r hr => ⟨fun bare => resetDrive_missing ((found r hr).1 bare) ..,
      fun f fault => resetDrive_caught hv report ne ((found r hr).2 f fault)⟩⟩

-- Picker, mail slot and sweep -------------------------------------------------------------------------------------

/-- What the round of the drives leaves of the rest. -/
theorem resetDrives_rest (h : s.numbered) (report : MechReport) :
    (s.forDrives (resetDrive report)).numbered ∧ (s.forDrives (resetDrive report)).cartAt .picker = s.cartAt .picker ∧
      (∀ q ∈ s.lib.carts, q.place = .mail → q ∈ (s.forDrives (resetDrive report)).lib.carts) ∧
      (s.forDrives (resetDrive report)).lib.mail = s.lib.mail ∧
      (s.forDrives (resetDrive report)).picker.active = s.picker.active ∧
      ∀ k ∈ (s.forDrives (resetDrive report)).picker.queue, k ∈ s.picker.queue := by
  refine forDrives_kept (P := fun v => v.numbered ∧ v.cartAt .picker = s.cartAt .picker ∧
    (∀ q ∈ s.lib.carts, q.place = .mail → q ∈ v.lib.carts) ∧ v.lib.mail = s.lib.mail ∧ v.picker.active = s.picker.active ∧
      ∀ k ∈ v.picker.queue, k ∈ s.picker.queue) s (fun d v ⟨hv, grip, mem, mail, active, queue⟩ => ?_)
    ⟨h, rfl, fun _ hq _ => hq, rfl, rfl, fun _ hk => hk⟩
  obtain ⟨active', queue'⟩ := resetDrive_picker report d v
  have mail' : (resetDrive report d v).lib.mail = v.lib.mail := by
    rcases resetDrive_lib report d v with same | ⟨r, -, same | same⟩ <;> rw [same] <;> rfl
  exact ⟨resetDrive_numbered hv .., (resetDrive_cartAt hv report (p := .picker) (by nofun) nofun).trans grip,
    fun q hq place => resetDrive_mem hv report (mem q hq place) (by rw [place]; nofun), mail'.trans mail, active'.trans active,
    fun k hk => queue k (queue' k hk)⟩

theorem resetGrip_lost {rep : PickerReport} {r : Cartridge} (h : s.cartAt .picker = some r) (vacant : rep = .vacant) :
    resetGrip rep s = loseCart r.number s := by
  subst vacant
  simp only [resetGrip, h]
  rfl

/-- The grip's report loses at most the cartridge recorded in the grip. -/
theorem resetGrip_cases (rep : PickerReport) (s : State) :
    resetGrip rep s = s ∨ ∃ r, s.cartAt .picker = some r ∧ resetGrip rep s = loseCart r.number s := by
  unfold resetGrip
  split
  · next r hr => exact .inr ⟨r, hr, rfl⟩
  · exact .inl rfl

theorem resetMailCarts_numbered (h : s.numbered) : (resetMailCarts s).numbered := by
  refine (congrArg (List.Pairwise (· ≠ ·)) ?_).mpr h
  refine (List.map_map ..).trans (List.map_congr_left fun r _ => ?_)
  simp only [Function.comp_apply, Cartridge.resetMail]
  split <;> rfl

theorem resetMailCarts_cart? (n : Nat) (s : State) :
    (resetMailCarts s).cart? n = (s.cart? n).map fun r => r.resetMail s.lib.mail (s.importQueued r.number) := by
  refine List.find?_map .. |>.trans (congrArg (Option.map _) (List.find?_congr fun r _ => ?_))
  simp only [Function.comp_apply, Cartridge.resetMail]
  split <;> rfl

/-- The mail slot's sweep leaves the places of the other cartridges. -/
theorem resetMailCarts_standsAt {c : Nat} {p : Place} (hp : p ≠ .mail) (h : s.standsAt c p) : (resetMailCarts s).standsAt c p := by
  obtain ⟨r, hr, place⟩ := Option.map_eq_some_iff.mp h
  rw [State.standsAt, resetMailCarts_cart?, hr, Option.map_some, Option.map_some, Cartridge.resetMail,
    if_neg fun e => hp (place.symm.trans e.1), place]

theorem resetMailCarts_inactive {c : Nat} (h : s.inactive c) : (resetMailCarts s).inactive c := fun x hx =>
  h x (Option.mem_filter_iff.mp hx).1

/-- A cartridge recorded in an EMPTY mail slot is missing, unless an IMPORT of it is queued (R60). -/
theorem resetMailCarts_missing (h : s.numbered) {r : Cartridge} (hr : r ∈ s.lib.carts) (place : r.place = .mail) (empty : s.lib.mail = false)
    (idle : s.importQueued r.number = false) : (resetMailCarts s).missing r.number := by
  refine ⟨?_, fun x hx e => ?_⟩
  · rw [State.standsAt, resetMailCarts_cart?, h.cart? hr, Option.map_some, Option.map_some, Cartridge.resetMail,
      if_pos ⟨place, idle⟩, empty]
    rfl
  · have kept := (Option.mem_filter_iff.mp hx).2
    rw [decide_eq_true_eq, e] at kept
    refine kept (List.mem_map.mpr ⟨r, List.mem_filter.mpr ⟨hr, ?_⟩, rfl⟩)
    simp [place, empty, idle]

/-- The sweep queued, or the picker in FAULT, with the cartridges and drives where they are (R60, R86). -/
theorem queueSweep_spec (rep : PickerReport) (h : s.picker.active = none) :
    (∀ d : DriveNo, (s.drives[d]).berth.LeadsTo ((queueSweep rep s).drives[d]).berth) ∧
    (∀ c p, s.standsAt c p → (queueSweep rep s).standsAt c p) ∧ (∀ c, s.shuns c → (queueSweep rep s).shuns c) ∧
    (rep ≠ .fault → (queueSweep rep s).picker.state ≠ .fault) ∧
    (rep = .fault → (queueSweep rep s).stilled ∧ ∀ o ∈ (queueSweep rep s).fetch.queue, o.state ≠ .waiting) := by
  by_cases fault : rep = .fault
  · have down : queueSweep rep s = pickerFaults s := if_pos fault
    have drops := pickerFaults_drops s
    obtain ⟨lib, drives⟩ := pickerDown_idle h
    rw [down]
    refine ⟨fun d => ?_, fun c p hp => ?_, fun c hc => drops.shuns c ?_, fun up => absurd fault up,
      fun _ => ⟨(drops.stilled (pickerDown_stilled s).1).1, pickerFaults_waiting s⟩⟩
    · have same : ((pickerDown s).drives[d]).berth = (s.drives[d]).berth := by
        rw [drives d]
        rfl
      rw [← same]
      exact drops.berth d
    · exact (drops.place c).trans (hp.of_lib lib)
    · refine ⟨hc.1.of_place (by rw [State.cart?, State.cart?, lib]) fun d hd => ?_, fun x hx => hc.2 x (lib ▸ hx)⟩
      rw [drives d]
      exact hd
  · have queued : queueSweep rep s = s.modPicker fun p => { p with state := p.state.cleared, queue := p.queue ++ s.sweepTasks rep } :=
      if_neg fault
    rw [queued]
    refine ⟨fun _ => .inl rfl, fun _ _ hp => hp, fun _ hc => hc, fun _ => ?_, fun e => absurd e fault⟩
    rw [State.modPicker_picker]
    cases s.picker.state <;> simp [PickerState.cleared]

-- The obligation --------------------------------------------------------------------------------------------------

/-- The library and drives as the report leaves them, before the sweep is queued. -/
def reported (report : MechReport) (s : State) : State := resetMailCarts (resetGrip report.picker (s.forDrives (resetDrive report)))

theorem mechanismReset_eq (report : MechReport) (h : s.mechReset = true) : mechanismReset report s =
    arbitrate (pickerChoose (runAllocator (activeLost (judgePins
      (queueSweep report.picker { reported report s with mechReset := false }))))) := if_pos h

theorem resetGrip_rest (rep : PickerReport) (s : State) :
    (resetGrip rep s).drives = s.drives ∧ (resetGrip rep s).picker = s.picker ∧ (resetGrip rep s).lib.mail = s.lib.mail := by
  rcases resetGrip_cases rep s with same | ⟨r, -, same⟩ <;> rw [same] <;> exact ⟨rfl, rfl, rfl⟩

/-- Every drive and its cartridge after the report (R49, R59, R60, R86). -/
theorem reported_drive (h : s.numbered) (report : MechReport) (d : DriveNo) :
    ((reported report s).drives[d]).berth = (DriveReport.set report.drives[d] (s.cartAt (.drive d)) s.drives[d]).berth ∧
      ∀ r, s.cartAt (.drive d) = some r → (reported report s).foundAs report.drives[d] d r.number := by
  obtain ⟨berth, found⟩ := resetDrives_own h report d
  obtain ⟨numbered, -⟩ := resetDrives_rest h report
  unfold reported
  generalize s.forDrives (resetDrive report) = u at berth found numbered
  have drives : (resetMailCarts (resetGrip report.picker u)).drives = u.drives := (resetGrip_rest report.picker u).1
  refine ⟨by rw [drives, berth], fun r hr => ⟨fun bare => ?_, fun f fault => ?_⟩⟩
  · have missing : (resetGrip report.picker u).missing r.number := by
      rcases resetGrip_cases report.picker u with same | ⟨q, -, same⟩ <;> rw [same]
      · exact (found r hr).1 bare
      · exact loseCart_keeps_missing _ ((found r hr).1 bare)
    exact ⟨resetMailCarts_standsAt (by nofun) missing.1, resetMailCarts_inactive missing.2⟩
  · obtain ⟨stands, inactive, state⟩ := (found r hr).2 f fault
    have kept : (resetGrip report.picker u).standsAt r.number (.drive d) ∧ (resetGrip report.picker u).inactive r.number := by
      rcases resetGrip_cases report.picker u with same | ⟨q, hq, same⟩ <;> rw [same]
      · exact ⟨stands, inactive⟩
      · obtain ⟨mem, place⟩ := State.cartAt_spec hq
        refine ⟨loseCart_standsAt_of_ne (fun e => ?_) stands, loseCart_inactive _ inactive⟩
        have here := numbered.standsAt mem
        rw [← e, place] at here
        simpa using here.symm.trans stands
    exact ⟨resetMailCarts_standsAt (by nofun) kept.1, resetMailCarts_inactive kept.2, by rw [drives, state]⟩

/-- A cartridge that the report finds missing or trapped is barred, and not the active filing side's (R49). -/
theorem reported_shuns (h : s.numbered) (report : MechReport) {c : Cartridge} (hc : c ∈ s.lib.carts)
    (found : (∃ d : DriveNo, s.cartAt (.drive d) = some c ∧ ∀ f, report.drives[d] ≠ .holding f) ∨
      (s.cartAt .picker = some c ∧ report.picker = .vacant) ∨
      (c.place = .mail ∧ s.lib.mail = false ∧ s.importQueued c.number = false)) : (reported report s).shuns c.number := by
  obtain ⟨numbered, grip, mails, mail, -, queue⟩ := resetDrives_rest h report
  rcases found with ⟨d, hd, bare⟩ | ⟨hp, vacant⟩ | ⟨place, empty, idle⟩
  · obtain ⟨missing, caught⟩ := (reported_drive h report d).2 c hd
    cases hrep : report.drives[d] with
    | absent => exact (missing (.inl hrep)).shuns
    | vacant => exact (missing (.inr hrep)).shuns
    | fault f => exact (caught f hrep).shuns
    | holding f => exact absurd hrep (bare f)
  · rw [← grip] at hp
    have lost := loseCart_missing numbered (State.cartAt_spec hp).1
    rw [reported, resetGrip_lost hp vacant]
    exact State.missing.shuns ⟨resetMailCarts_standsAt (by nofun) lost.1, resetMailCarts_inactive lost.2⟩
  · unfold reported
    generalize s.forDrives (resetDrive report) = u at numbered grip mails mail queue
    obtain ⟨-, picker, mail'⟩ := resetGrip_rest report.picker u
    have kept : (resetGrip report.picker u).numbered ∧ c ∈ (resetGrip report.picker u).lib.carts := by
      rcases resetGrip_cases report.picker u with same | ⟨q, hq, same⟩ <;> rw [same]
      · exact ⟨numbered, mails c hc place⟩
      · obtain ⟨mem, grip⟩ := State.cartAt_spec hq
        exact ⟨loseCart_numbered numbered _, loseCart_mem numbered mem (mails c hc place) (by rw [place, grip]; nofun)⟩
    refine (resetMailCarts_missing kept.1 kept.2 place ((mail'.trans mail).trans empty) ?_).shuns
    rw [State.importQueued, List.any_eq_false] at idle ⊢
    rw [picker]
    exact fun k hk => idle k (queue k hk)

/-- Settles O48: the report taken drive by drive, then what goes on from there. -/
theorem mechanismResetTakesTheReport : Obligations.MechanismResetTakesTheReport := by
  intro report s
  refine ⟨fun h => congrArg Host.Outcome.next (if_neg (by rw [h]; nofun)), fun h idle numbered => ?_⟩
  have drive := reported_drive numbered report
  have shuns := fun (c : Cartridge) (hc : c ∈ s.lib.carts) => reported_shuns numbered report hc
  have acts : exec (.mechanismResetCompletion report) s = .next (mechanismReset report s) := rfl
  rw [mechanismReset_eq report h] at acts
  have active : (reported report s).picker.active = none :=
    (congrArg Picker.active (resetGrip_rest report.picker _).2.1).trans ((resetDrives_rest numbered report).2.2.2.2.1.trans idle)
  have shell : (reported report s).shell = s.shell := by
    simp [reported, forDrives_shell (s := s) fun d t => resetDrive_shell (s := t) report d]
  generalize reported report s = v at drive shuns acts active shell
  obtain ⟨berth, stands, barred, up, fault⟩ := queueSweep_spec (s := { v with mechReset := false }) report.picker active
  have swept : (queueSweep report.picker { v with mechReset := false }).shell = ({ s.desk with mechReset := false }, s.link.port) :=
    (queueSweep_shell _ _).trans (congrArg (fun x : Desk × Link => ({ x.1 with mechReset := false }, x.2)) shell)
  generalize queueSweep report.picker { v with mechReset := false } = w at berth stands barred up fault acts swept
  have seeks : w.Seeks (pickerChoose (runAllocator (activeLost (judgePins w)))) :=
    (judgePins_eases w).seeks.trans ((activeLost_seeks _).trans ((runAllocator_eases _).trans (pickerChoose_eases _)).seeks)
  have shell' : (pickerChoose (runAllocator (activeLost (judgePins w)))).shell = ({ s.desk with mechReset := false }, s.link.port) := by
    simp [swept]
  generalize pickerChoose (runAllocator (activeLost (judgePins w))) = t at seeks acts shell'
  have leads : ∀ d : DriveNo, (DriveReport.set report.drives[d] (s.cartAt (.drive d)) s.drives[d]).berth.LeadsTo (t.drives[d]).berth :=
    fun d => (drive d).1 ▸ (berth d).trans (seeks.tends.berth d)
  refine ⟨t, acts, congrArg Prod.fst shell', congrArg Prod.snd shell', fun d => ⟨fun e => ?_, fun f e => ?_, fun f e => ?_, fun e => ?_,
    fun c hc bare => ?_⟩, fun sd hsd c hc number found e => ?_, fun hp => seeks.tends.up (up hp), fun hp => ?_⟩
  · have same := (e ▸ leads d).eq nofun
    exact ⟨DriveState.eq_fault (congrArg Berth.phase same), congrArg Berth.fitted same⟩
  · exact DriveState.eq_fault (congrArg Berth.phase ((e ▸ leads d).eq nofun))
  · have same := (e ▸ leads d).eq nofun
    refine ⟨DriveState.eq_unloading (congrArg Berth.phase same), ?_⟩
    have unrecorded : (t.drives[d]).unrecorded = (s.cartAt (.drive d)).isNone := congrArg Berth.unrecorded same
    rw [unrecorded, Option.isNone_iff_eq_none, State.cartAt, List.find?_eq_none]
    simp
  · rcases e ▸ leads d with same | ⟨-, loading⟩
    · exact ⟨congrArg Berth.mounted same, .inl (DriveState.eq_empty (congrArg Berth.phase same))⟩
    · exact ⟨congrArg Berth.mounted loading, .inr (DriveState.eq_loading (congrArg Berth.phase loading))⟩
  · have missing := ((drive d).2 c hc).1 bare
    exact (seeks.tends.place c.number).trans (stands c.number .offline missing.1)
  · exact (seeks.shuns c.number (barred c.number (shuns c hc found))).1 sd e number
  · obtain ⟨stilled, waitless⟩ := fault hp
    obtain ⟨⟨state, queue, active, -⟩, -⟩ := seeks.stilled stilled
    exact ⟨state, queue, active, seeks.orders.waitless waitless⟩

end Sys2Proof.Machine
end
-- ==== Proofs: the drive fault ====
section
/-!
O55: the faults of the picker and of a drive.
-/
namespace Sys2Proof.Machine

variable {s t u : State}

-- What goes on after a drive's fault ------------------------------------------------------------------------------

/-- What follows a drive's fault leaves: a faulted drive, the orders but for those that fail, and a cartridge out of reach with its
sides. -/
structure State.Bears (s t : State) : Prop where
  spent  : ∀ d : DriveNo, (s.drives[d]).spent → (t.drives[d]).spent ∧ (t.drives[d]).mounted = (s.drives[d]).mounted
  orders : s.wanes t
  shuns  : ∀ c, s.shuns c → t.shuns c ∧ ∀ side, t.side? ⟨c, side⟩ = s.side? ⟨c, side⟩

theorem State.Bears.trans (h : s.Bears t) (k : t.Bears u) : s.Bears u where
  spent d hs :=
    have ⟨ht, mounted⟩ := h.spent d hs
    have ⟨hu, mounted'⟩ := k.spent d ht
    ⟨hu, mounted'.trans mounted⟩
  orders := h.orders.trans k.orders
  shuns c hs :=
    have ⟨ht, sides⟩ := h.shuns c hs
    have ⟨hu, sides'⟩ := k.shuns c ht
    ⟨hu, fun side => (sides' side).trans (sides side)⟩

theorem State.Seeks.bears (h : s.Seeks t) : s.Bears t where
  spent d hd := by
    refine ⟨h.spent d hd, congrArg Berth.mounted ((h.tends.berth d).resolve_right fun e => ?_)⟩
    have phase : (s.drives[d]).berth.phase = .fault := congrArg DriveState.phase hd.1
    exact nomatch phase.symm.trans e.1
  orders := h.orders
  shuns c hc := by
    obtain ⟨active, sides, -⟩ := h.shuns c hc
    exact ⟨⟨h.tends.barred hc.1, active⟩, sides⟩

/-- A change of neither the library nor the drives nor the fetch queue. -/
theorem State.Bears.of_eq (lib : t.lib = s.lib) (drives : t.drives = s.drives) (fetch : t.fetch = s.fetch) : s.Bears t where
  spent d hd := by
    rw [drives]
    exact ⟨hd, rfl⟩
  orders := .of_eq fetch
  shuns c hc := by
    refine ⟨⟨hc.1.of_place (by rw [State.cart?, State.cart?, lib]) fun d hd => by rwa [drives], fun x hx => hc.2 x (lib ▸ hx)⟩,
      fun side => ?_⟩
    rw [State.side?, State.side?, State.cart?, State.cart?, lib]

theorem State.Bears.refl (s : State) : s.Bears s := .of_eq rfl rfl rfl

theorem dropExtent_bears (n : Nat) (s : State) : s.Bears (dropExtent n s) :=
  State.Bears.trans (t := setStep n .side (s.modLodgement n fun l => { l with extent := none, state := .staged })) (.of_eq rfl rfl rfl)
    (removeWrite_eases n _).seeks.bears

theorem letGo_bears (n : Nat) (s : State) : s.Bears (letGo n s) := by
  unfold letGo
  split
  · exact State.Bears.trans (t := s.modFiling fun g => { g with hand := none }) (.of_eq rfl rfl rfl) (removeWrite_eases n _).seeks.bears
  · exact .refl s

theorem dropReserved_bears (k : LodgeKind) (s : State) : s.Bears (dropReserved k s) := by
  unfold dropReserved
  split <;> exact .of_eq rfl rfl rfl

theorem leaveTable_bears (n : Nat) (s : State) : s.Bears (leaveTable n s) := .of_eq rfl rfl rfl

theorem endLodgement_bears (l : Lodgement) (s : State) : s.Bears (endLodgement l s) :=
  (dropReserved_bears l.kind s).trans ((leaveTable_bears l.number _).trans (letGo_bears l.number _))

theorem afterAttempt_bears (n : Nat) (reason : LodgeFailReason) (s : State) : s.Bears (afterAttempt n reason s) := by
  cases h : s.lodgement? n with
  | none =>
    have same : afterAttempt n reason s = s := by simp only [afterAttempt, h]
    rw [same]
    exact .refl s
  | some l =>
    by_cases ha : l.attempts < 2
    · rw [afterAttempt_retry h ha]
      exact (engineAsk_seeks s).bears
    · rw [afterAttempt_last h (Nat.not_lt.mp ha), failLodgement]
      exact (endLodgement_bears l s).trans (((queueNotice_eases _ _).trans (judgePins_eases _)).seeks.trans (engineTake_seeks _)).bears

theorem loseAttempt_bears (run : Option Run) (s : State) : s.Bears (loseAttempt run s) := by
  unfold loseAttempt
  split
  · split
    · exact (dropExtent_bears _ s).trans ((judgePins_eases _).seeks.bears.trans (afterAttempt_bears _ _ _))
    · exact .refl s
  · exact .refl s

theorem failForFault_eases (r : Drive) (held : Option Nat) (s : State) : s.Eases (failForFault r held s) := by
  unfold failForFault
  dsimp only
  split
  · exact (failOrders_eases _ _ _).trans (failOrders_eases _ _ _)
  · exact failOrders_eases _ _ _

-- Orders that fail ------------------------------------------------------------------------------------------------

/-- Orders that fail leave the filing ring, the lodgement in hand and the notices of other kinds. -/
structure State.FailsOrders (s t : State) : Prop where
  pages  : t.rings[filingRing] = s.rings[filingRing]
  inHand : t.inHand = s.inHand
  noted  : ∀ m : Notice, (∀ n reason k, (Notice.orderFailed n reason k).sameSubject m = false) → s.noted m → t.noted m

theorem State.FailsOrders.refl (s : State) : s.FailsOrders s := ⟨rfl, rfl, fun _ _ => id⟩

theorem State.FailsOrders.trans (h : s.FailsOrders t) (k : t.FailsOrders u) : s.FailsOrders u :=
  ⟨k.pages.trans h.pages, k.inHand.trans h.inHand, fun m hm hs => k.noted m hm (h.noted m hm hs)⟩

theorem failOrder_failsOrders (n : Nat) (reason : FailReason) (s : State) : s.FailsOrders (failOrder n reason s) := by
  cases h : s.order? n with
  | none =>
    have same : failOrder n reason s = s := by simp only [failOrder, h]
    rw [same]
    exact .refl s
  | some o =>
    have bench := failOrder_bench h reason
    refine ⟨congrArg Bench.pages bench, congrArg Bench.inHand bench, fun m hm hs => ?_⟩
    have link : (failOrder n reason s).link = _ := congrArg Bench.link bench
    rw [State.noted, link]
    exact State.noted.queueNotice hs (hm ..)

theorem failOrders_failsOrders (ns : List Nat) (reason : FailReason) (s : State) : s.FailsOrders (failOrders ns reason s) :=
  foldl_kept (P := s.FailsOrders) (fun t n ht => ht.trans (failOrder_failsOrders n reason t)) ns s (.refl s)

theorem failForFault_failsOrders (r : Drive) (held : Option Nat) (s : State) : s.FailsOrders (failForFault r held s) := by
  unfold failForFault
  dsimp only
  split
  · exact (failOrders_failsOrders _ _ _).trans (failOrders_failsOrders _ _ _)
  · exact failOrders_failsOrders _ _ _

/-- The orders of the drive's work list are gone, and none waits for the trapped cartridge (R81, R119). -/
theorem failForFault_gone (r : Drive) (held : Option Nat) (s : State) :
    (∀ o ∈ (failForFault r held s).fetch.queue, Work.order o.number ∉ r.work) ∧
      ∀ c, held = some c → ∀ o ∈ (failForFault r held s).fetch.queue, o.loc.cart = c → o.state ≠ .waiting := by
  have listed : ∀ n, Work.order n ∈ r.work → n ∈ r.orderNumbers := fun n hn => List.mem_filterMap.mpr ⟨_, hn, rfl⟩
  have gone := failOrders_gone r.orderNumbers .drive s
  have worked : ∀ o ∈ (failOrders r.orderNumbers .drive s).fetch.queue, Work.order o.number ∉ r.work := fun o ho hw =>
    gone o ho (listed _ hw)
  cases held with
  | none => exact ⟨worked, nofun⟩
  | some c =>
    have failed : failForFault r (some c) s =
      failOrders ((failOrders r.orderNumbers .drive s).waitingFor c) .drive (failOrders r.orderNumbers .drive s) := rfl
    rw [failed]
    refine ⟨fun o ho hw => ?_, fun x hx => ?_⟩
    · obtain ⟨p, hp, number, -⟩ := (failOrders_eases _ _ _).orders o ho
      exact worked p hp (number ▸ hw)
    · cases hx
      exact failOrders_waitingFor (.refl _)

-- The active filing side lost -------------------------------------------------------------------------------------

theorem activeLost_inHand (s : State) : (activeLost s).inHand = s.inHand := by
  unfold activeLost
  split
  · split
    · next n hn =>
      split
      · split
        · rfl
        · have inHand : s.inHand = some n := hn
          have dropped : (dropExtent n s).inHand = some n := by
            rw [State.inHand, dropExtent_filing]
            rfl
          have rest : ∀ sd v, (withdrawLoad sd (judgePins v)).inHand = v.inHand := fun sd v =>
            congrArg Bench.inHand ((withdrawLoad_bench sd _).trans (judgePins_bench v))
          exact ((askSide_asks _ _).inHand.trans (rest _ _)).trans (dropped.trans inHand.symm)
      · rfl
    · rfl
  · rfl

-- The fault of the drive ------------------------------------------------------------------------------------------

/-- The drive in FAULT and its tasks ended, before its work fails (R81). -/
def driveDown (d : DriveNo) (s : State) : State :=
  endTasksOf d (dropReservation d (clearTrapped (s.heldCart d) (s.modDrive d Drive.faulted)))

theorem driveFaults_eq (d : DriveNo) (s : State) : driveFaults d s = pickerChoose (runAllocator
    (queueNotice ((s.drives[d]).faultNotice d (s.heldCart d)) (activeLost (judgePins
      (failForFault s.drives[d] (s.heldCart d) (loseAttempt (s.drives[d]).run (driveDown d s))))))) := rfl

/-- The end of the drive's tasks changes the picker and home slots. -/
theorem endTasksOf_frame (d : DriveNo) (s : State) :
    endTasksOf d s = { s with picker := (endTasksOf d s).picker, lib := (endTasksOf d s).lib } ∧
      (endTasksOf d s).surround.lib = s.surround.lib := by
  have turned : ∀ (a : Active) (v : State), turnLoad a v = { v with picker := (turnLoad a v).picker, lib := (turnLoad a v).lib } ∧
      (turnLoad a v).surround.lib = v.surround.lib := fun a v => by
    unfold turnLoad
    split
    · split
      · refine ⟨?_, congrArg Surround.lib (setHome_surround _ _ _)⟩
        unfold setHome
        split <;> rfl
      · exact ⟨rfl, rfl⟩
    · exact ⟨rfl, rfl⟩
  unfold endTasksOf
  dsimp only
  split
  · split
    · obtain ⟨frame, lib⟩ := turned _ (s.modPicker fun p => { p with
        queue := p.queue.filter fun k => !(decide (k.kind = .unload) && decide (k.drive = some d)) })
      refine ⟨frame.trans ?_, lib⟩
      rfl
    · split <;> exact ⟨rfl, rfl⟩
  · exact ⟨rfl, rfl⟩

theorem clearTrapped_frame (held : Option Nat) (s : State) : clearTrapped held s = { s with lib := (clearTrapped held s).lib } := by
  cases held <;> rfl

/-- The state of a drive's fault before its work fails: the mechanics, and the active filing side (R59, R81). -/
theorem driveDown_frame (d : DriveNo) (s : State) : (driveDown d s).filing = s.filing ∧ (driveDown d s).fetch = s.fetch ∧
    (driveDown d s).rings = s.rings ∧ (driveDown d s).link = s.link ∧
    (driveDown d s).surround.lib = (State.surround (clearTrapped (s.heldCart d) s)).lib ∧
    (driveDown d s).drives[d] = { (s.drives[d]).faulted with reserved := none } := by
  have cleared := clearTrapped_frame (s.heldCart d) (s.modDrive d Drive.faulted)
  have lib : (clearTrapped (s.heldCart d) (s.modDrive d Drive.faulted)).lib = (clearTrapped (s.heldCart d) s).lib := by
    cases s.heldCart d <;> rfl
  unfold driveDown
  generalize clearTrapped (s.heldCart d) (s.modDrive d Drive.faulted) = v at cleared lib
  obtain ⟨frame, home⟩ := endTasksOf_frame d (dropReservation d v)
  have drive := dropReservation_get d v
  have faulted : v.drives[d] = (s.drives[d]).faulted := by
    have drives : v.drives = (s.modDrive d Drive.faulted).drives := by rw [cleared]
    rw [drives, State.modDrive_get, if_pos rfl]
  have kept : (dropReservation d v).filing = v.filing ∧ (dropReservation d v).fetch = v.fetch ∧ (dropReservation d v).rings = v.rings ∧
    (dropReservation d v).link = v.link ∧ (dropReservation d v).lib = v.lib := ⟨rfl, rfl, rfl, rfl, rfl⟩
  generalize dropReservation d v = w at frame home drive kept
  obtain ⟨filing, fetch, rings, link, libs⟩ := kept
  refine ⟨?_, ?_, ?_, ?_, home.trans (State.surround_lib (libs.trans lib)), ?_⟩
  · rw [frame, filing, cleared]
    rfl
  · rw [frame, fetch, cleared]
    rfl
  · rw [frame, rings, cleared]
    rfl
  · rw [frame, link, cleared]
    rfl
  · have same : (endTasksOf d w).drives = w.drives := by rw [frame]
    rw [same, drive, faulted]

theorem driveDown_shell (d : DriveNo) (s : State) : (driveDown d s).shell = s.shell := by simp [driveDown]

theorem driveDown_spent (d : DriveNo) (s : State) :
    ((driveDown d s).drives[d]).spent ∧ ((driveDown d s).drives[d]).mounted = (s.drives[d]).mounted := by
  obtain ⟨-, -, -, -, -, drive⟩ := driveDown_frame d s
  rw [drive]
  exact ⟨⟨rfl, rfl, rfl, rfl, rfl, rfl, rfl⟩, rfl⟩

theorem driveDown_side? (d : DriveNo) (s : State) (sd : SideId) : (driveDown d s).side? sd = s.side? sd := by
  obtain ⟨-, -, -, -, lib, -⟩ := driveDown_frame d s
  rw [State.side?_of_lib lib]
  cases s.heldCart d <;> rfl

/-- The cartridge in the drive is trapped, and not the active filing side's (R59). -/
theorem driveDown_shuns {d : DriveNo} {c : Cartridge} (held : s.cartAt (.drive d) = some c) (hc : s.cart? c.number = some c) :
    (driveDown d s).shuns c.number := by
  obtain ⟨-, -, -, -, lib, drive⟩ := driveDown_frame d s
  have number : s.heldCart d = some c.number := by rw [State.heldCart, held]; rfl
  rw [number] at lib
  have place := congrArg (Option.map fun r : Cartridge => r.place) (State.cart?_of_lib lib c.number)
  rw [Option.map_map, Option.map_map] at place
  have found : (clearTrapped (some c.number) s).cart? c.number = some c := hc
  rw [found] at place
  obtain ⟨q, hq, same⟩ := Option.map_eq_some_iff.mp place
  refine ⟨.inl ((State.trapped_iff hq).mpr ⟨d, same.trans (State.cartAt_spec held).2, by rw [drive]; rfl⟩), fun x hx => ?_⟩
  have active : (driveDown d s).lib.active = (clearActiveOf c.number s).lib.active := (congrArg Library.active lib :)
  rw [active] at hx
  simpa using (Option.mem_filter_iff.mp hx).2

-- The attempt that is lost ----------------------------------------------------------------------------------------

theorem loseAttempt_live {run : Run} (kind : run.kind = .write ∨ run.kind = .verify) (live : run.mark = .live) (s : State) :
    loseAttempt (some run) s = afterAttempt run.owner .drive (judgePins (dropExtent run.owner s)) := by
  refine if_pos ⟨?_, live⟩
  rcases kind with h | h <;> rw [h] <;> rfl

theorem State.shellWith_of_shell (h : t.shell = s.shell) (k : Nat) : t.shellWith k = s.shellWith k := by
  have desk := desk_of_shell h
  have dir : t.dir = s.dir := congrArg Desk.dir desk
  rw [State.shellWith, State.shellWith, desk, dir, port_of_shell h]

theorem State.numbers_of_claims (h : t.claims = s.claims) :
    (t.filing.table.map fun m => m.number) = s.filing.table.map fun m => m.number := by
  rw [← State.claims_map_number, h, State.claims_map_number]

/-- The attempt that is lost changes no more of the desk than the reservation. -/
theorem loseAttempt_shell (run : Option Run) (s : State) : ∃ k, (loseAttempt run s).shell = s.shellWith k := by
  have still : s.shell = s.shellWith s.dir.reserved := rfl
  cases run with
  | none => exact ⟨_, still⟩
  | some u =>
    by_cases h : u.kind.isRead = false ∧ u.mark = .live
    · have lost : loseAttempt (some u) s = afterAttempt u.owner .drive (judgePins (dropExtent u.owner s)) := if_pos h
      have dropped : (judgePins (dropExtent u.owner s)).shell = s.shell := by simp
      rw [lost]
      generalize judgePins (dropExtent u.owner s) = v at dropped
      cases hl : v.lodgement? u.owner with
      | none =>
        have same : afterAttempt u.owner .drive v = v := by simp only [afterAttempt, hl]
        exact ⟨_, by rw [same, dropped, still]⟩
      | some l => exact ⟨_, (afterAttempt_shell hl .drive).trans (State.shellWith_of_shell dropped _)⟩
    · have same : loseAttempt (some u) s = s := if_neg h
      rw [same]
      exact ⟨_, still⟩

/-- The lodgement in hand before what follows its lost attempt: STAGED in step SIDE, with no extent (R145). -/
theorem dropExtent_lost {l : Lodgement} (hl : s.lodgement? l.number = some l) :
    (judgePins (dropExtent l.number s)).lodgement? l.number = some { l with extent := none, state := .staged } ∧
      (judgePins (dropExtent l.number s)).filing.hand = some (l.number, .side) := by
  have filing := judgePins_filing (dropExtent l.number s)
  rw [State.lodgement?, filing]
  refine ⟨dropExtent_lodgement? hl, ?_⟩
  rw [dropExtent_filing]

/-- A first attempt that is lost: the lodgement stays in hand, and takes no extent on the cartridge out of reach (R145, R146). -/
theorem loseAttempt_first {run : Run} {l : Lodgement} {c : Nat} (kind : run.kind = .write ∨ run.kind = .verify) (live : run.mark = .live)
    (owner : run.owner = l.number) (hl : s.lodgement? l.number = some l) (hc : s.shuns c) (ha : l.attempts < 2) :
    (loseAttempt (some run) s).shell = s.shell ∧ (loseAttempt (some run) s).claims = s.claims ∧
      (loseAttempt (some run) s).retries c l.number l.attempts := by
  obtain ⟨found, hand⟩ := dropExtent_lost hl
  have out := ((dropExtent_bears l.number s).trans (judgePins_eases _).seeks.bears).shuns c hc
  have shell : (judgePins (dropExtent l.number s)).shell = s.shell := by simp
  have claims : (judgePins (dropExtent l.number s)).claims = s.claims := by simp
  rw [loseAttempt_live kind live, owner]
  generalize judgePins (dropExtent l.number s) = v at found hand out shell claims
  rw [afterAttempt_retry found ha]
  refine ⟨(engineAsk_shell v).trans shell, (engineAsk_claims v).trans claims, ((engineAsk_seeks v).shuns c out.1).2.2 _ _ ?_⟩
  exact ⟨.side, _, hand, found, nofun, .inl ⟨nofun, rfl, rfl⟩⟩

/-- A second attempt that is lost: the lodgement has failed (R147). -/
theorem loseAttempt_second {run : Run} {l : Lodgement} (kind : run.kind = .write ∨ run.kind = .verify) (live : run.mark = .live)
    (owner : run.owner = l.number) (hl : s.lodgement? l.number = some l) (ha : 2 ≤ l.attempts) :
    (loseAttempt (some run) s).shell = s.shellWith (s.dir.reserved - if l.kind.adds.isSome then 1 else 0) ∧
      ((loseAttempt (some run) s).filing.table.map fun m => m.number) =
        (s.filing.table.map fun m => m.number).filter (fun m => m ≠ l.number) ∧
      (loseAttempt (some run) s).noted (.lodgementFailed l.number l.title .drive) ∧
      (loseAttempt (some run) s).inHand ≠ some l.number ∧
      ∀ x ∈ ((loseAttempt (some run) s).rings[filingRing]).entries, x.owner = l.number → x.live = true → x.streaming = true := by
  obtain ⟨found, hand⟩ := dropExtent_lost hl
  have shell : (judgePins (dropExtent l.number s)).shell = s.shell := by simp
  have claims : (judgePins (dropExtent l.number s)).claims = s.claims := by simp
  rw [loseAttempt_live kind live, owner]
  generalize judgePins (dropExtent l.number s) = v at found hand shell claims
  have taken : v.inHand = some l.number := by rw [State.inHand, hand]; rfl
  have numbers := afterAttempt_numbers found taken .drive
  rw [if_neg (Nat.not_lt.mpr ha), ← State.claims_map_number (s := v), claims, State.claims_map_number] at numbers
  have desk := (afterAttempt_shell found .drive).trans (State.shellWith_of_shell shell _)
  have dir : v.dir = s.dir := congrArg Desk.dir (desk_of_shell shell)
  rw [if_neg (Nat.not_lt.mpr ha), dir] at desk
  exact ⟨desk, numbers, afterAttempt_failed found ha taken .drive⟩

-- What goes on from there -----------------------------------------------------------------------------------------

/-- The drive's work fails, the notice is queued, and the allocator and the picker go on (R81). -/
def faultGoesOn (r : Drive) (held : Option Nat) (n : Notice) (s : State) : State :=
  pickerChoose (runAllocator (queueNotice n (activeLost (judgePins (failForFault r held s)))))

theorem faultGoesOn_seeks (r : Drive) (held : Option Nat) (n : Notice) (s : State) :
    (failForFault r held s).Seeks (faultGoesOn r held n s) :=
  (judgePins_eases _).seeks.trans ((activeLost_seeks _).trans
    (((queueNotice_eases n _).trans (runAllocator_eases _)).trans (pickerChoose_eases _)).seeks)

theorem faultGoesOn_shell (r : Drive) (held : Option Nat) (n : Notice) (s : State) : (faultGoesOn r held n s).shell = s.shell := by
  simp [faultGoesOn]

theorem faultGoesOn_claims (r : Drive) (held : Option Nat) (n : Notice) (s : State) : (faultGoesOn r held n s).claims = s.claims := by
  simp [faultGoesOn]

theorem faultGoesOn_link (r : Drive) (held : Option Nat) (n : Notice) (s : State) :
    (faultGoesOn r held n s).link = (queueNotice n (activeLost (judgePins (failForFault r held s)))).link :=
  congrArg Bench.link ((pickerChoose_bench _).trans (runAllocator_bench _))

theorem faultGoesOn_noted (r : Drive) (held : Option Nat) (n : Notice) (s : State) : (faultGoesOn r held n s).noted n := by
  rw [State.noted, faultGoesOn_link]
  exact queueNotice_noted ..

/-- Where the drive's work fails, the filing ring, the lodgement in hand and the notices of other kinds stay. -/
theorem faultGoesOn_failsOrders (r : Drive) (held : Option Nat) (n : Notice) (s : State) :
    (faultGoesOn r held n s).rings[filingRing] = s.rings[filingRing] ∧ (faultGoesOn r held n s).inHand = s.inHand ∧
      ∀ m : Notice, (∀ k reason p, (Notice.orderFailed k reason p).sameSubject m = false) →
        (∀ k, (Notice.noFilingSpace k).sameSubject m = false) → n.sameSubject m = false → s.noted m → (faultGoesOn r held n s).noted m := by
  have failed := failForFault_failsOrders r held s
  have lost := (State.Spares.of_bench (judgePins_bench (failForFault r held s))).trans (activeLost_spares _)
  have hand : (activeLost (judgePins (failForFault r held s))).inHand = s.inHand :=
    (activeLost_inHand _).trans ((congrArg Bench.inHand (judgePins_bench _)).trans failed.inHand)
  have rest : (faultGoesOn r held n s).bench = _ := (pickerChoose_bench _).trans ((runAllocator_bench _).trans (queueNotice_bench n _))
  refine ⟨(congrArg Bench.pages rest).trans (lost.pages.trans failed.pages), (congrArg Bench.inHand rest).trans hand,
    fun m orders space other hm => ?_⟩
  rw [State.noted, faultGoesOn_link]
  exact State.noted.queueNotice (lost.noted m space (failed.noted m orders hm)) other

-- The obligation --------------------------------------------------------------------------------------------------

/-- The side of the fault's notice: that of the cartridge in the drive, where the drive mounts one (R81). -/
theorem faultNotice_side (r : Drive) (d : DriveNo) {c : Nat} {side : Side} (mounted : ∀ sd, r.mounted = some sd → sd.cart = c → side = sd.side)
    (bare : (∀ sd, r.mounted = some sd → sd.cart ≠ c) → side = .A) :
    r.faultNotice d (some c) = .driveFault (d.val + 1) c side r.state := by
  have known : ((r.mounted.filter fun sd => some c = some sd.cart).map (fun sd => sd.side)).getD .A = side := by
    cases hm : r.mounted with
    | none =>
      rw [hm] at bare
      exact (bare nofun).symm
    | some sd =>
      by_cases hc : sd.cart = c
      · rw [Option.filter_some, if_pos (by simp [hc])]
        exact (mounted sd hm hc).symm
      · rw [Option.filter_some, if_neg (by simpa using Ne.symm hc)]
        exact (bare fun x hx => by rw [hm] at hx; cases hx; exact hc).symm
  simp only [Drive.faultNotice, known]
  rfl

/-- A fault with the attempt of the lodgement in hand lost (R145 to R147). -/
theorem driveFaults_attempt {d : DriveNo} {run : Run} {l : Lodgement} {c : Cartridge} {n : Notice}
    (held : s.cartAt (.drive d) = some c) (hc : s.cart? c.number = some c) (hrun : (s.drives[d]).run = some run)
    (kind : run.kind = .write ∨ run.kind = .verify) (live : run.mark = .live) (hl : s.lodgement? run.owner = some l)
    (other : n.sameSubject (.lodgementFailed l.number l.title .drive) = false) :
    ∃ t, faultGoesOn s.drives[d] (s.heldCart d) n (loseAttempt (s.drives[d]).run (driveDown d s)) = t ∧
      (l.attempts < 2 → t.dir.reserved = s.dir.reserved ∧
        (t.filing.table.map fun m => m.number) = (s.filing.table.map fun m => m.number) ∧ t.retries c.number l.number l.attempts) ∧
      (2 ≤ l.attempts → t.dir.reserved = s.dir.reserved - (if l.kind.adds.isSome then 1 else 0) ∧
        t.filing.table.map (fun m => m.number) = (s.filing.table.map fun m => m.number).filter (fun m => m ≠ l.number) ∧
        (∀ x ∈ (t.rings[filingRing]).entries, x.owner = l.number → x.live = true → x.streaming = true) ∧
        t.inHand ≠ some l.number ∧ t.noted (.lodgementFailed l.number l.title .drive)) := by
  rw [hrun]
  obtain ⟨owner, -⟩ := State.lodgement?_spec hl
  obtain ⟨filing, -⟩ := driveDown_frame d s
  have shuns := driveDown_shuns held hc
  have shell := driveDown_shell d s
  have dir : (driveDown d s).dir = s.dir := congrArg Desk.dir (desk_of_shell shell)
  have found : (driveDown d s).lodgement? l.number = some l := by rw [State.lodgement?, filing, owner]; exact hl
  generalize driveDown d s = w at filing shuns shell dir found
  have first := loseAttempt_first kind live owner.symm found shuns
  have second := loseAttempt_second kind live owner.symm found
  have out := ((loseAttempt_bears (some run) w).shuns c.number shuns).1
  generalize loseAttempt (some run) w = x at first second out
  have seeks := (failForFault_eases s.drives[d] (s.heldCart d) x).seeks.trans (faultGoesOn_seeks s.drives[d] (s.heldCart d) n x)
  have desk := desk_of_shell (faultGoesOn_shell s.drives[d] (s.heldCart d) n x)
  have numbers := State.numbers_of_claims (faultGoesOn_claims s.drives[d] (s.heldCart d) n x)
  obtain ⟨pages, hand, noted⟩ := faultGoesOn_failsOrders s.drives[d] (s.heldCart d) n x
  generalize faultGoesOn s.drives[d] (s.heldCart d) n x = t at seeks desk numbers pages hand noted
  have reserved : t.dir = x.dir := congrArg Desk.dir desk
  refine ⟨t, rfl, fun ha => ?_, fun ha => ?_⟩
  · obtain ⟨shell', claims, retries⟩ := first ha
    have kept : x.dir = w.dir := congrArg Desk.dir (desk_of_shell shell')
    refine ⟨by rw [reserved, kept, dir], numbers.trans ((State.numbers_of_claims claims).trans (by rw [filing])),
      (seeks.shuns c.number out).2.2 _ _ retries⟩
  · obtain ⟨shell', claims, failed, notHand, released⟩ := second ha
    have returned : x.dir.reserved = w.dir.reserved - if l.kind.adds.isSome then 1 else 0 :=
      congrArg (fun k : Desk × Link => k.1.dir.reserved) shell'
    refine ⟨by rw [reserved, returned, dir], numbers.trans (claims.trans (by rw [filing])), ?_, by rwa [hand],
      noted _ (fun _ _ _ => rfl) (fun _ => rfl) other failed⟩
    rw [pages]
    exact released

theorem Drive.faultNotice_none (r : Drive) (d : DriveNo) : r.faultNotice d none = .driveFault (d.val + 1) 0 .A r.state := by
  have none_named : (r.mounted.filter fun sd => (none : Option Nat) = some sd.cart) = none := by
    cases r.mounted <;> simp
  simp only [Drive.faultNotice, none_named]
  rfl

theorem faultNotice_other (r : Drive) (d : DriveNo) (held : Option Nat) (n k : Nat) (reason : LodgeFailReason) :
    (r.faultNotice d held).sameSubject (.lodgementFailed n k reason) = false := rfl

/-- Settles O55: the faults of a drive, then the picker's. -/
theorem faultsClearTheMechanics : Obligations.FaultsClearTheMechanics := by
  intro s
  refine ⟨fun d => ⟨fun h => congrArg Host.Outcome.next (if_pos h), fun ready up => ?_⟩, fun h => congrArg Host.Outcome.next (if_pos h),
    fun ready up => ?_⟩
  · have acts : exec (.driveFault d) s = .next (arbitrate (faultGoesOn s.drives[d] (s.heldCart d) ((s.drives[d]).faultNotice d (s.heldCart d))
        (loseAttempt (s.drives[d]).run (driveDown d s)))) :=
      congrArg Host.Outcome.next (if_neg fun h => h.elim (by rw [ready]; nofun) up)
    have attempt := fun (c : Cartridge) (run : Run) (l : Lodgement) held hc hrun kind live hl =>
      driveFaults_attempt (s := s) (d := d) (c := c) (run := run) (l := l) held hc hrun kind live hl
        (faultNotice_other s.drives[d] d (s.heldCart d) l.number l.title .drive)
    have shuns := fun (c : Cartridge) held hc => driveDown_shuns (s := s) (d := d) (c := c) held hc
    have sides := driveDown_side? d s
    obtain ⟨spent, mounted⟩ := driveDown_spent d s
    obtain ⟨k, shell⟩ := loseAttempt_shell (s.drives[d]).run (driveDown d s)
    rw [State.shellWith_of_shell (driveDown_shell d s)] at shell
    have bears := loseAttempt_bears (s.drives[d]).run (driveDown d s)
    generalize driveDown d s = w at acts attempt shuns sides spent mounted shell bears
    generalize loseAttempt (s.drives[d]).run w = x at acts attempt shell bears
    obtain ⟨worked, waited⟩ := failForFault_gone s.drives[d] (s.heldCart d) x
    have failed := failForFault_eases s.drives[d] (s.heldCart d) x
    have seeks := faultGoesOn_seeks s.drives[d] (s.heldCart d) ((s.drives[d]).faultNotice d (s.heldCart d)) x
    have desk := (faultGoesOn_shell s.drives[d] (s.heldCart d) ((s.drives[d]).faultNotice d (s.heldCart d)) x).trans shell
    have noted := faultGoesOn_noted s.drives[d] (s.heldCart d) ((s.drives[d]).faultNotice d (s.heldCart d)) x
    generalize failForFault s.drives[d] (s.heldCart d) x = y at worked waited failed seeks
    generalize faultGoesOn s.drives[d] (s.heldCart d) ((s.drives[d]).faultNotice d (s.heldCart d)) x = t at acts attempt seeks desk noted
    have all := bears.trans (failed.seeks.trans seeks).bears
    obtain ⟨⟨state, hold, linger, release, pin, run, reserved⟩, mounts⟩ := all.spent d spent
    have newDesk : t.desk = { s.desk with dir := { s.dir with reserved := k } } := congrArg Prod.fst desk
    have newDir : t.dir = { s.dir with reserved := k } := congrArg Desk.dir newDesk
    refine ⟨t, acts, congrArg Prod.snd desk, by rw [newDesk, newDir], by rw [newDir], state, hold, linger, release, pin, run, reserved,
      mounts.trans mounted, fun o ho hw => ?_, fun bare => ?_, fun c held hc => ?_⟩
    · obtain ⟨p, hp, number, -⟩ := seeks.orders o ho
      exact worked p hp (number ▸ hw)
    · have empty : s.heldCart d = none := congrArg (Option.map fun c : Cartridge => c.number) bare
      rwa [empty, Drive.faultNotice_none] at noted
    · have number : s.heldCart d = some c.number := congrArg (Option.map fun c : Cartridge => c.number) held
      obtain ⟨out, same⟩ := all.shuns c.number (shuns c held hc)
      refine ⟨out.2, fun o ho hcart hw => ?_, fun side hmounted hbare => ?_, fun run l e hrun kind live hl hand hext hcart => ?_⟩
      · obtain ⟨p, hp, -, loc, waiting⟩ := seeks.orders o ho
        exact waited c.number number p hp (loc ▸ hcart) (waiting hw)
      · rwa [number, faultNotice_side s.drives[d] d hmounted hbare] at noted
      · obtain ⟨u, rfl, first, second⟩ := attempt c run l held hc hrun kind live hl
        rw [hcart]
        refine ⟨fun side => (same side).trans (sides _), fun ha => ?_, fun ha => ?_⟩
        · obtain ⟨kept, numbers, step, m, inHand, found, extent, going⟩ := first ha
          exact ⟨kept, numbers, ⟨step, inHand⟩, m, found, extent, going.imp And.right And.right⟩
        · obtain ⟨given, numbers, released, notHand, lost⟩ := second ha
          refine ⟨given, numbers, released, fun step hstep => notHand ?_, lost⟩
          rw [State.inHand, hstep]
          rfl
  · obtain ⟨t, acts, desk, port, ⟨state, queue, active, unasked⟩, starts, waiting, noted⟩ := faultPicker_spec ready up
    exact ⟨t, acts, desk, port, state, queue, active, starts, unasked, waiting, noted⟩

end Sys2Proof.Machine
end
-- ==== Proofs: one place to a cartridge ====
section
/-!
SUPPORT for O24: the laws of R42 said of the carriage, which is all that they read of a state: where each recorded cartridge is and
which slot is its home, the mail slot, what the drives hold, and the picker's tasks.
-/
namespace Sys2Proof.Machine

variable {s t : State}

-- The carriage ----------------------------------------------------------------------------------------------------

/-- All that the laws of R42 read of a state. -/
structure Carriage where
  spot      : Nat → Option (Place × Option Nat)
  mail      : Bool
  berth     : DriveNo → Berth
  state     : PickerState
  queue     : List Task
  active    : Option Active
  resetting : Bool
  condition : Condition

/-- A cartridge's place and home slot. -/
def Cartridge.spot (r : Cartridge) : Place × Option Nat := (r.place, r.home)

/-- The carriage of a state. -/
def State.carriage (s : State) : Carriage where
  spot := fun c => (s.cart? c).map Cartridge.spot
  mail := s.lib.mail
  berth := fun d => (s.drives[d]).berth
  state := s.picker.state
  queue := s.picker.queue
  active := s.picker.active
  resetting := s.mechReset
  condition := s.condition

namespace Carriage

variable (k : Carriage)

/-- Cartridge `c` is at place `p`. -/
def At (c : Nat) (p : Place) : Prop := ∃ h, k.spot c = some (p, h)

/-- Slot `n` is the home of cartridge `c`. -/
def Home (c n : Nat) : Prop := ∃ p, k.spot c = some (p, some n)

/-- Cartridge `c` has a record. -/
def Known (c : Nat) : Prop := ∃ x, k.spot c = some x

/-- Whatever cartridge is at place `p`, it is the one that a task carries. -/
def Only (p : Place) (cart : Option Nat) : Prop := ∀ c, k.At c p → cart = some c

/-- No cartridge is at place `p`. -/
def Clear (p : Place) : Prop := ∀ c, ¬ k.At c p

/-- The tasks in progress and queued. -/
def tasks : List Task := (k.active.map fun a => a.task).toList ++ k.queue

/-- An IMPORT of cartridge `c` is in progress, queued or pending. -/
def Importing (pending : List Task) (c : Nat) : Prop := ∃ q ∈ k.tasks ++ pending, q.kind = .importTask ∧ q.cart = some c

/-- Home slot `h` of cartridge `c` agrees with its place (R42). -/
def Agrees (pending : List Task) (c : Nat) (p : Place) (h : Option Nat) : Prop :=
  match p with
  | .slot n => h = some n
  | .picker => h.isSome = true
  | .drive _ => h.isSome = true
  | .mail => k.resetting = true ∨ h = none ∨ k.Importing pending c
  | .offline => h = none

/-- Drive `d` mounts cartridge `c`, recorded. -/
def Mounts (d : DriveNo) (c : Nat) : Prop :=
  (k.berth d).unrecorded = false ∧ (k.berth d).mounted.map (fun sd => sd.cart) = some c

/-- A drive and the cartridge that it mounts (R63, R71). -/
structure Mounting (d : DriveNo) : Prop where
  fitted : (k.berth d).fitted = false → (k.berth d).phase = .fault
  bare   : (k.berth d).fitted = false ∨ (k.berth d).phase = .empty ∨ (k.berth d).phase = .loading → (k.berth d).mounted = none
  held   : ∀ sd ∈ (k.berth d).mounted, (k.berth d).unrecorded = false → k.At sd.cart (.drive d)
  holds  : k.resetting = false → ∀ c, k.At c (.drive d) → (k.berth d).phase ≠ .empty ∧ (k.berth d).phase ≠ .loading ∧ k.Mounts d c

/-- The place an UNLOAD picks from. -/
def unloadFrom (q : Task) : Place := (q.drive.map Place.drive).getD .picker

/-- A queued task: its cartridge is recorded, an UNLOAD's alone where it picks from, and an IMPORT's in an OCCUPIED mail slot. -/
structure Queued (q : Task) : Prop where
  known   : ∀ c, q.cart = some c → k.Known c
  alone   : q.kind = .unload → k.Only (unloadFrom q) q.cart ∧ ∀ c, q.cart = some c → k.At c (unloadFrom q)
  drive   : q.kind = .unload → ∀ d, q.drive = some d → (k.berth d).phase = .unloading ∧ ∀ c, q.cart = some c → k.Mounts d c
  imports : q.kind = .importTask → k.mail = true ∧ q.drive = none ∧ ∃ c, q.cart = some c ∧ k.At c .mail
  exports : q.kind = .exportTask → q.drive = none

/-- The source of the task in progress and the drive that it names (Table 4-3). -/
structure Source (a : Active) : Prop where
  unload  : a.task.kind = .unload → a.source = a.task.drive.map PickPoint.drive ∧ ∀ d, a.task.drive = some d →
    (k.berth d).fitted = true ∧ ((k.berth d).phase = .unloading ∨ a.picked = true ∧ (k.berth d).phase = .fault) ∧
      (a.picked = false → k.Only (.drive d) a.task.cart) ∧ (a.picked = true → k.Clear (.drive d) ∧ (k.berth d).mounted = none) ∧
      ∀ c, a.task.cart = some c → a.wasMounted.map (fun sd => sd.cart) = some c
  load    : a.task.kind = .load → (∃ n, a.source = some (.slot n)) ∧ ∃ d, a.task.drive = some d ∧
    ((k.berth d).phase = .loading ∨ (k.berth d).phase = .fault)
  imports : a.task.kind = .importTask → a.source = some .mail ∧ a.task.drive = none ∧ ∃ c, a.task.cart = some c
  exports : a.task.kind = .exportTask → (∃ n, a.source = some (.slot n)) ∧ a.task.drive = none

/-- The target of the task in progress can take its cartridge (R42, R44, R56). -/
structure Target (a : Active) : Prop where
  slot  : ∀ n, a.target = .slot n → a.waiting = false → ∀ c, a.task.cart = some c → k.Home c n
  drive : ∀ d, a.target = .drive d → a.task.drive = some d ∧
    (a.task.kind = .load ∧ (k.berth d).phase = .loading ∨ a.task.kind = .unload ∧ a.picked = true)
  mail  : a.target = .mail → a.task.kind ≠ .load ∧ (a.picked = false → a.task.kind = .exportTask) ∧
    (a.picked = true → a.waiting = false → k.Clear .mail)

/-- The task in progress: the picker is BUSY, no return from the grip waits, and its cartridge is at its source before the pick,
alone in the grip after it (R42, R44). -/
structure Working (a : Active) : Prop where
  busy   : k.state = .busy
  grips  : ∀ q ∈ k.queue, q.kind = .unload → q.drive ≠ none
  known  : ∀ c, a.task.cart = some c → k.Known c
  picked : a.picked = true → k.Only .picker a.task.cart ∧ ∀ c, a.task.cart = some c → k.At c .picker
  picks  : a.picked = false → ∃ p, a.source = some p ∧ a.waiting = false ∧ k.Clear .picker ∧
    ∀ c, a.task.cart = some c → k.At c (placeOf p)
  source : k.Source a
  target : k.Target a

/-- The laws of R42, with the IMPORTs of `pending` counted as queued. -/
structure Lawful (pending : List Task) : Prop where
  apart  : ∀ a b p, k.At a p → k.At b p → p ≠ .offline → a = b
  homes  : ∀ a b n, k.Home a n → k.Home b n → a = b
  agree  : ∀ c p h, k.spot c = some (p, h) → k.Agrees pending c p h
  bare   : k.condition = .unformatted → k.resetting = false ∧ (∀ c, ¬ k.Known c) ∧ k.active = none ∧ k.queue = [] ∧
    ∀ d, (k.berth d).phase = .empty ∧ (k.berth d).fitted = true ∧ (k.berth d).mounted = none
  sweep  : k.resetting = true → k.active = none ∧ (∀ q ∈ k.queue, q.kind ≠ .unload) ∧
    ∀ d, (k.berth d).fitted = true ∧ (k.berth d).mounted = none ∧ ((k.berth d).phase = .empty ∨ (k.berth d).phase = .fault)
  mount  : ∀ d, k.Mounting d
  queued : ∀ q ∈ k.queue, k.Queued q
  working : ∀ a, k.active = some a → k.Working a
  compat : k.tasks.Pairwise Task.compatible
  mailed : k.resetting = false → k.state ≠ .fault → ∀ c, k.At c .mail → k.mail = true ∨
    ∃ a, k.active = some a ∧ a.picked = false ∧ a.source = some .mail ∧ a.task.cart = some c

end Carriage

-- The laws of the state -------------------------------------------------------------------------------------------

theorem DriveState.phase_iff (x : DriveState) : (x.phase = .empty ↔ x = .empty) ∧ (x.phase = .loading ↔ x = .loading) ∧
    (x.phase = .unloading ↔ x = .unloading) ∧ (x.phase = .fault ↔ x = .fault) := by
  cases x <;> simp [DriveState.phase]

theorem State.carriage_at (h : s.numbered) {c : Nat} {p : Place} : s.carriage.At c p ↔ s.recordedAt c p := by
  refine ⟨fun ⟨x, hx⟩ => ?_, fun ⟨r, hr, number, place⟩ => ⟨r.home, ?_⟩⟩
  · obtain ⟨r, hr, spot⟩ := Option.map_eq_some_iff.mp hx
    obtain ⟨number, mem⟩ := State.cart?_spec hr
    exact ⟨r, mem, number, congrArg Prod.fst spot⟩
  · have found := h.cart? hr
    rw [number] at found
    simp only [State.carriage, found, Option.map_some, Cartridge.spot, place]

theorem State.carriage_spot (h : s.numbered) {r : Cartridge} (hr : r ∈ s.lib.carts) : s.carriage.spot r.number = some (r.place, r.home) := by
  simp only [State.carriage, h.cart? hr, Option.map_some, Cartridge.spot]

theorem State.carriage_spot_iff (h : s.numbered) {c : Nat} {p : Place} {n : Option Nat} :
    s.carriage.spot c = some (p, n) ↔ ∃ r ∈ s.lib.carts, r.number = c ∧ r.place = p ∧ r.home = n := by
  refine ⟨fun hx => ?_, fun ⟨r, hr, number, place, home⟩ => ?_⟩
  · obtain ⟨r, hr, spot⟩ := Option.map_eq_some_iff.mp hx
    obtain ⟨number, mem⟩ := State.cart?_spec hr
    exact ⟨r, mem, number, congrArg Prod.fst spot, congrArg Prod.snd spot⟩
  · rw [← number, State.carriage_spot h hr, place, home]

theorem State.carriage_known (h : s.numbered) {c : Nat} : s.carriage.Known c ↔ ∃ r ∈ s.lib.carts, r.number = c := by
  refine ⟨fun ⟨⟨p, n⟩, hx⟩ => ?_, fun ⟨r, hr, number⟩ => ⟨_, number ▸ State.carriage_spot h hr⟩⟩
  obtain ⟨r, hr, number, -⟩ := (State.carriage_spot_iff h).mp hx
  exact ⟨r, hr, number⟩

theorem State.carriage_only (h : s.numbered) {p : Place} {cart : Option Nat} : s.carriage.Only p cart ↔ s.onlyAt p cart := by
  refine ⟨fun hx r hr place => hx r.number ((State.carriage_at h).mpr ⟨r, hr, rfl, place⟩), fun hx c hc => ?_⟩
  obtain ⟨r, hr, rfl, place⟩ := (State.carriage_at h).mp hc
  exact hx r hr place

theorem State.carriage_clear (h : s.numbered) {p : Place} : s.carriage.Clear p ↔ s.clearAt p := by
  refine ⟨fun hx r hr place => hx r.number ((State.carriage_at h).mpr ⟨r, hr, rfl, place⟩), fun hx c hc => ?_⟩
  obtain ⟨r, hr, rfl, place⟩ := (State.carriage_at h).mp hc
  exact hx r hr place

theorem State.carriage_importing {c : Nat} : s.carriage.Importing [] c ↔ s.importing c = true := by
  have tasks : s.carriage.tasks = s.picker.tasks := rfl
  simp only [Carriage.Importing, State.importing, tasks, List.append_nil, List.any_eq_true, Bool.and_eq_true, decide_eq_true_eq]

theorem State.carriage_agrees {r : Cartridge} : s.carriage.Agrees [] r.number r.place r.home ↔ s.homeAgrees r = true := by
  unfold Carriage.Agrees State.homeAgrees
  rw [State.carriage_importing]
  cases r.place <;> simp [State.carriage, or_assoc]

theorem pairwise_iff_of_key {α : Type} {key : α → Nat} {R : α → α → Prop} (symm : ∀ a b, R a b → R b a) {xs : List α}
    (h : (xs.map key).Pairwise (· ≠ ·)) : xs.Pairwise R ↔ ∀ a ∈ xs, ∀ b ∈ xs, key a ≠ key b → R a b := by
  have symmetric : Std.Symm R := ⟨symm⟩
  refine ⟨fun hx a ha b hb ne => hx.forall ha hb fun e => ne (congrArg key e), fun hx => ?_⟩
  exact (List.pairwise_map.mp h).imp_of_mem fun ha hb ne => hx _ ha _ hb ne

theorem State.placeLaw_iff (h : s.numbered) : s.placeLaw ↔
    (∀ a b p, s.carriage.At a p → s.carriage.At b p → p ≠ .offline → a = b) ∧
      (∀ a b n, s.carriage.Home a n → s.carriage.Home b n → a = b) ∧
      ∀ c p n, s.carriage.spot c = some (p, n) → s.carriage.Agrees [] c p n := by
  have places := pairwise_iff_of_key (R := fun a b : Cartridge => a.place ≠ b.place ∨ a.place = .offline)
    (fun a b hab => by
      by_cases e : a.place = b.place
      · exact .inr (e ▸ hab.resolve_left fun ne => ne e)
      · exact .inl (Ne.symm e)) h
  have homes := pairwise_iff_of_key (R := fun a b : Cartridge => a.home ≠ b.home ∨ a.home = none)
    (fun a b hab => by
      by_cases e : a.home = b.home
      · exact .inr (e ▸ hab.resolve_left fun ne => ne e)
      · exact .inl (Ne.symm e)) h
  rw [State.placeLaw, places, homes]
  refine ⟨fun ⟨_, hp, hh, ha⟩ => ⟨fun a b p hap hbp hoff => ?_, fun a b n ⟨p, hap⟩ ⟨q, hbq⟩ => ?_, fun c p n hc => ?_⟩,
    fun ⟨hp, hh, ha⟩ => ⟨h, fun a hma b hmb ne => ?_, fun a hma b hmb ne => ?_, fun r hr => ?_⟩⟩
  · obtain ⟨r, hr, rfl, place⟩ := (State.carriage_at h).mp hap
    obtain ⟨q, hq, rfl, place'⟩ := (State.carriage_at h).mp hbp
    by_contra ne
    exact (hp r hr q hq ne).elim (fun k => k (place.trans place'.symm)) fun k => hoff (place.symm.trans k)
  · obtain ⟨r, hr, rfl, -, home⟩ := (State.carriage_spot_iff h).mp hap
    obtain ⟨q, hq, rfl, -, home'⟩ := (State.carriage_spot_iff h).mp hbq
    by_contra ne
    exact (hh r hr q hq ne).elim (fun k => k (home.trans home'.symm)) fun k => nomatch home.symm.trans k
  · obtain ⟨r, hr, rfl, rfl, rfl⟩ := (State.carriage_spot_iff h).mp hc
    exact State.carriage_agrees.mpr (ha r hr)
  · by_cases e : a.place = b.place
    · refine .inr (by_contra fun hoff => ne (hp a.number b.number a.place ?_ ?_ hoff))
      · exact (State.carriage_at h).mpr ⟨a, hma, rfl, rfl⟩
      · exact (State.carriage_at h).mpr ⟨b, hmb, rfl, e.symm⟩
    · exact .inl e
  · by_cases e : a.home = b.home
    · cases hn : a.home with
      | none => exact .inr rfl
      | some n =>
        refine absurd (hh a.number b.number n ⟨a.place, ?_⟩ ⟨b.place, ?_⟩) ne
        · rw [State.carriage_spot h hma, hn]
        · rw [State.carriage_spot h hmb, ← e, hn]
    · exact .inl e
  · exact State.carriage_agrees.mp (ha _ _ _ (State.carriage_spot h hr))

theorem State.mountLaw_iff (h : s.numbered) (d : DriveNo) : s.mountLaw d ↔ s.carriage.Mounting d := by
  obtain ⟨empty, loading, -, fault⟩ := DriveState.phase_iff (s.drives[d]).state
  have phase : (s.carriage.berth d).phase = (s.drives[d]).state.phase := rfl
  refine ⟨fun ⟨fitted, bare, held, holds⟩ => ⟨fun hf => ?_, fun hb => ?_, fun sd hsd hu => ?_, fun hr c hc => ?_⟩,
    fun ⟨fitted, bare, held, holds⟩ => ⟨fun hf => fault.mp (fitted hf), fun hb => bare ?_, fun sd hsd hu => ?_, fun hr r hm hp => ?_⟩⟩
  · exact fault.mpr (fitted hf)
  · rw [phase, empty, loading] at hb
    exact bare hb
  · exact (State.carriage_at h).mpr (held sd hsd hu)
  · obtain ⟨r, hm, rfl, place⟩ := (State.carriage_at h).mp hc
    obtain ⟨a, b, mounts⟩ := holds hr r hm place
    exact ⟨mt empty.mp a, mt loading.mp b, mounts⟩
  · rw [phase, empty, loading]
    exact hb
  · exact (State.carriage_at h).mp (held sd hsd hu)
  · obtain ⟨a, b, mounts⟩ := holds hr r.number ((State.carriage_at h).mpr ⟨r, hm, rfl, hp⟩)
    exact ⟨mt empty.mpr a, mt loading.mpr b, mounts⟩

theorem State.unloadLaw_iff (h : s.numbered) (q : Task) : s.unloadLaw q ↔
    (s.carriage.Only (Carriage.unloadFrom q) q.cart ∧ ∀ c, q.cart = some c → s.carriage.At c (Carriage.unloadFrom q)) ∧
      ∀ d, q.drive = some d → (s.carriage.berth d).phase = .unloading ∧ ∀ c, q.cart = some c → s.carriage.Mounts d c := by
  unfold State.unloadLaw Carriage.unloadFrom
  cases hd : q.drive with
  | none =>
    simp only [Option.map_none, Option.getD_none, State.carriage_only h, State.carriage_at h]
    exact ⟨fun k => ⟨k, nofun⟩, fun k => k.1⟩
  | some d =>
    obtain ⟨-, -, unloading, -⟩ := DriveState.phase_iff (s.drives[d]).state
    simp only [Option.map_some, Option.getD_some, State.carriage_only h, State.carriage_at h]
    refine ⟨fun ⟨state, only, held⟩ => ⟨⟨only, fun c hc => (held c hc).1⟩, fun x hx => ?_⟩, fun ⟨⟨only, held⟩, drive⟩ => ?_⟩
    · cases hx
      exact ⟨unloading.mpr state, fun c hc => (held c hc).2⟩
    · obtain ⟨phase, mounts⟩ := drive d rfl
      exact ⟨unloading.mp phase, only, fun c hc => ⟨held c hc, mounts c hc⟩⟩

theorem State.queuedLaw_iff (h : s.numbered) (q : Task) : s.queuedLaw q ↔ s.carriage.Queued q := by
  rw [State.queuedLaw, State.unloadLaw_iff h]
  simp only [← State.carriage_known h, ← State.carriage_at h]
  exact ⟨fun ⟨known, unload, imports, exports⟩ => ⟨known, fun e => (unload e).1, fun e => (unload e).2, imports, exports⟩,
    fun ⟨known, alone, drive, imports, exports⟩ => ⟨known, fun e => ⟨alone e, drive e⟩, imports, exports⟩⟩

theorem State.gripLaw_iff (h : s.numbered) (a : Active) : s.gripLaw a ↔
    (a.picked = true → s.carriage.Only .picker a.task.cart ∧ ∀ c, a.task.cart = some c → s.carriage.At c .picker) ∧
      (a.picked = false → ∃ p, a.source = some p ∧ a.waiting = false ∧ s.carriage.Clear .picker ∧
        ∀ c, a.task.cart = some c → s.carriage.At c (placeOf p)) := by
  unfold State.gripLaw
  simp only [State.carriage_only h, State.carriage_clear h, State.carriage_at h]
  cases hp : a.picked with
  | true => exact ⟨fun k => ⟨fun _ => k, nofun⟩, fun k => k.1 rfl⟩
  | false =>
    cases hs : a.source with
    | none => exact ⟨fun k => k.elim, fun k => by obtain ⟨p, hp, -⟩ := k.2 rfl; cases hp⟩
    | some p =>
      refine ⟨fun k => ⟨nofun, fun _ => ⟨p, rfl, k⟩⟩, fun k => ?_⟩
      obtain ⟨q, hq, rest⟩ := k.2 rfl
      cases hq
      exact rest

theorem fromSlot_iff (p : Option PickPoint) : fromSlot p = true ↔ ∃ n, p = some (.slot n) := by
  rcases p with _ | n | d <;> simp [fromSlot]

theorem State.sourceLaw_iff (h : s.numbered) (a : Active) : s.sourceLaw a ↔ s.carriage.Source a := by
  have unloading := fun d : DriveNo => (DriveState.phase_iff (s.drives[d]).state).2.2.1
  have loading := fun d : DriveNo => (DriveState.phase_iff (s.drives[d]).state).2.1
  have fault := fun d : DriveNo => (DriveState.phase_iff (s.drives[d]).state).2.2.2
  have phase : ∀ d, (s.carriage.berth d).phase = (s.drives[d]).state.phase := fun _ => rfl
  unfold State.sourceLaw
  cases hk : a.task.kind with
  | unload =>
    refine ⟨fun ⟨source, drive⟩ => ⟨fun _ => ⟨source, fun d hd => ?_⟩, by simp [hk], by simp [hk], by simp [hk]⟩,
      fun law => ⟨(law.unload hk).1, fun d hd => ?_⟩⟩
    · obtain ⟨fitted, state, only, cleared, was⟩ := drive d hd
      rw [phase, unloading, fault, State.carriage_only h, State.carriage_clear h]
      exact ⟨fitted, state, only, cleared, was⟩
    · have drive := (law.unload hk).2 d hd
      rw [phase, unloading, fault, State.carriage_only h, State.carriage_clear h] at drive
      obtain ⟨fitted, state, only, cleared, was⟩ := drive
      exact ⟨fitted, state, only, cleared, was⟩
  | load =>
    refine ⟨fun ⟨source, some_drive, drive⟩ => ⟨by simp [hk], fun _ => ⟨(fromSlot_iff _).mp source, ?_⟩, by simp [hk], by simp [hk]⟩,
      fun law => ?_⟩
    · obtain ⟨d, hd⟩ := Option.isSome_iff_exists.mp some_drive
      exact ⟨d, hd, by rw [phase, loading, fault]; exact drive d hd⟩
    · obtain ⟨source, d, hd, state⟩ := law.load hk
      rw [phase, loading, fault] at state
      refine ⟨(fromSlot_iff _).mpr source, by simp [hd], fun x hx => ?_⟩
      cases hd.symm.trans hx
      exact state
  | importTask =>
    refine ⟨fun ⟨source, drive, cart⟩ => ⟨by simp [hk], by simp [hk],
      fun _ => ⟨source, drive, Option.isSome_iff_exists.mp cart⟩, by simp [hk]⟩,
      fun law => ?_⟩
    obtain ⟨source, drive, cart⟩ := law.imports hk
    exact ⟨source, drive, Option.isSome_iff_exists.mpr cart⟩
  | exportTask =>
    refine ⟨fun ⟨source, drive⟩ => ⟨by simp [hk], by simp [hk], by simp [hk], fun _ => ⟨(fromSlot_iff _).mp source, drive⟩⟩, fun law => ?_⟩
    obtain ⟨source, drive⟩ := law.exports hk
    exact ⟨(fromSlot_iff _).mpr source, drive⟩

theorem State.carriage_home (h : s.numbered) {c n : Nat} : s.carriage.Home c n ↔ ∃ r ∈ s.lib.carts, r.number = c ∧ r.home = some n := by
  refine ⟨fun ⟨p, hp⟩ => ?_, fun ⟨r, hr, number, home⟩ => ⟨r.place, ?_⟩⟩
  · obtain ⟨r, hr, number, -, home⟩ := (State.carriage_spot_iff h).mp hp
    exact ⟨r, hr, number, home⟩
  · rw [← number, State.carriage_spot h hr, home]

theorem State.targetLaw_iff (h : s.numbered) {a : Active} (known : ∀ c, a.task.cart = some c → s.carriage.Known c) :
    s.targetLaw a ↔ s.carriage.Target a := by
  have loading := fun d : DriveNo => (DriveState.phase_iff (s.drives[d]).state).2.1
  have phase : ∀ d, (s.carriage.berth d).phase = (s.drives[d]).state.phase := fun _ => rfl
  unfold State.targetLaw
  cases ht : a.target with
  | slot n =>
    refine ⟨fun law => ⟨fun x hx wait c hc => ?_, by simp [ht], by simp [ht]⟩, fun law wait c hc r hr number => ?_⟩
    · cases ht.symm.trans hx
      obtain ⟨r, hr, number⟩ := (State.carriage_known h).mp (known c hc)
      exact (State.carriage_home h).mpr ⟨r, hr, number, law wait c hc r hr number⟩
    · obtain ⟨q, hq, number', home⟩ := (State.carriage_home h).mp (law.slot n ht wait c hc)
      rw [h.eq_of_number hr hq (number.trans number'.symm), home]
  | drive d =>
    refine ⟨fun law => ⟨by simp [ht], fun x hx => ?_, by simp [ht]⟩, fun law => ?_⟩
    · cases ht.symm.trans hx
      rw [phase, loading]
      exact law
    · have drive := law.drive d ht
      rw [phase, loading] at drive
      exact drive
  | mail =>
    refine ⟨fun law => ⟨by simp [ht], by simp [ht], fun _ => ?_⟩, fun law => ?_⟩
    · rw [State.carriage_clear h]
      exact law
    · have mail := law.mail ht
      rw [State.carriage_clear h] at mail
      exact mail

theorem fromGrip_eq_false (q : Task) : q.fromGrip = false ↔ (q.kind = .unload → q.drive ≠ none) := by
  simp [Task.fromGrip]

theorem State.activeTaskLaw_iff (h : s.numbered) : s.activeTaskLaw ↔ ∀ a, s.carriage.active = some a → s.carriage.Working a := by
  refine forall_congr' fun a => imp_congr_right fun _ => ?_
  simp only [fromGrip_eq_false, ← State.carriage_known h, State.gripLaw_iff h, State.sourceLaw_iff h]
  refine ⟨fun ⟨busy, grips, known, ⟨picked, picks⟩, source, target⟩ =>
    ⟨busy, grips, known, picked, picks, source, (State.targetLaw_iff h known).mp target⟩,
    fun ⟨busy, grips, known, picked, picks, source, target⟩ =>
      ⟨busy, grips, known, ⟨picked, picks⟩, source, (State.targetLaw_iff h known).mpr target⟩⟩

theorem State.sweepLaw_iff : s.sweepLaw ↔ (s.carriage.resetting = true → s.carriage.active = none ∧
    (∀ q ∈ s.carriage.queue, q.kind ≠ .unload) ∧ ∀ d, (s.carriage.berth d).fitted = true ∧ (s.carriage.berth d).mounted = none ∧
      ((s.carriage.berth d).phase = .empty ∨ (s.carriage.berth d).phase = .fault)) := by
  have empty := fun d : DriveNo => (DriveState.phase_iff (s.drives[d]).state).1
  have fault := fun d : DriveNo => (DriveState.phase_iff (s.drives[d]).state).2.2.2
  have phase : ∀ d, (s.carriage.berth d).phase = (s.drives[d]).state.phase := fun _ => rfl
  simp only [phase, empty, fault]
  rfl

theorem State.bareLaw_iff (h : s.numbered) : s.bareLaw ↔ (s.carriage.condition = .unformatted → s.carriage.resetting = false ∧
    (∀ c, ¬ s.carriage.Known c) ∧ s.carriage.active = none ∧ s.carriage.queue = [] ∧
      ∀ d, (s.carriage.berth d).phase = .empty ∧ (s.carriage.berth d).fitted = true ∧ (s.carriage.berth d).mounted = none) := by
  have empty := fun d : DriveNo => (DriveState.phase_iff (s.drives[d]).state).1
  have phase : ∀ d, (s.carriage.berth d).phase = (s.drives[d]).state.phase := fun _ => rfl
  have carts : (∀ c, ¬ s.carriage.Known c) ↔ s.lib.carts = [] := by
    simp only [State.carriage_known h, List.eq_nil_iff_forall_not_mem]
    exact ⟨fun k r hr => k r.number ⟨r, hr, rfl⟩, fun k c ⟨r, hr, _⟩ => k r hr⟩
  simp only [phase, empty, carts]
  rfl

/-- The laws of R42 are laws of the carriage. -/
theorem State.lawful_iff (h : s.numbered) : s.placeLaw ∧ s.carryLaw ↔ s.carriage.Lawful [] := by
  have mailed : (s.mechReset = false → s.picker.state ≠ .fault →
      ∀ r ∈ s.lib.carts, r.place = .mail → s.lib.mail = true ∨ s.pickingFromMail r.number) ↔
    (s.carriage.resetting = false → s.carriage.state ≠ .fault → ∀ c, s.carriage.At c .mail → s.carriage.mail = true ∨
      ∃ a, s.carriage.active = some a ∧ a.picked = false ∧ a.source = some .mail ∧ a.task.cart = some c) := by
    refine imp_congr_right fun _ => imp_congr_right fun _ => ⟨fun k c hc => ?_, fun k r hr place => ?_⟩
    · obtain ⟨r, hr, rfl, place⟩ := (State.carriage_at h).mp hc
      exact k r hr place
    · exact k r.number ((State.carriage_at h).mpr ⟨r, hr, rfl, place⟩)
  rw [State.placeLaw_iff h, State.carryLaw, State.bareLaw_iff h, State.sweepLaw_iff, State.activeTaskLaw_iff h, mailed]
  simp only [State.mountLaw_iff h, State.queuedLaw_iff h]
  exact ⟨fun ⟨⟨apart, homes, agree⟩, bare, sweep, mount, queued, working, compat, mailed⟩ =>
    ⟨apart, homes, agree, bare, sweep, mount, queued, working, compat, mailed⟩,
    fun ⟨apart, homes, agree, bare, sweep, mount, queued, working, compat, mailed⟩ =>
      ⟨⟨apart, homes, agree⟩, bare, sweep, mount, queued, working, compat, mailed⟩⟩

/-- The law that every step keeps, with the IMPORTs of `pending` counted as queued. -/
def State.Carried (s : State) (pending : List Task) : Prop := s.numbered ∧ s.carriage.Lawful pending

theorem State.carried_iff : s.Carried [] ↔ s.placeLaw ∧ s.carryLaw :=
  ⟨fun ⟨h, law⟩ => (State.lawful_iff h).mpr law, fun law => ⟨law.1.1, (State.lawful_iff law.1.1).mp law⟩⟩

end Sys2Proof.Machine
end
-- ==== Proofs: how the laws of places are kept ====
section
/-!
SUPPORT for O24: what the laws of R42 need where one cartridge moves, or none; the tasks that the picker begins.
-/
namespace Sys2Proof.Machine

variable {f : Prop} {s t : State}

namespace Carriage

variable {k j : Carriage} {pending : List Task} {q : Task} {a : Active} {cart : Option Nat} {d : DriveNo}

-- One cartridge moves ---------------------------------------------------------------------------------------------

/-- The cartridges have the same places but for the one that `cart` names, if it names one. -/
def SamePlaces (cart : Option Nat) (k j : Carriage) : Prop :=
  (∀ c, cart ≠ some c → ∀ p, j.At c p ↔ k.At c p) ∧ ∀ c, k.Known c → j.Known c

/-- The cartridges have the same places and home slots but for the one that `cart` names, if it names one. -/
def SameBut (cart : Option Nat) (k j : Carriage) : Prop :=
  (∀ c, cart ≠ some c → j.spot c = k.spot c) ∧ ∀ c, k.Known c → j.Known c

theorem SameBut.of_eq (h : j.spot = k.spot) : SameBut none k j := ⟨fun c _ => congrFun h c, fun c hc => by rwa [Known, h]⟩

theorem SameBut.places (h : SameBut cart k j) : SamePlaces cart k j := ⟨fun c ne p => by rw [At, At, h.1 c ne], h.2⟩

theorem SamePlaces.at (h : SamePlaces cart k j) {c : Nat} (ne : cart ≠ some c) (p : Place) : j.At c p ↔ k.At c p := h.1 c ne p

theorem SameBut.home (h : SameBut cart k j) {c : Nat} (ne : cart ≠ some c) (n : Nat) : j.Home c n ↔ k.Home c n := by
  rw [Home, Home, h.1 c ne]

theorem at_unique {c : Nat} {p p' : Place} (h : k.At c p) (h' : k.At c p') : p = p' := by
  obtain ⟨n, hn⟩ := h
  obtain ⟨m, hm⟩ := h'
  exact congrArg Prod.fst (Option.some.inj (hn.symm.trans hm))

theorem SamePlaces.only (h : SamePlaces cart k j) {p : Place} {x : Option Nat} (only : k.Only p x) (out : ∀ c, cart = some c → ¬ j.At c p) :
    j.Only p x := fun c hc => by
  by_cases e : cart = some c
  · exact absurd hc (out c e)
  · exact only c ((h.at e p).mp hc)

theorem SamePlaces.clear (h : SamePlaces cart k j) {p : Place} (clear : k.Clear p) (out : ∀ c, cart = some c → ¬ j.At c p) : j.Clear p :=
  fun c hc => by
  by_cases e : cart = some c
  · exact out c e hc
  · exact clear c ((h.at e p).mp hc)

theorem SamePlaces.apart (h : SamePlaces cart k j) (apart : ∀ a b p, k.At a p → k.At b p → p ≠ .offline → a = b)
    (alone : ∀ c p b, cart = some c → j.At c p → p ≠ .offline → k.At b p → b = c) :
    ∀ a b p, j.At a p → j.At b p → p ≠ .offline → a = b := by
  intro a b p ha hb off
  by_cases ea : cart = some a <;> by_cases eb : cart = some b
  · exact Option.some.inj (ea.symm.trans eb)
  · exact (alone a p b ea ha off ((h.at eb p).mp hb)).symm
  · exact alone b p a eb hb off ((h.at ea p).mp ha)
  · exact apart a b p ((h.at ea p).mp ha) ((h.at eb p).mp hb) off

theorem SameBut.homes (h : SameBut cart k j) (homes : ∀ a b n, k.Home a n → k.Home b n → a = b)
    (alone : ∀ c n b, cart = some c → j.Home c n → k.Home b n → b = c) : ∀ a b n, j.Home a n → j.Home b n → a = b := by
  intro a b n ha hb
  by_cases ea : cart = some a <;> by_cases eb : cart = some b
  · exact Option.some.inj (ea.symm.trans eb)
  · exact (alone a n b ea ha ((h.home eb n).mp hb)).symm
  · exact alone b n a eb hb ((h.home ea n).mp ha)
  · exact homes a b n ((h.home ea n).mp ha) ((h.home eb n).mp hb)

/-- A home slot that agrees goes on to agree, while IMPORTs stay. -/
theorem Agrees.mono {next : List Task} {c : Nat} {p : Place} {n : Option Nat} (h : k.Agrees pending c p n)
    (resetting : p = .mail → k.resetting = true → j.resetting = true)
    (importing : p = .mail → k.Importing pending c → j.Importing next c) : j.Agrees next c p n := by
  unfold Agrees at *
  cases p with
  | mail => exact h.imp (resetting rfl) (Or.imp_right (importing rfl))
  | _ => exact h

theorem SameBut.agree (h : SameBut cart k j) {next : List Task} (agree : ∀ c p n, k.spot c = some (p, n) → k.Agrees pending c p n)
    (resetting : k.resetting = true → j.resetting = true)
    (importing : ∀ c, cart ≠ some c → k.At c .mail → k.Importing pending c → j.Importing next c)
    (own : ∀ c p n, cart = some c → j.spot c = some (p, n) → j.Agrees next c p n) :
    ∀ c p n, j.spot c = some (p, n) → j.Agrees next c p n := by
  intro c p n hc
  by_cases e : cart = some c
  · exact own c p n e hc
  · rw [h.1 c e] at hc
    exact (agree c p n hc).mono (fun _ => resetting) fun hp => importing c e ⟨n, hp ▸ hc⟩

theorem Mounting.moved (h : k.Mounting d) (same : SamePlaces cart k j) (berth : j.berth d = k.berth d)
    (resetting : j.resetting = false → k.resetting = false) (away : ∀ c, cart = some c → ¬ k.At c (.drive d))
    (out : ∀ c, cart = some c → ¬ j.At c (.drive d)) : j.Mounting d := by
  refine ⟨by rw [berth]; exact h.fitted, by rw [berth]; exact h.bare, fun sd hsd hu => ?_, fun hr c hc => ?_⟩
  · rw [berth] at hsd hu
    have held := h.held sd hsd hu
    exact (same.at (fun e => away _ e held) _).mpr held
  · have holds := h.holds (resetting hr) c ((same.at (fun e => out c e hc) _).mp hc)
    rw [Mounts, berth]
    exact holds

/-- A queued task stays lawful where neither its own cartridge nor its drive changes, and none comes where it picks from. -/
theorem Queued.moved (h : k.Queued q) (same : SamePlaces cart k j)
    (unload : q.kind = .unload → (∀ c, cart = some c → q.cart ≠ some c ∧ ¬ j.At c (unloadFrom q)) ∧
      ∀ d, q.drive = some d → j.berth d = k.berth d)
    (imports : q.kind = .importTask → j.mail = true ∧ ∀ c, cart = some c → q.cart ≠ some c) : j.Queued q := by
  refine ⟨fun c hc => same.2 c (h.known c hc), fun e => ?_, fun e d hd => ?_, fun e => ?_, h.exports⟩
  · obtain ⟨only, held⟩ := h.alone e
    obtain ⟨out, -⟩ := unload e
    exact ⟨same.only only fun c hc => (out c hc).2, fun c hc => (same.at (fun e' => (out c e').1 hc) _).mpr (held c hc)⟩
  · obtain ⟨phase, mounts⟩ := h.drive e d hd
    have berth := (unload e).2 d hd
    exact ⟨by rw [berth]; exact phase, fun c hc => by rw [Mounts, berth]; exact mounts c hc⟩
  · obtain ⟨-, drive, c, hc, held⟩ := h.imports e
    obtain ⟨mail, out⟩ := imports e
    exact ⟨mail, drive, c, hc, (same.at (fun e' => out c e' hc) _).mpr held⟩

theorem Queued.congr (h : k.Queued q) (spot : j.spot = k.spot) (mail : j.mail = k.mail)
    (berth : q.kind = .unload → ∀ d, q.drive = some d → j.berth d = k.berth d) : j.Queued q :=
  h.moved (SameBut.of_eq spot).places (fun e => ⟨nofun, berth e⟩) fun e => ⟨mail.trans (h.imports e).1, nofun⟩

theorem Source.congr (h : k.Source a) (spot : j.spot = k.spot) (berth : j.berth = k.berth) : j.Source a := by
  cases k
  cases j
  subst spot berth
  exact ⟨h.unload, h.load, h.imports, h.exports⟩

theorem Target.congr (h : k.Target a) (spot : j.spot = k.spot) (berth : j.berth = k.berth) : j.Target a := by
  cases k
  cases j
  subst spot berth
  exact ⟨h.slot, h.drive, h.mail⟩

/-- The task in progress stays lawful where neither its own cartridge nor its drive changes, and none comes in its way. -/
theorem Working.moved (h : k.Working a) (same : SamePlaces cart k j)
    (home : ∀ c n, a.task.cart = some c → a.waiting = false → k.Home c n → j.Home c n) (state : j.state = k.state)
    (grips : ∀ q ∈ j.queue, q.kind = .unload → q.drive ≠ none) (mine : ∀ c, cart = some c → a.task.cart ≠ some c)
    (picker : ∀ c, cart = some c → ¬ j.At c .picker)
    (drive : ∀ d, a.task.drive = some d → j.berth d = k.berth d ∧ ∀ c, cart = some c → ¬ j.At c (.drive d))
    (mail : a.target = .mail → a.picked = true → a.waiting = false → ∀ c, cart = some c → ¬ j.At c .mail) : j.Working a := by
  have held : ∀ c p, a.task.cart = some c → k.At c p → j.At c p := fun c p hc hp => (same.at (fun e => mine c e hc) p).mpr hp
  refine ⟨state.trans h.busy, grips, fun c hc => same.2 c (h.known c hc), fun e => ?_, fun e => ?_, ⟨fun e => ?_, fun e => ?_,
    h.source.imports, h.source.exports⟩, ⟨fun n hn hw c hc => ?_, fun d hd => ?_, fun hm => ?_⟩⟩
  · obtain ⟨only, grip⟩ := h.picked e
    exact ⟨same.only only picker, fun c hc => held c _ hc (grip c hc)⟩
  · obtain ⟨p, hp, waiting, clear, at_source⟩ := h.picks e
    exact ⟨p, hp, waiting, same.clear clear picker, fun c hc => held c _ hc (at_source c hc)⟩
  · obtain ⟨source, drives⟩ := h.source.unload e
    refine ⟨source, fun d hd => ?_⟩
    obtain ⟨fitted, phase, only, cleared, was⟩ := drives d hd
    obtain ⟨berth, out⟩ := drive d hd
    rw [berth]
    exact ⟨fitted, phase, fun e' => same.only (only e') out, fun e' => ⟨same.clear (cleared e').1 out, (cleared e').2⟩, was⟩
  · obtain ⟨source, d, hd, phase⟩ := h.source.load e
    exact ⟨source, d, hd, by rw [(drive d hd).1]; exact phase⟩
  · exact home c n hc hw (h.target.slot n hn hw c hc)
  · obtain ⟨hdrive, kinds⟩ := h.target.drive d hd
    exact ⟨hdrive, by rw [(drive d hdrive).1]; exact kinds⟩
  · obtain ⟨kind, export_only, clear⟩ := h.target.mail hm
    exact ⟨kind, export_only, fun e hw => same.clear (clear e hw) (mail hm e hw)⟩

theorem Working.congr (h : k.Working a) (spot : j.spot = k.spot) (state : j.state = k.state)
    (grips : ∀ q ∈ j.queue, q.kind = .unload → q.drive ≠ none) (berth : ∀ d, a.task.drive = some d → j.berth d = k.berth d) :
    j.Working a :=
  h.moved (SameBut.of_eq spot).places (fun c n _ _ h => by rwa [Home, spot]) state grips nofun nofun
    (fun d hd => ⟨berth d hd, nofun⟩) fun _ _ _ => nofun

-- Queues ----------------------------------------------------------------------------------------------------------

/-- LOADs of recorded cartridges join the queue, and LOADs leave it. -/
theorem Lawful.loads (law : k.Lawful pending) {queue : List Task}
    (kept : (queue.filter fun q => decide (q.kind ≠ .load)) = k.queue.filter fun q => decide (q.kind ≠ .load))
    (joined : ∀ q ∈ queue, q ∈ k.queue ∨ q.kind = .load ∧ ∃ c, q.cart = some c ∧ k.Known c) :
    ({ k with queue := queue } : Carriage).Lawful pending := by
  have stays : ∀ q : Task, q.kind ≠ .load → (q ∈ queue ↔ q ∈ k.queue) := fun q hq => by
    have mem := congrArg (fun l => q ∈ l) kept
    simpa [List.mem_filter, hq] using mem
  have working := fun a ha => (law.working a ha).congr (j := { k with queue := queue }) rfl rfl
    (fun q hq e => (law.working a ha).grips q ((stays q (by rw [e]; nofun)).mp hq) e) fun _ _ => rfl
  refine { law with agree := ?_, bare := ?_, sweep := ?_, mount := ?_, queued := ?_, working := working, compat := ?_ }
  · refine (SameBut.of_eq (k := k) (j := { k with queue := queue }) rfl).agree law.agree id
      (fun c _ _ ⟨q, hq, kind, cart⟩ => ⟨q, ?_, kind, cart⟩) nofun
    have ne : q.kind ≠ .load := by rw [kind]; nofun
    simp only [tasks, List.mem_append] at hq ⊢
    exact hq.imp_left (Or.imp_right (stays q ne).mpr)
  · intro unformatted
    obtain ⟨resetting, bare, active, empty, drives⟩ := law.bare unformatted
    refine ⟨resetting, bare, active, List.eq_nil_iff_forall_not_mem.mpr fun q hq => ?_, drives⟩
    rcases joined q hq with old | ⟨-, c, -, known⟩
    · exact List.not_mem_nil (empty ▸ old)
    · exact bare c known
  · intro resetting
    obtain ⟨active, queued, drives⟩ := law.sweep resetting
    exact ⟨active, fun q hq e => queued q ((stays q (by rw [e]; nofun)).mp hq) e, drives⟩
  · exact fun d => (law.mount d).moved (SameBut.of_eq rfl).places rfl id nofun nofun
  · intro q hq
    rcases joined q hq with old | ⟨load, c, cart, known⟩
    · exact (law.queued q old).congr rfl rfl fun _ _ _ => rfl
    · exact ⟨fun x hx => by cases cart.symm.trans hx; exact known, by simp [load], by simp [load], by simp [load], by simp [load]⟩
  · have spared : ∀ l : List Task, l.Pairwise Task.compatible ↔ (l.filter fun q => decide (q.kind ≠ .load)).Pairwise Task.compatible :=
      fun l => by
      rw [List.pairwise_filter]
      refine ⟨fun h => h.imp fun h _ _ => h, fun h => h.imp fun {a b} h => ?_⟩
      by_cases ha : a.kind = .load
      · exact ⟨by simp [ha], by simp [ha]⟩
      · by_cases hb : b.kind = .load
        · exact ⟨by simp [hb], by simp [hb]⟩
        · exact h (decide_eq_true ha) (decide_eq_true hb)
    have compat := law.compat
    rw [spared, tasks, List.filter_append, ← kept, ← List.filter_append, ← spared] at compat
    exact compat

-- A task begins ---------------------------------------------------------------------------------------------------

theorem compatible_symm {a b : Task} (h : a.compatible b) : b.compatible a :=
  ⟨fun ⟨hb, ha, e⟩ => h.1 ⟨ha, hb, e.symm⟩, fun ⟨hb, ha, e⟩ => h.2 ⟨ha, hb, e.symm⟩⟩

/-- An IDLE picker has no task in progress. -/
theorem Lawful.idle_active (law : k.Lawful pending) (idle : k.state = .idle) : k.active = none := by
  cases ha : k.active with
  | none => rfl
  | some a => exact nomatch idle.symm.trans (law.working a ha).busy

/-- A queued task begins (R73). -/
theorem Lawful.begin (law : k.Lawful pending) (idle : k.state = .idle) (swept : k.resetting = false) (hq : a.task ∈ k.queue)
    (waiting : a.waiting = false) (grips : ∀ q ∈ k.queue.erase a.task, q.kind = .unload → q.drive ≠ none)
    (picked : a.picked = true → k.Only .picker a.task.cart ∧ ∀ c, a.task.cart = some c → k.At c .picker)
    (picks : a.picked = false → k.Clear .picker ∧ ∃ p, a.source = some p ∧ ∀ c, a.task.cart = some c → k.At c (placeOf p))
    (source : k.Source a) (target : k.Target a) :
    ({ k with state := .busy, queue := k.queue.erase a.task, active := some a } : Carriage).Lawful pending := by
  have none_active := law.idle_active idle
  have perm : (a.task :: k.queue.erase a.task).Perm k.queue := (List.perm_cons_erase hq).symm
  have tasks : k.tasks = k.queue := by rw [Carriage.tasks, none_active]; rfl
  refine { law with agree := ?_, bare := ?_, sweep := ?_, mount := ?_, queued := ?_, working := ?_, compat := ?_, mailed := ?_ }
  · refine (SameBut.of_eq (k := k) (j := { k with state := .busy, queue := k.queue.erase a.task, active := some a }) rfl).agree law.agree id
      (fun c _ _ ⟨q, hx, kind, cart⟩ => ⟨q, ?_, kind, cart⟩) nofun
    rw [List.mem_append, tasks] at hx
    exact List.mem_append.mpr (hx.imp_left fun h => perm.symm.subset h)
  · intro unformatted
    obtain ⟨-, -, -, empty, -⟩ := law.bare unformatted
    rw [empty] at hq
    cases hq
  · exact fun h => nomatch swept.symm.trans h
  · exact fun d => (law.mount d).moved (SameBut.of_eq rfl).places rfl id nofun nofun
  · exact fun q hx => (law.queued q (List.mem_of_mem_erase hx)).congr rfl rfl fun _ _ _ => rfl
  · intro b hb
    obtain rfl := Option.some.inj hb
    refine ⟨rfl, grips, (law.queued a.task hq).known, picked, fun e => ?_, source.congr rfl rfl, target.congr rfl rfl⟩
    obtain ⟨clear, p, hp, held⟩ := picks e
    exact ⟨p, hp, waiting, clear, held⟩
  · exact (perm.pairwise_iff compatible_symm).mpr (tasks ▸ law.compat)
  · intro _ _ c hc
    refine .inl ((law.mailed swept (by rw [idle]; nofun) c hc).resolve_right fun ⟨b, hb, _⟩ => ?_)
    exact nomatch none_active.symm.trans hb

-- A home slot changes ---------------------------------------------------------------------------------------------

/-- What is recorded of one cartridge changes. -/
def turn (c : Nat) (g : Place × Option Nat → Place × Option Nat) (k : Carriage) : Carriage :=
  { k with spot := fun x => if x = c then (k.spot x).map g else k.spot x }

theorem turn_sameBut (c : Nat) (g : Place × Option Nat → Place × Option Nat) (k : Carriage) : SameBut (some c) k (k.turn c g) := by
  refine ⟨fun x hx => if_neg fun e => hx (by rw [e]), fun x ⟨y, hy⟩ => ?_⟩
  simp only [Known, turn, hy]
  split
  · exact ⟨g y, rfl⟩
  · exact ⟨y, rfl⟩

theorem turn_spot {c : Nat} {y : Place × Option Nat} (g : Place × Option Nat → Place × Option Nat) (h : k.spot c = some y) :
    (k.turn c g).spot c = some (g y) := by
  simp [turn, h]

theorem turn_at {g : Place × Option Nat → Place × Option Nat} (hg : ∀ y, (g y).1 = y.1) (c x : Nat) (p : Place) (k : Carriage) :
    (k.turn c g).At x p ↔ k.At x p := by
  by_cases e : x = c
  · subst e
    cases hx : k.spot x with
    | none => simp [At, turn, hx]
    | some y => simp [At, turn_spot g hx, hx, Prod.ext_iff, hg]
  · exact (turn_sameBut c g k).places.at (fun h => e (Option.some.inj h).symm) p

/-- A cartridge in the grip or in a drive gets another home slot, that of no other cartridge (R44). -/
theorem Lawful.rehome (law : k.Lawful pending) {c n : Nat} {p : Place} (place : p = .picker ∨ ∃ d, p = .drive d) (hc : k.At c p)
    (free : ∀ b, k.Home b n → b = c) (idle : ∀ a, k.active = some a → a.waiting = false → a.task.cart ≠ some c) :
    (k.turn c fun y => (y.1, some n)).Lawful pending := by
  obtain ⟨m, hm⟩ := hc
  have same := turn_sameBut c (fun y => (y.1, some n)) k
  have own : (k.turn c fun y => (y.1, some n)).spot c = some (p, some n) := turn_spot _ hm
  have places : SamePlaces none k (k.turn c fun y => (y.1, some n)) :=
    ⟨fun x _ q => turn_at (g := fun y => (y.1, some n)) (fun _ => rfl) c x q k, same.2⟩
  refine { law with apart := ?_, homes := ?_, agree := ?_, bare := ?_, mount := ?_, queued := ?_, working := ?_, mailed := ?_ }
  · intro a b q ha hb
    exact law.apart a b q ((places.at nofun q).mp ha) ((places.at nofun q).mp hb)
  · refine same.homes law.homes fun x i b hx hi hb => ?_
    obtain rfl := Option.some.inj hx
    obtain ⟨q, hq⟩ := hi
    obtain rfl : n = i := by simpa using (congrArg (Option.map Prod.snd) (own.symm.trans hq))
    exact free b hb
  · refine same.agree law.agree id (fun _ _ _ => id) fun x q i hx hq => ?_
    obtain rfl := Option.some.inj hx
    obtain ⟨rfl, rfl⟩ := Prod.mk.inj (Option.some.inj (own.symm.trans hq))
    rcases place with rfl | ⟨d, rfl⟩ <;> exact rfl
  · intro unformatted
    obtain ⟨-, bare, -⟩ := law.bare unformatted
    exact absurd ⟨_, hm⟩ (bare c)
  · exact fun d => (law.mount d).moved places rfl id nofun nofun
  · exact fun q hq => (law.queued q hq).moved places (fun _ => ⟨nofun, fun _ _ => rfl⟩) fun e => ⟨((law.queued q hq).imports e).1, nofun⟩
  · intro a ha
    refine (law.working a ha).moved places (fun x i hx hw hi => ?_) rfl (law.working a ha).grips nofun nofun
      (fun _ _ => ⟨rfl, nofun⟩) fun _ _ _ => nofun
    exact (same.home (fun e => idle a ha hw (hx.trans e.symm)) i).mpr hi
  · intro hr hs x hx
    exact law.mailed hr hs x ((places.at nofun .mail).mp hx)

/-- What a drive holds changes. -/
def refit (d : DriveNo) (b : Berth) (k : Carriage) : Carriage := { k with berth := fun x => if x = d then b else k.berth x }

@[simp] theorem refit_berth (d : DriveNo) (b : Berth) (k : Carriage) : (k.refit d b).berth d = b := if_pos rfl

theorem refit_berth_of_ne {x : DriveNo} (h : x ≠ d) (b : Berth) (k : Carriage) : (k.refit d b).berth x = k.berth x := if_neg h

/-- A drive of which no UNLOAD is queued holds something else. -/
theorem Lawful.refit (law : k.Lawful pending) (ready : k.condition = .ready) {b : Berth} (mount : (k.refit d b).Mounting d)
    (sweep : k.resetting = true → b.fitted = true ∧ b.mounted = none ∧ (b.phase = .empty ∨ b.phase = .fault))
    (queued : ∀ q ∈ k.queue, q.kind = .unload → q.drive ≠ some d)
    (working : ∀ a, k.active = some a → a.task.drive = some d → (k.refit d b).Working a) : (k.refit d b).Lawful pending := by
  have ne : ∀ {x : DriveNo} {o : Option DriveNo}, o ≠ some d → o = some x → x ≠ d := fun h hx e => h (e ▸ hx)
  refine { law with bare := ?_, sweep := ?_, mount := ?_, queued := ?_, working := ?_ }
  · exact fun h => nomatch ready.symm.trans h
  · refine fun h => ⟨(law.sweep h).1, (law.sweep h).2.1, fun x => ?_⟩
    by_cases hx : x = d
    · rw [hx, refit_berth]
      exact sweep h
    · rw [refit_berth_of_ne hx]
      exact (law.sweep h).2.2 x
  · intro x
    by_cases hx : x = d
    · exact hx ▸ mount
    · exact (law.mount x).moved (SameBut.of_eq rfl).places (refit_berth_of_ne hx b k) id nofun nofun
  · exact fun q hq => (law.queued q hq).congr rfl rfl fun kind x hx => refit_berth_of_ne (ne (queued q hq kind) hx) b k
  · intro a ha
    by_cases hd : a.task.drive = some d
    · exact working a ha hd
    · exact (law.working a ha).congr rfl rfl (law.working a ha).grips fun x hx => refit_berth_of_ne (ne hd hx) b k

end Carriage

end Sys2Proof.Machine
end
-- ==== Proofs: the changes keep the laws of places ====
section
/-!
SUPPORT for O24: the tasks that the picker begins, and every change that minds the mechanics.
-/
namespace Sys2Proof.Machine

variable {f : Prop} {s t : State} {pending : List Task}

-- The carriage of a changed state ---------------------------------------------------------------------------------

theorem State.carriage_congr (stands : t.lib.carts.map Cartridge.stand = s.lib.carts.map Cartridge.stand)
    (mail : t.lib.mail = s.lib.mail) (berth : ∀ d : DriveNo, (t.drives[d]).berth = (s.drives[d]).berth)
    (state : t.picker.state = s.picker.state) (queue : t.picker.queue = s.picker.queue) (active : t.picker.active = s.picker.active)
    (reset : t.mechReset = s.mechReset) (condition : t.condition = s.condition) : t.carriage = s.carriage := by
  have read : ∀ (u : State) (c : Nat), (u.cart? c).map Cartridge.spot =
      ((u.lib.carts.map Cartridge.stand).find? fun x => x.1 = c).map Prod.snd := fun u c => by
    rw [List.find?_map, Option.map_map]
    rfl
  have spot : (fun c => (t.cart? c).map Cartridge.spot) = fun c => (s.cart? c).map Cartridge.spot := funext fun c => by
    rw [read, read, stands]
  simp only [State.carriage, spot, mail, berth, state, queue, active, reset, condition]

theorem State.numbered_of_stands (h : s.numbered) (stands : t.lib.carts.map Cartridge.stand = s.lib.carts.map Cartridge.stand) :
    t.numbered := by
  have numbers := congrArg (List.map Prod.fst) stands
  rw [List.map_map, List.map_map] at numbers
  unfold State.numbered
  exact (congrArg (List.Pairwise (· ≠ ·)) numbers).mpr h

theorem State.Carried.congr (h : s.Carried pending) (stands : t.lib.carts.map Cartridge.stand = s.lib.carts.map Cartridge.stand)
    (mail : t.lib.mail = s.lib.mail) (berth : ∀ d : DriveNo, (t.drives[d]).berth = (s.drives[d]).berth) (picker : t.picker = s.picker)
    (reset : t.mechReset = s.mechReset) (condition : t.condition = s.condition) : t.Carried pending :=
  ⟨State.numbered_of_stands h.1 stands, (State.carriage_congr stands mail berth (by rw [picker]) (by rw [picker]) (by rw [picker])
    reset condition).symm ▸ h.2⟩

/-- A change of what is recorded of one cartridge. -/
theorem State.modCart_carriage (c : Nat) (g : Cartridge → Cartridge) (p : Place × Option Nat → Place × Option Nat)
    (hg : ∀ r, (g r).number = r.number ∧ (g r).spot = p r.spot) (s : State) : (s.modCart c g).carriage = s.carriage.turn c p := by
  have spot : (fun x => ((s.modCart c g).cart? x).map Cartridge.spot) =
      fun x => if x = c then ((s.cart? x).map Cartridge.spot).map p else (s.cart? x).map Cartridge.spot := funext fun x => by
    rw [State.cart?_modCart s c x g fun r => (hg r).1, Option.map_map]
    split
    · rw [Option.map_map]
      exact congrArg (fun k => (s.cart? x).map k) (funext fun r => (hg r).2)
    · rfl
  exact congrArg (fun v => { s.carriage with spot := v }) spot

theorem State.modCart_numbered (h : s.numbered) (c : Nat) (g : Cartridge → Cartridge) (hg : ∀ r, (g r).number = r.number) :
    (s.modCart c g).numbered :=
  (congrArg (List.Pairwise (· ≠ ·)) (map_key_map (fun r : Cartridge => r.number) g hg c s.lib.carts)).mpr h

theorem State.modDrive_carriage (d : DriveNo) (g : Drive → Drive) (s : State) :
    (s.modDrive d g).carriage = s.carriage.refit d (g s.drives[d]).berth := by
  refine congrArg (fun v => { s.carriage with berth := v }) (funext fun x => ?_)
  rw [State.modDrive_get]
  split
  · next h => rw [h]
  · rfl

-- Slots -----------------------------------------------------------------------------------------------------------

/-- An open slot is the home of no cartridge, and holds none (R43). -/
theorem State.slotOpen_free {n : Nat} (h : s.numbered) (open_slot : s.lib.slotOpen n = true) :
    (∀ c, ¬ s.carriage.Home c n) ∧ s.carriage.Clear (.slot n) := by
  simp only [Library.slotOpen, Bool.and_eq_true, List.all_eq_true, decide_eq_true_eq] at open_slot
  refine ⟨fun c hc => ?_, fun c hc => ?_⟩
  · obtain ⟨r, hr, -, home⟩ := (State.carriage_home h).mp hc
    exact (open_slot.2 r hr).2 home
  · obtain ⟨r, hr, -, place⟩ := (State.carriage_at h).mp hc
    exact (open_slot.2 r hr).1 place

theorem Library.lowestOpen_open {l : Library} {n : Nat} (h : l.lowestOpen = some n) : l.slotOpen n = true := List.find?_some h

/-- The slot to which a recorded cartridge returns is the home of no other (R44, R71). -/
theorem State.returnSlot_free (law : s.Carried pending) {cart : Option Nat} {c n : Nat} (hc : cart = some c)
    (h : s.returnSlot cart = some n) : ∀ b, s.carriage.Home b n → b = c := by
  obtain ⟨numbered, law⟩ := law
  intro b hb
  have lowest : s.lib.lowestOpen = some n → b = c := fun hn =>
    absurd hb ((State.slotOpen_free numbered (Library.lowestOpen_open hn)).1 b)
  subst hc
  unfold State.returnSlot at h
  split at h
  · next m hm =>
    split at h
    · exact lowest h
    · obtain rfl := Option.some.inj h
      obtain ⟨r, hr, home⟩ := Option.bind_eq_some_iff.mp hm
      refine law.homes b c m hb ⟨r.place, ?_⟩
      have found : s.cart? c = some r := hr
      simp only [State.carriage, found, Option.map_some, Cartridge.spot, home]
  · exact lowest h

/-- A cartridge that lies in its home slot. -/
theorem State.homeOf_spot {cart : Option Nat} {n : Nat} (h : s.homeOf cart = some n) :
    ∃ c, cart = some c ∧ s.carriage.spot c = some (.slot n, some n) := by
  unfold State.homeOf at h
  obtain ⟨r, hr, home⟩ := Option.bind_eq_some_iff.mp h
  obtain ⟨c, rfl, found⟩ := Option.bind_eq_some_iff.mp hr
  refine ⟨c, rfl, ?_⟩
  unfold Cartridge.atHome at home
  split at home
  · next m hm =>
    split at home
    · next place =>
      obtain rfl := Option.some.inj home
      simp only [State.carriage, found, Option.map_some, Cartridge.spot, hm, place]
    · cases home
  · cases home

-- A task begins ---------------------------------------------------------------------------------------------------

/-- The task in progress of a task that begins. -/
def State.beginning (s : State) (k : Task) (p : PickPoint) : Active where
  task := k
  picked := (s.taskSource k).isNone
  source := s.taskSource k
  target := p
  waiting := false
  wasMounted := k.drive.bind fun d => s.drives[d].mounted

theorem State.destination_unload {k : Task} {p : PickPoint} (hk : k.kind = .unload) (h : s.destination k = some p) :
    (∃ n, s.returnSlot k.cart = some n ∧ p = .slot n) ∨ p = .mail ∧ k.cart = none ∧ k.drive = none ∧ s.lib.mail = false := by
  simp only [State.destination, hk] at h
  split at h
  · next n hn => exact .inl ⟨n, hn, (Option.some.inj h).symm⟩
  · split at h
    · next hc => exact .inr ⟨(Option.some.inj h).symm, hc⟩
    · cases h

theorem State.destination_import {k : Task} {p : PickPoint} (hk : k.kind = .importTask) (h : s.destination k = some p) :
    ∃ c n, k.cart = some c ∧ p = .slot n ∧ s.carriage.spot c = some (.mail, some n) := by
  simp only [State.destination, hk] at h
  split at h
  · next r hr =>
    obtain ⟨c, hc, found⟩ := Option.bind_eq_some_iff.mp hr
    split at h
    · next place =>
      obtain ⟨n, home, rfl⟩ := Option.map_eq_some_iff.mp h
      refine ⟨c, n, hc, rfl, ?_⟩
      simp only [State.carriage, found, Option.map_some, Cartridge.spot, home, place]
    · cases h
  · cases h

theorem State.destination_export {k : Task} {p : PickPoint} (hk : k.kind = .exportTask) (h : s.destination k = some p) :
    p = .mail ∧ s.lib.mail = false ∧ ∃ n, s.homeOf k.cart = some n := by
  simp only [State.destination, hk] at h
  split at h
  · next hc => exact ⟨(Option.some.inj h).symm, hc.2, Option.isSome_iff_exists.mp hc.1⟩
  · cases h

namespace Carriage

variable {k : Carriage} {a : Active}

/-- The carriage with a task begun. -/
def begun (a : Active) (k : Carriage) : Carriage := { k with state := .busy, queue := k.queue.erase a.task, active := some a }

/-- Whatever a recorded cartridge lies in, an UNLOAD's return from the grip is the only one queued. -/
theorem Lawful.grips_erase (law : k.Lawful pending) (active : k.active = none) {q : Task} (hq : q ∈ k.queue) (kind : q.kind = .unload)
    (drive : q.drive = none) : ∀ x ∈ k.queue.erase q, x.kind = .unload → x.drive ≠ none := by
  have compat := law.compat
  rw [tasks, active] at compat
  have pair := ((List.perm_cons_erase hq).pairwise_iff compatible_symm).mp compat
  intro x hx hk hd
  exact ((List.pairwise_cons.mp pair).1 x hx).1 ⟨kind, hk, drive.trans hd.symm⟩

/-- An UNLOAD begins: from its drive, or from the grip, to a slot that is its cartridge's home (R44, R60, R71). -/
theorem Lawful.begin_unload (law : k.Lawful pending) (idle : k.state = .idle) (swept : k.resetting = false) (hq : a.task ∈ k.queue)
    (kind : a.task.kind = .unload) (source : a.source = a.task.drive.map PickPoint.drive) (picked : a.picked = a.source.isNone)
    (waiting : a.waiting = false) (was : a.wasMounted = a.task.drive.bind fun d => (k.berth d).mounted)
    (grip : a.task.drive ≠ none → k.Clear .picker ∧ ∀ q ∈ k.queue, q.kind = .unload → q.drive ≠ none)
    (target : (∃ n, a.target = .slot n ∧ ∀ c, a.task.cart = some c → k.Home c n) ∨
      a.target = .mail ∧ a.task.drive = none ∧ k.mail = false) : (k.begun a).Lawful pending := by
  have queued := law.queued a.task hq
  obtain ⟨only, held⟩ := queued.alone kind
  have active := law.idle_active idle
  have clearMail : k.mail = false → k.Clear .mail := fun empty c hc => by
    rcases law.mailed swept (by rw [idle]; nofun) c hc with full | ⟨b, hb, -⟩
    · exact nomatch empty.symm.trans full
    · exact nomatch active.symm.trans hb
  have drives : ∀ d, a.task.drive = some d → unloadFrom a.task = .drive d ∧ a.picked = false := fun d hd => by
    rw [picked, source, unloadFrom, hd]
    exact ⟨rfl, rfl⟩
  have fromGrip : a.picked = true → a.task.drive = none := fun hp => by
    cases hd : a.task.drive with
    | none => rfl
    | some d => exact nomatch hp.symm.trans (drives d hd).2
  refine law.begin idle swept hq waiting ?_ (fun hp => ?_) (fun hp => ?_) ⟨fun _ => ⟨source, fun d hd => ?_⟩, by simp [kind],
    by simp [kind], by simp [kind]⟩ ⟨fun n hn _ c hc => ?_, fun d hd => ?_, fun hm => ⟨by simp [kind], fun hp => ?_, fun _ _ => clearMail ?_⟩⟩
  · intro q hx
    cases hd : a.task.drive with
    | none => exact law.grips_erase active hq kind hd q hx
    | some d => exact (grip (by rw [hd]; nofun)).2 q (List.mem_of_mem_erase hx)
  · have place : unloadFrom a.task = .picker := by rw [unloadFrom, fromGrip hp]; rfl
    exact place ▸ ⟨only, held⟩
  · cases hd : a.task.drive with
    | none => simp [picked, source, hd] at hp
    | some d =>
      refine ⟨(grip (by rw [hd]; nofun)).1, .drive d, by rw [source, hd]; rfl, ?_⟩
      rw [(drives d hd).1] at held
      exact held
  · obtain ⟨phase, mounts⟩ := queued.drive kind d hd
    obtain ⟨place, notPicked⟩ := drives d hd
    rw [place] at only
    refine ⟨?_, .inl phase, fun _ => only, fun hp => (nomatch notPicked.symm.trans hp), fun c hc => ?_⟩
    · by_contra unfitted
      exact nomatch phase.symm.trans ((law.mount d).fitted (Bool.eq_false_iff.mpr unfitted))
    · rw [was, hd]
      exact (mounts c hc).2
  · rcases target with ⟨m, hm, home⟩ | ⟨hm, -⟩
    · cases hm.symm.trans hn
      exact home c hc
    · exact nomatch hm.symm.trans hn
  · rcases target with ⟨m, hm, -⟩ | ⟨hm, -⟩ <;> exact nomatch hm.symm.trans hd
  · rcases target with ⟨m, hm', -⟩ | ⟨-, drive, -⟩
    · exact nomatch hm'.symm.trans hm
    · simp [picked, source, drive] at hp
  · rcases target with ⟨m, hm', -⟩ | ⟨-, -, empty⟩
    · exact nomatch hm'.symm.trans hm
    · exact empty

/-- A task begins that picks its cartridge from its home slot or from the mail slot (Table 4-3). -/
theorem Lawful.begin_pick (law : k.Lawful pending) (idle : k.state = .idle) (swept : k.resetting = false) (hq : a.task ∈ k.queue)
    {p : PickPoint} {c : Nat} (source : a.source = some p) (picked : a.picked = false) (waiting : a.waiting = false)
    (clear : k.Clear .picker) (grips : ∀ q ∈ k.queue, q.kind = .unload → q.drive ≠ none) (cart : a.task.cart = some c)
    (held : k.At c (placeOf p)) (law_source : k.Source a) (target : k.Target a) : (k.begun a).Lawful pending := by
  refine law.begin idle swept hq waiting (fun q hx => grips q (List.mem_of_mem_erase hx)) (fun hp => nomatch picked.symm.trans hp)
    (fun _ => ⟨clear, p, source, fun x hx => ?_⟩) law_source target
  cases cart.symm.trans hx
  exact held

/-- An EMPTY drive becomes LOADING (R75). -/
theorem Lawful.loading (law : k.Lawful pending) (swept : k.resetting = false) (active : k.active = none) (ready : k.condition = .ready)
    {d : DriveNo} (empty : (k.berth d).phase = .empty) :
    (k.refit d { k.berth d with phase := .loading }).Lawful pending := by
  have mount := law.mount d
  have bare := mount.bare (.inr (.inl empty))
  refine law.refit ready ⟨fun hf => ?_, fun _ => ?_, fun sd hsd => ?_, fun _ c hc => ?_⟩ (fun h => nomatch swept.symm.trans h)
    (fun q hq kind hd => ?_) fun a ha => nomatch active.symm.trans ha
  · rw [refit_berth] at hf
    exact nomatch empty.symm.trans (mount.fitted hf)
  · rw [refit_berth]
    exact bare
  · rw [refit_berth] at hsd
    exact nomatch bare.symm.trans hsd
  · exact absurd empty (mount.holds swept c hc).1
  · exact nomatch empty.symm.trans ((law.queued q hq).drive kind d hd).1

end Carriage

theorem State.gripHeld_clear (h : s.numbered) (free : s.gripHeld = false) :
    s.carriage.Clear .picker ∧ ∀ q ∈ s.picker.queue, q.kind = .unload → q.drive ≠ none := by
  simp only [State.gripHeld, Bool.or_eq_false_iff, List.any_eq_false, decide_eq_true_eq] at free
  refine ⟨fun c hc => ?_, fun q hq => (fromGrip_eq_false q).mp (Bool.eq_false_iff.mpr (free.2 q hq))⟩
  obtain ⟨r, hr, -, place⟩ := (State.carriage_at h).mp hc
  exact free.1 r hr place

/-- Something queued, the part is READY. -/
theorem State.Carried.ready (h : s.Carried pending) {q : Task} (hq : q ∈ s.picker.queue) : s.condition = .ready := by
  cases hc : s.condition with
  | ready => rfl
  | unformatted =>
    obtain ⟨-, -, -, queue, -⟩ := h.2.bare hc
    have empty : s.picker.queue = [] := queue
    rw [empty] at hq
    cases hq

theorem setHome_carried (h : s.Carried pending) {cart : Option Nat} {n : Nat} {p : Place} (place : p = .picker ∨ ∃ d, p = .drive d)
    (held : ∀ c, cart = some c → s.carriage.At c p) (free : ∀ c, cart = some c → ∀ b, s.carriage.Home b n → b = c)
    (idle : ∀ a, s.picker.active = some a → a.waiting = false → ∀ c, cart = some c → a.task.cart ≠ some c) :
    (setHome cart n s).Carried pending ∧ (∀ c, cart = some c → (setHome cart n s).carriage.Home c n) ∧
      ∀ c p, (setHome cart n s).carriage.At c p ↔ s.carriage.At c p := by
  cases cart with
  | none => exact ⟨h, nofun, fun _ _ => .rfl⟩
  | some c =>
    have carriage := State.modCart_carriage c (fun r => { r with home := some n }) (fun y => (y.1, some n)) (fun _ => ⟨rfl, rfl⟩) s
    refine ⟨⟨State.modCart_numbered h.1 c _ fun _ => rfl, ?_⟩, fun x hx => ?_, fun x q => ?_⟩
    · exact carriage ▸ h.2.rehome place (held c rfl) (free c rfl) fun a ha hw => idle a ha hw c rfl
    · cases hx
      obtain ⟨m, hm⟩ := held c rfl
      exact ⟨p, carriage ▸ Carriage.turn_spot _ hm⟩
    · have moved := Carriage.turn_at (g := fun y => (y.1, some n)) (fun _ => rfl) c x q s.carriage
      exact carriage ▸ moved

theorem beginTask_unload {k : Task} {p : PickPoint} (h : s.Carried pending) (idle : s.picker.state = .idle) (swept : s.mechReset = false)
    (hq : k ∈ s.picker.queue) (hk : k.kind = .unload) (destination : s.destination k = some p)
    (grip : s.gripHeld = false ∨ k.fromGrip = true) : (beginTask k p s).Carried pending := by
  have drives : ∀ {v : State}, v.drives = s.drives → v.picker = s.picker → v.mechReset = s.mechReset → v.numbered →
      v.carriage.Lawful pending → (s.gripHeld = false → v.carriage.Clear .picker) → v.lib.mail = s.lib.mail →
      ((∃ n, p = .slot n ∧ ∀ c, k.cart = some c → v.carriage.Home c n) ∨ p = .mail ∧ k.drive = none ∧ s.lib.mail = false) →
      (v.carriage.begun (s.beginning k p)).Lawful pending := fun {v} drives picker reset numbered law clear mail target => by
    have source : (s.beginning k p).source = k.drive.map PickPoint.drive := by
      simp only [State.beginning, State.taskSource, hk]
    refine law.begin_unload (a := s.beginning k p) ((congrArg Picker.state picker).trans idle) (reset.trans swept) ?_ hk source
      rfl rfl ?_ (fun hd => ?_) (target.imp_right fun ⟨a, b, c⟩ => ⟨a, b, mail.trans c⟩)
    · have queue : v.carriage.queue = s.picker.queue := congrArg Picker.queue picker
      exact queue ▸ hq
    · have berth : ∀ d, v.carriage.berth d = s.carriage.berth d := fun d => by simp only [State.carriage, drives]
      simp only [berth]
      rfl
    · have free : s.gripHeld = false := grip.resolve_right fun e => by
        simp only [Task.fromGrip, Bool.and_eq_true, decide_eq_true_eq] at e
        exact hd e.2
      refine ⟨clear free, fun q hx => (State.gripHeld_clear h.1 free).2 q ?_⟩
      exact (congrArg Picker.queue picker) ▸ hx
  rcases State.destination_unload hk destination with ⟨n, hn, rfl⟩ | ⟨rfl, -, drive, mail⟩
  · have place : Carriage.unloadFrom k = .picker ∨ ∃ d, Carriage.unloadFrom k = .drive d := by
      unfold Carriage.unloadFrom
      cases k.drive with
      | none => exact .inl rfl
      | some d => exact .inr ⟨d, rfl⟩
    obtain ⟨rehomed, home, places⟩ := setHome_carried h (n := n) place ((h.2.queued k hq).alone hk).2
      (fun c hc => State.returnSlot_free h hc hn) fun a ha => nomatch (h.2.idle_active idle).symm.trans ha
    have frame : (setHome k.cart n s).drives = s.drives ∧ (setHome k.cart n s).picker = s.picker ∧
        (setHome k.cart n s).mechReset = s.mechReset ∧ (setHome k.cart n s).lib.mail = s.lib.mail := by
      cases k.cart <;> exact ⟨rfl, rfl, rfl, rfl⟩
    obtain ⟨same, picker, reset, mail⟩ := frame
    have begun := drives same picker reset rehomed.1 rehomed.2 (fun free c hc => ?_) mail (.inl ⟨n, rfl, home⟩)
    · have begins : beginTask k (.slot n) s = setHome k.cart n (setActive k (.slot n) s) := by simp only [beginTask, hk]
      have carriage : (setHome k.cart n (setActive k (.slot n) s)).carriage =
          (setHome k.cart n s).carriage.begun (s.beginning k (.slot n)) := by
        cases k.cart <;> rfl
      rw [begins]
      refine ⟨?_, carriage ▸ begun⟩
      cases hc : k.cart with
      | none => exact h.1
      | some c => exact State.modCart_numbered h.1 c _ fun _ => rfl
    · exact (State.gripHeld_clear h.1 free).1 c ((places c _).mp hc)
  · have begun := drives (v := s) rfl rfl rfl h.1 h.2 (fun free => (State.gripHeld_clear h.1 free).1) rfl (.inr ⟨rfl, drive, mail⟩)
    have begins : beginTask k .mail s = setActive k .mail s := by simp only [beginTask, hk]
    rw [begins]
    exact ⟨h.1, begun⟩

theorem beginTask_load {k : Task} {p : PickPoint} (h : s.Carried pending) (idle : s.picker.state = .idle) (swept : s.mechReset = false)
    (hq : k ∈ s.picker.queue) (hk : k.kind = .load) (destination : s.destination k = some p) (free : s.gripHeld = false) :
    (beginTask k p s).Carried pending := by
  obtain ⟨c, d, cart, drive, rfl, empty, home⟩ := State.destination_load hk destination
  obtain ⟨n, hn⟩ := Option.isSome_iff_exists.mp home
  obtain ⟨x, hx, spot⟩ := State.homeOf_spot hn
  obtain ⟨clear, grips⟩ := State.gripHeld_clear h.1 free
  have source : (s.beginning k (.drive d)).source = some (.slot n) := by
    simp only [State.beginning, State.taskSource, hk, hn, Option.map_some]
  have phase : (s.carriage.berth d).phase = .empty := congrArg DriveState.phase empty
  have loading := h.2.loading swept (h.2.idle_active idle) (h.ready hq) phase
  have fits : ((s.carriage.refit d { s.carriage.berth d with phase := .loading }).berth d).phase = .loading := by
    rw [Carriage.refit_berth]
  have begun := loading.begin_pick (a := s.beginning k (.drive d)) idle swept hq source (by
      have picked : (s.beginning k (.drive d)).picked = (s.beginning k (.drive d)).source.isNone := rfl
      rw [picked, source]
      rfl) rfl clear grips hx ⟨_, spot⟩
    ⟨by simp [State.beginning, hk], fun _ => ⟨⟨n, source⟩, d, drive, .inl fits⟩, by simp [State.beginning, hk], by simp [State.beginning, hk]⟩
    ⟨nofun, fun y hy => by cases hy; exact ⟨drive, .inl ⟨hk, fits⟩⟩, nofun⟩
  have begins : beginTask k (.drive d) s = recordStart ((setActive k (.drive d) s).modDrive d fun r => { r with state := .loading }) := by
    simp only [beginTask, hk, drive]
  have carriage : (beginTask k (.drive d) s).carriage =
      (s.carriage.refit d { s.carriage.berth d with phase := .loading }).begun (s.beginning k (.drive d)) := by
    rw [begins]
    exact State.modDrive_carriage d (fun r => { r with state := .loading }) (setActive k (.drive d) s)
  refine ⟨?_, carriage ▸ begun⟩
  rw [begins]
  exact h.1

theorem beginTask_import {k : Task} {p : PickPoint} (h : s.Carried pending) (idle : s.picker.state = .idle) (swept : s.mechReset = false)
    (hq : k ∈ s.picker.queue) (hk : k.kind = .importTask) (destination : s.destination k = some p) (free : s.gripHeld = false) :
    (beginTask k p s).Carried pending := by
  obtain ⟨c, n, cart, rfl, spot⟩ := State.destination_import hk destination
  obtain ⟨clear, grips⟩ := State.gripHeld_clear h.1 free
  obtain ⟨-, drive, -⟩ := (h.2.queued k hq).imports hk
  have source : s.taskSource k = some .mail := by simp only [State.taskSource, hk]
  have begins : beginTask k (.slot n) s = setActive k (.slot n) s := by simp only [beginTask, hk]
  rw [begins]
  refine ⟨h.1, h.2.begin_pick (a := s.beginning k (.slot n)) idle swept hq source (by simp [State.beginning, source]) rfl clear grips cart
    ⟨_, spot⟩ ⟨by simp [State.beginning, hk], by simp [State.beginning, hk], fun _ => ⟨source, drive, c, cart⟩,
      by simp [State.beginning, hk]⟩ ⟨fun m hm _ x hx => ?_, nofun, nofun⟩⟩
  cases hm
  cases cart.symm.trans hx
  exact ⟨_, spot⟩

theorem beginTask_export {k : Task} {p : PickPoint} (h : s.Carried pending) (idle : s.picker.state = .idle) (swept : s.mechReset = false)
    (hq : k ∈ s.picker.queue) (hk : k.kind = .exportTask) (destination : s.destination k = some p) (free : s.gripHeld = false) :
    (beginTask k p s).Carried pending := by
  obtain ⟨rfl, -, n, hn⟩ := State.destination_export hk destination
  obtain ⟨c, cart, spot⟩ := State.homeOf_spot hn
  obtain ⟨clear, grips⟩ := State.gripHeld_clear h.1 free
  have source : s.taskSource k = some (.slot n) := by simp only [State.taskSource, hk, hn, Option.map_some]
  have picked : (s.beginning k .mail).picked = false := by simp [State.beginning, source]
  have begins : beginTask k .mail s = setActive k .mail s := by simp only [beginTask, hk]
  rw [begins]
  exact ⟨h.1, h.2.begin_pick (a := s.beginning k .mail) idle swept hq source picked rfl clear grips cart ⟨_, spot⟩
    ⟨by simp [State.beginning, hk], by simp [State.beginning, hk], by simp [State.beginning, hk],
      fun _ => ⟨⟨n, source⟩, (h.2.queued k hq).exports hk⟩⟩
    ⟨nofun, nofun, fun _ => ⟨by simp [State.beginning, hk], fun _ => hk, fun e => nomatch picked.symm.trans e⟩⟩⟩

/-- A task that begins keeps the laws of R42 (R73). -/
theorem beginTask_carried {k : Task} {p : PickPoint} (h : s.Carried pending) (idle : s.picker.state = .idle) (swept : s.mechReset = false)
    (hq : k ∈ s.picker.queue) (target : s.taskTarget k = some p) : (beginTask k p s).Carried pending := by
  obtain ⟨destination, grip⟩ := State.taskTarget_eq_some.mp target
  have free : k.kind ≠ .unload → s.gripHeld = false := fun hk => grip.resolve_right fun e => by
    simp only [Task.fromGrip, Bool.and_eq_true, decide_eq_true_eq] at e
    exact hk e.1
  cases hk : k.kind with
  | unload => exact beginTask_unload h idle swept hq hk destination grip
  | load => exact beginTask_load h idle swept hq hk destination (free (by rw [hk]; nofun))
  | importTask => exact beginTask_import h idle swept hq hk destination (free (by rw [hk]; nofun))
  | exportTask => exact beginTask_export h idle swept hq hk destination (free (by rw [hk]; nofun))

-- Every change ----------------------------------------------------------------------------------------------------

/-- Only LOADs of recorded cartridges join the queue, and only LOADs leave it; nothing else of the carriage changes. -/
structure Carriage.Shift (k j : Carriage) : Prop where
  rest   : j = { k with queue := j.queue }
  kept   : (j.queue.filter fun q => decide (q.kind ≠ .load)) = k.queue.filter fun q => decide (q.kind ≠ .load)
  joined : ∀ q ∈ j.queue, q ∈ k.queue ∨ q.kind = .load ∧ ∃ c, q.cart = some c ∧ k.Known c

theorem Carriage.Shift.of_eq {k j : Carriage} (h : j = k) : k.Shift j := by
  subst h
  exact ⟨rfl, rfl, fun _ hq => .inl hq⟩

theorem Carriage.Shift.trans {k j i : Carriage} (h : k.Shift j) (h' : j.Shift i) : k.Shift i := by
  obtain ⟨rest, kept, joined⟩ := h
  refine ⟨?_, h'.kept.trans kept, fun q hq => ?_⟩
  · have rest' := h'.rest
    rw [rest] at rest'
    exact rest'
  · rcases h'.joined q hq with old | ⟨load, c, cart, known⟩
    · exact joined q old
    · rw [rest] at known
      exact .inr ⟨load, c, cart, known⟩

theorem Carriage.Lawful.shift {k j : Carriage} (law : k.Lawful pending) (h : k.Shift j) : j.Lawful pending := by
  rw [h.rest]
  exact law.loads h.kept h.joined

/-- What a change that minds the mechanics does to the carriage, unless the picker begins a task. -/
structure State.Shift (s t : State) : Prop where
  numbered : s.numbered → t.numbered
  carriage : s.carriage.Shift t.carriage

theorem State.Shift.refl (s : State) : s.Shift s := ⟨id, .of_eq rfl⟩

theorem State.Shift.trans {u : State} (h : s.Shift t) (h' : t.Shift u) : s.Shift u :=
  ⟨h'.numbered ∘ h.numbered, h.carriage.trans h'.carriage⟩

theorem State.Shift.congr (stands : t.lib.carts.map Cartridge.stand = s.lib.carts.map Cartridge.stand) (mail : t.lib.mail = s.lib.mail)
    (berth : ∀ d : DriveNo, (t.drives[d]).berth = (s.drives[d]).berth) (picker : t.picker = s.picker)
    (reset : t.mechReset = s.mechReset) (condition : t.condition = s.condition) : s.Shift t :=
  ⟨fun h => State.numbered_of_stands h stands, .of_eq (State.carriage_congr stands mail berth (by rw [picker]) (by rw [picker])
    (by rw [picker]) reset condition)⟩

theorem State.Shift.carried (h : s.Shift t) (law : s.Carried pending) : t.Carried pending := ⟨h.numbered law.1, law.2.shift h.carriage⟩

/-- A change that minds the mechanics begins a task or changes the queued LOADs alone. -/
theorem State.Change.shift (h : State.Change True f s t) : s.Shift t ∨
    ∃ k p, s.picker.state = .idle ∧ s.mechReset = false ∧ k ∈ s.picker.queue ∧ s.taskTarget k = some p ∧ t = beginTask k p s := by
  cases h with
  | begin idle swept queued target => exact .inr ⟨_, _, idle, swept, queued, target, rfl⟩
  | outer plant =>
    exact .inl (.congr (congrArg (fun p => p.lib.carts.map Cartridge.stand) plant) (congrArg (fun p => p.lib.mail) plant)
      (fun d => congrArg (fun p => (p.drives[d]).berth) plant) (congrArg Plant.picker plant) (congrArg Plant.mechReset plant)
      (congrArg Plant.condition plant))
  | drive d g hg =>
    refine .inl (.congr rfl rfl (fun x => ?_) rfl rfl rfl)
    rw [State.modDrive_get]
    split
    · next hx =>
      subst hx
      exact hg.berth trivial
    · rfl
  | write hw => exact .inl (.congr rfl rfl (beginWrite_berth hw) rfl rfl rfl)
  | picker g hg =>
    obtain ⟨kept, joined⟩ := hg.queue trivial
    obtain ⟨state, active⟩ := hg.task trivial
    have carriage : (s.modPicker g).carriage = { s.carriage with queue := (g s.picker).queue } := by
      simp only [State.carriage, State.modPicker_picker, state, active]
      rfl
    refine .inl ⟨id, carriage, kept, fun q hq => (joined q hq).imp_right fun ⟨load, c, cart, known⟩ => ?_⟩
    obtain ⟨r, hr⟩ := Option.isSome_iff_exists.mp known
    exact ⟨load, c, cart, r.spot, by simp only [State.carriage, hr, Option.map_some]⟩
  | lib g hg =>
    obtain ⟨stands, mail⟩ := hg.stands trivial
    exact .inl (.congr stands mail (fun _ => rfl) rfl rfl rfl)
  | side sd g a => exact .inl (.congr (modSide_stands sd g s) rfl (fun _ => rfl) rfl rfl rfl)
  | enter _ _ _ unminded => exact absurd trivial unminded
  | swept unminded => exact absurd trivial unminded
  | _ => exact .inl (.congr rfl rfl (fun _ => rfl) rfl rfl rfl)

/-- A chain of changes that mind the mechanics keeps the laws of R42. -/
theorem State.Changes.keeps_carried (h : State.Changes True f s t) (law : s.Carried pending) : t.Carried pending := by
  refine h.keeps (P := (State.Carried · pending)) (fun u v hc hu => ?_) law
  rcases hc.shift with shift | ⟨k, p, idle, swept, queued, target, rfl⟩
  · exact shift.carried hu
  · exact beginTask_carried hu idle swept queued target

/-- While the picker is not IDLE no task begins. -/
theorem State.Changes.shift (h : State.Changes True f s t) (notIdle : s.picker.state ≠ .idle) : s.Shift t := by
  refine h.keeps (P := s.Shift) (fun u v hc hu => hu.trans (hc.shift.resolve_right fun ⟨_, _, idle, _⟩ => notIdle ?_)) (.refl s)
  have state : u.carriage.state = s.carriage.state := (congrArg Carriage.state hu.carriage.rest :)
  exact state.symm.trans idle

end Sys2Proof.Machine
end
-- ==== Proofs: picks and placements keep the laws of places ====
section
/-!
SUPPORT for O24: the pick, the end of a task, and a cartridge laid where it goes.
-/
namespace Sys2Proof.Machine

variable {s t : State} {pending : List Task}

namespace Carriage

variable {k j : Carriage} {a : Active} {cart : Option Nat} {p : PickPoint}

-- What a source says ----------------------------------------------------------------------------------------------

theorem Source.of_mail (h : k.Source a) (hp : a.source = some .mail) : a.task.kind = .importTask := by
  cases hk : a.task.kind with
  | unload =>
    have source := (h.unload hk).1.symm.trans hp
    cases hd : a.task.drive <;> simp [hd] at source
  | load => obtain ⟨n, hn⟩ := (h.load hk).1; exact nomatch hn.symm.trans hp
  | importTask => rfl
  | exportTask => obtain ⟨n, hn⟩ := (h.exports hk).1; exact nomatch hn.symm.trans hp

theorem Source.of_drive {d : DriveNo} (h : k.Source a) (hp : a.source = some (.drive d)) : a.task.kind = .unload ∧ a.task.drive = some d := by
  cases hk : a.task.kind with
  | unload =>
    refine ⟨rfl, ?_⟩
    have source := (h.unload hk).1.symm.trans hp
    cases hd : a.task.drive with
    | none => simp [hd] at source
    | some x => simpa [hd] using source
  | load => obtain ⟨n, hn⟩ := (h.load hk).1; exact nomatch hn.symm.trans hp
  | importTask => exact nomatch (h.imports hk).1.symm.trans hp
  | exportTask => obtain ⟨n, hn⟩ := (h.exports hk).1; exact nomatch hn.symm.trans hp

/-- A task in progress, the mechanism reset is complete. -/
theorem Lawful.active_swept (law : k.Lawful pending) (ha : k.active = some a) : k.resetting = false :=
  Bool.eq_false_iff.mpr fun h => nomatch (law.sweep h).1.symm.trans ha

theorem Lawful.active_ready (law : k.Lawful pending) (ha : k.active = some a) : k.condition = .ready := by
  cases hc : k.condition with
  | ready => rfl
  | unformatted => exact nomatch (law.bare hc).2.2.1.symm.trans ha

/-- No queued task unloads the drive, or imports the cartridge, of the one in progress. -/
theorem Lawful.active_compat (law : k.Lawful pending) (ha : k.active = some a) : ∀ q ∈ k.queue, a.task.compatible q := by
  have compat := law.compat
  rw [tasks, ha] at compat
  exact (List.pairwise_cons.mp compat).1

theorem unloadFrom_ne_picker {q : Task} (h : q.drive ≠ none) : unloadFrom q ≠ .picker := by
  unfold unloadFrom
  cases hd : q.drive with
  | none => exact absurd hd h
  | some d => nofun

theorem unloadFrom_cases (q : Task) : unloadFrom q = .picker ∧ q.drive = none ∨ ∃ d, unloadFrom q = .drive d ∧ q.drive = some d := by
  unfold unloadFrom
  cases q.drive with
  | none => exact .inl ⟨rfl, rfl⟩
  | some d => exact .inr ⟨d, rfl, rfl⟩

-- The pick --------------------------------------------------------------------------------------------------------

/-- The task's cartridge is in the grip, and its source is empty of it (R44, R50, R71). -/
structure PickedUp (a : Active) (p : PickPoint) (k j : Carriage) : Prop where
  same      : SameBut a.task.cart k j
  spot      : ∀ c, a.task.cart = some c → j.spot c = (k.spot c).map fun y => (.picker, y.2)
  mail      : j.mail = (k.mail && decide (p ≠ .mail))
  drive     : ∀ d, p = .drive d → (j.berth d).phase = (k.berth d).phase ∧ (j.berth d).fitted = (k.berth d).fitted ∧ (j.berth d).mounted = none
  drives    : ∀ d, p ≠ .drive d → j.berth d = k.berth d
  active    : j.active = some (a.pick j.mail)
  state     : j.state = k.state
  queue     : j.queue = k.queue
  resetting : j.resetting = k.resetting
  condition : j.condition = k.condition

theorem PickedUp.moved (h : PickedUp a p k j) {c : Nat} (hc : a.task.cart = some c) {q : Place} : j.At c q → q = .picker := fun ⟨n, hn⟩ => by
  rw [h.spot c hc, Option.map_eq_some_iff] at hn
  obtain ⟨y, -, e⟩ := hn
  exact (congrArg Prod.fst e).symm

theorem PickedUp.phase (h : PickedUp a p k j) (d : DriveNo) : (j.berth d).phase = (k.berth d).phase := by
  by_cases hp : p = .drive d
  · exact (h.drive d hp).1
  · rw [h.drives d hp]

theorem PickedUp.home (h : PickedUp a p k j) {c n : Nat} : j.Home c n ↔ k.Home c n := by
  by_cases hc : a.task.cart = some c
  · rw [Home, Home, h.spot c hc]
    cases k.spot c with
    | none => simp
    | some y => simp [Prod.ext_iff]
  · exact h.same.home hc n

/-- A pick keeps the laws of R42. -/
theorem Lawful.pickUp (law : k.Lawful pending) (ha : k.active = some a) (np : a.picked = false) (hp : a.source = some p)
    (up : PickedUp a p k j) : j.Lawful pending := by
  have work := law.working a ha
  have swept := law.active_swept ha
  have ready := law.active_ready ha
  have compat := law.active_compat ha
  obtain ⟨_, source, waiting, clear, held⟩ := work.picks np
  cases hp.symm.trans source
  have fromMail : p = .mail → a.task.kind = .importTask := fun e => work.source.of_mail (e ▸ hp)
  have fromDrive : ∀ d, p = .drive d → a.task.kind = .unload ∧ a.task.drive = some d := fun d e => work.source.of_drive (e ▸ hp)
  have only : ∀ d, p = .drive d → k.Only (.drive d) a.task.cart := fun d e => by
    obtain ⟨kind, drive⟩ := fromDrive d e
    exact ((work.source.unload kind).2 d drive).2.2.1 np
  have elsewhere : ∀ c q, a.task.cart = some c → k.At c q → q = placeOf p := fun c q hc hq => at_unique hq (held c hc)
  have noMail : p ≠ .mail → j.mail = k.mail := fun e => by rw [up.mail, decide_eq_true e, Bool.and_true]
  have emptied : ∀ d, p = .drive d → j.Clear (.drive d) := fun d e x hx => by
    by_cases hc : a.task.cart = some x
    · exact nomatch up.moved hc hx
    · exact hc (only d e x ((up.same.places.at hc _).mp hx))
  have mailLaw : ∀ x, j.At x .mail → a.task.cart ≠ some x ∧ k.mail = true ∧ p ≠ .mail := fun x hx => by
    have other : a.task.cart ≠ some x := fun hc => nomatch up.moved hc hx
    have old := (up.same.places.at other _).mp hx
    rcases law.mailed swept (by rw [work.busy]; nofun) x old with full | ⟨b, hb, -, -, hbc⟩
    · refine ⟨other, full, fun e => ?_⟩
      obtain ⟨-, -, c, hc⟩ := work.source.imports (fromMail e)
      have at_mail := held c hc
      rw [e] at at_mail
      exact other (hc.trans (congrArg some (law.apart c x .mail at_mail old nofun)))
    · cases ha.symm.trans hb
      exact absurd hbc other
  refine ⟨up.same.places.apart law.apart fun c q b hc hq _ hb => ?_, fun x y n hx hy => law.homes x y n (up.home.mp hx) (up.home.mp hy),
    up.same.agree law.agree (fun h => up.resetting.trans h) (fun c _ _ ⟨q, hq, kind, hcart⟩ => ⟨q, ?_, kind, hcart⟩) fun c q n hc hq => ?_,
    fun h => (nomatch (up.condition.trans ready).symm.trans h), fun h => (nomatch (up.resetting.trans swept).symm.trans h), fun d => ?_,
    fun q hq => ?_, fun b hb => ?_, ?_, fun _ _ x hx => ?_⟩
  · cases up.moved hc hq
    exact absurd hb (clear b)
  · simp only [tasks, ha, up.active, up.queue] at hq ⊢
    exact hq
  · have place : q = .picker := up.moved hc ⟨n, hq⟩
    subst place
    obtain ⟨m, hm⟩ := held c hc
    rw [up.spot c hc, hm] at hq
    cases hq
    have agree := law.agree c _ _ hm
    cases p with
    | slot i =>
      have home : m = some i := agree
      rw [home]
      rfl
    | drive d => exact agree
    | mail =>
      have kind := fromMail rfl
      have target : ∃ i, a.target = .slot i := by
        cases ht : a.target with
        | slot i => exact ⟨i, rfl⟩
        | drive d => rcases (work.target.drive d ht).2 with ⟨e, -⟩ | ⟨e, -⟩ <;> exact nomatch kind.symm.trans e
        | mail => exact nomatch kind.symm.trans ((work.target.mail ht).2.1 np)
      obtain ⟨i, hi⟩ := target
      obtain ⟨q, hq⟩ := work.target.slot i hi waiting c hc
      cases hm.symm.trans hq
      rfl
  · by_cases e : p = .drive d
    · obtain ⟨phase, fitted, mounted⟩ := up.drive d e
      refine ⟨?_, fun _ => mounted, fun sd hsd => (nomatch mounted.symm.trans hsd), fun _ c hc => absurd hc (emptied d e c)⟩
      rw [phase, fitted]
      exact (law.mount d).fitted
    · refine (law.mount d).moved up.same.places (up.drives d e) (fun h => up.resetting.symm.trans h) (fun c hc hk => e ?_)
        fun c hc hj => nomatch up.moved hc hj
      have place := elsewhere c _ hc hk
      cases p with
      | drive x => exact congrArg PickPoint.drive (Place.drive.inj place).symm
      | _ => cases place
  · rw [up.queue] at hq
    refine (law.queued q hq).moved up.same.places (fun kind => ⟨fun c hc => ⟨fun hqc => ?_, fun hj => ?_⟩,
      fun d hd => up.drives d fun e => ?_⟩) fun kind => ?_
    · have place := elsewhere c _ hc (((law.queued q hq).alone kind).2 c hqc)
      rcases unloadFrom_cases q with ⟨picker, -⟩ | ⟨d, drive, hd⟩
      · rw [picker] at place
        cases p <;> cases place
      · rw [drive] at place
        cases p with
        | drive x =>
          cases place
          obtain ⟨kind', hd'⟩ := fromDrive d rfl
          exact (compat q hq).1 ⟨kind', kind, hd'.trans hd.symm⟩
        | _ => cases place
    · exact unloadFrom_ne_picker (work.grips q hq kind) (up.moved hc hj)
    · obtain ⟨kind', hd'⟩ := fromDrive d e
      exact (compat q hq).1 ⟨kind', kind, hd'.trans hd.symm⟩
    · obtain ⟨mail, -, c, hqc, at_mail⟩ := (law.queued q hq).imports kind
      have notMail : p ≠ .mail := fun e => by
        obtain ⟨-, -, x, hx⟩ := work.source.imports (fromMail e)
        have here := held x hx
        rw [e] at here
        obtain rfl := law.apart x c .mail here at_mail nofun
        exact (compat q hq).2 ⟨fromMail e, kind, hx.trans hqc.symm⟩
      refine ⟨(noMail notMail).trans mail, fun x hx hqx => notMail ?_⟩
      cases hqc.symm.trans hqx
      have place := elsewhere c _ hx at_mail
      cases p with
      | mail => rfl
      | _ => cases place
  · cases up.active.symm.trans hb
    refine ⟨up.state.trans work.busy, fun q hq => work.grips q (up.queue ▸ hq), fun c hc => up.same.2 c (work.known c hc),
      fun _ => ⟨fun x hx => ?_, fun c hc => ?_⟩, nofun, ⟨fun kind => ?_, fun kind => ?_, work.source.imports, work.source.exports⟩,
      ⟨fun n hn _ c hc => up.home.mpr (work.target.slot n hn waiting c hc), fun d hd => ?_, fun hm => ?_⟩⟩
    · by_contra hc
      exact clear x ((up.same.places.at hc _).mp hx)
    · obtain ⟨n, hn⟩ := held c hc
      exact ⟨n, by rw [up.spot c hc, hn]; rfl⟩
    · obtain ⟨source', drives⟩ := work.source.unload kind
      refine ⟨source', fun d hd => ?_⟩
      obtain ⟨fitted, phase, -, -, was⟩ := drives d hd
      have hpd : p = .drive d := by
        have e := hp.symm.trans source'
        have hd' : a.task.drive = some d := hd
        rw [hd'] at e
        exact Option.some.inj e
      obtain ⟨-, fitted', mounted⟩ := up.drive d hpd
      rw [up.phase, fitted']
      exact ⟨fitted, .inl (phase.resolve_right fun e => nomatch np.symm.trans e.1), nofun, fun _ => ⟨emptied d hpd, mounted⟩, was⟩
    · obtain ⟨source', d, hd, phase⟩ := work.source.load kind
      exact ⟨source', d, hd, by rw [up.phase]; exact phase⟩
    · obtain ⟨drive, kinds⟩ := work.target.drive d hd
      rw [up.phase]
      exact ⟨drive, kinds.imp_right fun e => ⟨e.1, rfl⟩⟩
    · obtain ⟨kind, exported, -⟩ := work.target.mail hm
      refine ⟨kind, nofun, fun _ hw x hx => ?_⟩
      obtain ⟨-, full, notMail⟩ := mailLaw x hx
      have target : a.target = .mail := hm
      have free : (decide (a.target = .mail) && j.mail) = false := hw
      rw [target, noMail notMail, full] at free
      cases free
  · have tasks : j.tasks = k.tasks := by
      simp only [tasks, ha, up.active, up.queue]
      rfl
    rw [tasks]
    exact law.compat
  · obtain ⟨-, full, notMail⟩ := mailLaw x hx
    exact .inl ((noMail notMail).trans full)

-- The end of a task -----------------------------------------------------------------------------------------------

/-- The task in progress is over (R73). -/
def ended (k : Carriage) : Carriage := { k with state := if k.state = .fault then .fault else .idle, active := none }

/-- The task in progress ends, unless it is an IMPORT that has yet to pick. -/
theorem Lawful.ended (law : k.Lawful pending) (settled : ∀ a, k.active = some a → a.picked = true ∨ a.task.kind ≠ .importTask) :
    k.ended.Lawful pending := by
  have same : SameBut none k k.ended := .of_eq rfl
  refine { law with agree := ?_, bare := ?_, sweep := ?_, mount := ?_, queued := ?_, working := ?_, compat := ?_, mailed := ?_ }
  · refine same.agree law.agree id (fun c _ hc ⟨q, hq, kind, cart⟩ => ⟨q, ?_, kind, cart⟩) nofun
    simp only [tasks, List.mem_append, Option.mem_toList] at hq ⊢
    rcases hq with (hq | hq) | hq
    · obtain ⟨a, ha, rfl⟩ := Option.map_eq_some_iff.mp hq
      have picked := (settled a ha).resolve_right fun e => e kind
      exact nomatch at_unique hc (((law.working a ha).picked picked).2 c cart)
    · exact .inl (.inr hq)
    · exact .inr hq
  · intro unformatted
    obtain ⟨resetting, known, -, rest⟩ := law.bare unformatted
    exact ⟨resetting, known, rfl, rest⟩
  · intro resetting
    exact ⟨rfl, (law.sweep resetting).2⟩
  · exact fun d => (law.mount d).moved same.places rfl id nofun nofun
  · exact fun q hq => (law.queued q hq).congr rfl rfl fun _ _ _ => rfl
  · exact fun _ ha => nomatch ha
  · exact law.compat.sublist (List.sublist_append_right ..)
  · intro hr hs c hc
    have notFault : k.state ≠ .fault := fun e => hs (if_pos e)
    refine .inl ((law.mailed hr notFault c hc).resolve_right fun ⟨a, ha, np, source, _⟩ => ?_)
    rcases settled a ha with picked | kind
    · exact nomatch picked.symm.trans np
    · exact kind ((law.working a ha).source.of_mail source)

-- A cartridge laid down -------------------------------------------------------------------------------------------

/-- The cartridge of the grip, if it is a recorded one, is laid at place `q`. -/
structure LaidAt (cart : Option Nat) (q : Place) (k j : Carriage) : Prop where
  same      : SameBut cart k j
  place     : ∀ c x n, cart = some c → j.spot c = some (x, n) → x = q
  state     : j.state = k.state
  queue     : j.queue = k.queue
  active    : j.active = k.active
  resetting : j.resetting = k.resetting
  condition : j.condition = k.condition

theorem LaidAt.at (h : LaidAt cart (placeOf p) k j) {c : Nat} {x : Place} (hc : cart = some c) : j.At c x → x = placeOf p :=
  fun ⟨n, hn⟩ => h.place c x n hc hn

theorem placeOf_ne_picker (p : PickPoint) : placeOf p ≠ .picker := by cases p <;> nofun
theorem placeOf_ne_offline (p : PickPoint) : placeOf p ≠ .offline := by cases p <;> nofun

/-- Laying the grip's cartridge down keeps the laws of R42. -/
theorem Lawful.lay (law : k.Lawful pending) (idle : k.active = none) (swept : k.resetting = false) (ready : k.condition = .ready)
    (laid : LaidAt cart (placeOf p) k j) (grip : ∀ c, cart = some c → k.At c .picker)
    (grips : ∀ q ∈ k.queue, q.kind = .unload → q.drive ≠ none) (alone : cart ≠ none → k.Clear (placeOf p))
    (agree : ∀ c n, cart = some c → j.spot c = some (placeOf p, n) → j.Agrees pending c (placeOf p) n)
    (homes : ∀ c n, cart = some c → j.Home c n → ∀ b, k.Home b n → b = c)
    (mount : ∀ d, j.Mounting d)
    (drives : ∀ q ∈ k.queue, q.kind = .unload → ∀ d, q.drive = some d → j.berth d = k.berth d ∧ p ≠ .drive d)
    (mail : k.mail = true ∨ p = .mail → j.mail = true) : j.Lawful pending := by
  refine ⟨laid.same.places.apart law.apart fun c x b hc hx _ hb => ?_, laid.same.homes law.homes fun c n b hc hj => homes c n hc hj b,
    laid.same.agree law.agree (fun h => laid.resetting.trans h)
      (fun c _ _ ⟨q, hq, kind, hcart⟩ => ⟨q, ?_, kind, hcart⟩) fun c x n hc hx => ?_,
    fun h => (nomatch (laid.condition.trans ready).symm.trans h), fun h => (nomatch (laid.resetting.trans swept).symm.trans h), mount,
    fun q hq => ?_, fun a ha => (nomatch (laid.active.trans idle).symm.trans ha), ?_, fun hr hs c hc => ?_⟩
  · cases laid.at hc hx
    exact absurd hb (alone (by rw [hc]; nofun) b)
  · simpa only [tasks, laid.active, laid.queue] using hq
  · cases laid.place c x n hc hx
    exact agree c n hc hx
  · rw [laid.queue] at hq
    refine (law.queued q hq).moved laid.same.places (fun kind => ⟨fun c hc => ⟨fun hqc => ?_, fun hj => ?_⟩,
      fun d hd => (drives q hq kind d hd).1⟩) fun kind => ?_
    · exact unloadFrom_ne_picker (grips q hq kind) (at_unique (((law.queued q hq).alone kind).2 c hqc) (grip c hc))
    · have place := laid.at hc hj
      rcases unloadFrom_cases q with ⟨picker, -⟩ | ⟨d, drive, hd⟩
      · exact placeOf_ne_picker p (place.symm.trans picker)
      · rw [drive] at place
        cases p with
        | drive x =>
          cases place
          exact (drives q hq kind d hd).2 rfl
        | _ => cases place
    · obtain ⟨full, -, c, hqc, at_mail⟩ := (law.queued q hq).imports kind
      refine ⟨mail (.inl full), fun x hx hqx => ?_⟩
      cases hqc.symm.trans hqx
      exact nomatch at_unique at_mail (grip _ hx)
  · have same : j.tasks = k.tasks := by simp only [tasks, laid.active, laid.queue]
    rw [same]
    exact law.compat
  · refine .inl (mail ?_)
    by_cases e : cart = some c
    · have place := laid.at e hc
      cases p with
      | mail => exact .inr rfl
      | _ => cases place
    · rw [laid.resetting] at hr
      rw [laid.state] at hs
      refine .inl ((law.mailed hr hs c ((laid.same.places.at e _).mp hc)).resolve_right fun ⟨a, ha, _⟩ => ?_)
      exact nomatch idle.symm.trans ha

end Carriage

end Sys2Proof.Machine
end
-- ==== Proofs: the picker's completions keep the laws of places ====
section
/-!
SUPPORT for O24: pick and placement completions.
-/
namespace Sys2Proof.Machine

variable {s t : State} {pending : List Task} {a : Active}

-- A cartridge of a task -------------------------------------------------------------------------------------------

/-- What is recorded of a task's cartridge changes, if it is a recorded one. -/
theorem modCartOf_carriage {cart : Option Nat} {g : Cartridge → Cartridge} {p : Place × Option Nat → Place × Option Nat}
    (hg : ∀ r, (g r).number = r.number ∧ (g r).spot = p r.spot) (s : State) :
    Carriage.SameBut cart s.carriage (modCartOf cart g s).carriage ∧
      ∀ c, cart = some c → (modCartOf cart g s).carriage.spot c = (s.carriage.spot c).map p := by
  cases cart with
  | none => exact ⟨.of_eq rfl, nofun⟩
  | some x =>
    have carriage : (modCartOf (some x) g s).carriage = s.carriage.turn x p := State.modCart_carriage x g p hg s
    rw [carriage]
    refine ⟨Carriage.turn_sameBut x p _, fun c hc => ?_⟩
    cases hc
    exact if_pos rfl

theorem modCartOf_numbered (h : s.numbered) (cart : Option Nat) {g : Cartridge → Cartridge} (hg : ∀ r, (g r).number = r.number) :
    (modCartOf cart g s).numbered := by
  cases cart with
  | none => exact h
  | some c => exact State.modCart_numbered h c g hg

/-- The carriage is the library's but for what the mechanics and the clock of resets say. -/
theorem State.spot_of_carts (h : t.lib.carts = s.lib.carts) : t.carriage.spot = s.carriage.spot := by
  simp only [State.carriage, State.cart?, h]

theorem State.numbered_of_carts (h : s.numbered) (carts : t.lib.carts = s.lib.carts) : t.numbered := by
  rwa [State.numbered, carts]

theorem State.modDrive_berth {g : Drive → Drive} (hg : ∀ r, (g r).berth = r.berth) (d x : DriveNo) (s : State) :
    ((s.modDrive d g).drives[x]).berth = (s.drives[x]).berth := by
  rw [State.modDrive_get]
  split
  · exact hg _
  · rfl

theorem lingerJudge_berth (d x : DriveNo) (s : State) : ((lingerJudge d s).drives[x]).berth = (s.drives[x]).berth := by
  unfold lingerJudge
  apply State.modDrive_berth
  exact fun _ => rfl

theorem judgePin_berth (d x : DriveNo) (s : State) : ((judgePin d s).drives[x]).berth = (s.drives[x]).berth := by
  unfold judgePin
  dsimp only
  split
  · exact State.modDrive_berth (g := fun r => { r with pin := true, linger := none }) (fun _ => rfl) d x s
  · split
    · exact (lingerJudge_berth d x _).trans (State.modDrive_berth (g := fun r => { r with pin := false }) (fun _ => rfl) d x s)
    · rfl

-- Picks -----------------------------------------------------------------------------------------------------------

/-- What leaves the point picked from (R44, R50, R71). -/
theorem leavePoint_berth (p : PickPoint) (s : State) (x : DriveNo) :
    (p = .drive x → ((leavePoint p s).drives[x]).berth = { (s.drives[x]).berth with mounted := none, unrecorded := false }) ∧
      (p ≠ .drive x → ((leavePoint p s).drives[x]).berth = (s.drives[x]).berth) := by
  cases p with
  | slot n => exact ⟨nofun, fun _ => rfl⟩
  | mail => exact ⟨nofun, fun _ => rfl⟩
  | drive d =>
    have judged := judgePin_berth d x (s.modDrive d fun r => { r with mounted := none, unrecorded := false })
    rw [State.modDrive_get] at judged
    refine ⟨fun e => ?_, fun e => ?_⟩
    · cases e
      rw [if_pos rfl] at judged
      exact judged
    · rw [if_neg fun h => e (by rw [h])] at judged
      exact judged

theorem leavePoint_reset (p : PickPoint) (s : State) :
    (leavePoint p s).mechReset = s.mechReset ∧ (leavePoint p s).condition = s.condition := by
  obtain ⟨desk, -⟩ := leavePoint_frame p s
  exact ⟨congrArg Desk.mechReset desk, congrArg Desk.condition desk⟩

/-- A pick completion keeps the laws of R42. -/
theorem picked_carried (h : s.Carried pending) (p : PickPoint) : (picked p s).Carried pending := by
  unfold picked
  split
  · next a ha =>
    split
    · next taken =>
      obtain ⟨np, hp⟩ := taken
      obtain ⟨same, spot⟩ := modCartOf_carriage (cart := a.task.cart) (g := fun r => { r with place := .picker })
        (p := fun y => (.picker, y.2)) (fun _ => ⟨rfl, rfl⟩) s
      have numbered := modCartOf_numbered h.1 a.task.cart (g := fun r => { r with place := .picker }) fun _ => rfl
      have frame := modCartOf_frame a.task.cart (fun r => { r with place := .picker }) s
      unfold pickDone
      generalize modCartOf a.task.cart (fun r => { r with place := .picker }) s = v at same spot numbered frame
      obtain ⟨-, -, -, -, -, picker, mail, carts⟩ := leavePoint_frame p v
      obtain ⟨reset, condition⟩ := leavePoint_reset p v
      have berth := leavePoint_berth p v
      dsimp only
      generalize leavePoint p v = w at picker mail carts reset condition berth
      have same_picker : w.picker = s.picker := picker.trans (by rw [frame])
      have drives : ∀ d : DriveNo, (v.drives[d]).berth = s.carriage.berth d := fun d => by rw [frame]; rfl
      refine ⟨State.numbered_of_carts numbered carts, h.2.pickUp ha np hp ⟨⟨fun c ne => ?_, fun c => ?_⟩, fun c hc => ?_, ?_, fun d e => ?_,
        fun d e => ?_, rfl, ?_, ?_, ?_, ?_⟩⟩
      · exact (congrFun (State.spot_of_carts carts) c).trans (same.1 c ne)
      · have spots : w.carriage.spot = v.carriage.spot := State.spot_of_carts carts
        have known : v.carriage.Known c → w.carriage.Known c := by rw [Carriage.Known, Carriage.Known, spots]; exact id
        exact known ∘ same.2 c
      · exact (congrFun (State.spot_of_carts carts) c).trans (spot c hc)
      · refine mail.trans ?_
        rw [frame]
        rfl
      · have emptied := (berth d).1 e
        rw [drives d] at emptied
        exact ⟨(congrArg Berth.phase emptied :), (congrArg Berth.fitted emptied :), (congrArg Berth.mounted emptied :)⟩
      · exact ((berth d).2 e).trans (drives d)
      · exact (congrArg Picker.state same_picker :)
      · exact (congrArg Picker.queue same_picker :)
      · exact reset.trans (by rw [frame]; rfl)
      · exact condition.trans (by rw [frame]; rfl)
    · exact h
  · exact h

-- Placements ------------------------------------------------------------------------------------------------------

/-- After the end of a task the allocator and the picker go on. -/
theorem afterTask_carried (h : s.Carried pending) : (afterTask s).Carried pending :=
  (afterTask_changes (f := True)).keeps_carried h

/-- What a placement finds: the task's cartridge in the grip, and the picker about to be free. -/
structure Carriage.Bearing (a : Active) (k : Carriage) : Prop where
  lawful : k.Lawful []
  active : k.active = some a
  picked : a.picked = true

namespace Carriage.Bearing

variable {k j : Carriage} {q : Place} {cart : Option Nat}

theorem work (h : Bearing a k) : k.Working a := h.lawful.working a h.active
theorem swept (h : Bearing a k) : k.resetting = false := h.lawful.active_swept h.active
theorem ready (h : Bearing a k) : k.condition = .ready := h.lawful.active_ready h.active
theorem grip (h : Bearing a k) {c : Nat} (hc : a.task.cart = some c) : k.At c .picker := (h.work.picked h.picked).2 c hc

theorem ended (h : Bearing a k) : k.ended.Lawful [] := h.lawful.ended fun b hb => by
  cases h.active.symm.trans hb
  exact .inl h.picked

/-- The home slot of the cartridge in the grip. -/
theorem home (h : Bearing a k) {c : Nat} (hc : a.task.cart = some c) : ∃ n, k.spot c = some (.picker, some n) := by
  obtain ⟨n, hn⟩ := h.grip hc
  obtain ⟨m, rfl⟩ := Option.isSome_iff_exists.mp (h.lawful.agree c _ _ hn : n.isSome = true)
  exact ⟨m, hn⟩

/-- A drive of which the task is no UNLOAD stays lawful, where the cartridge goes elsewhere. -/
theorem mounting (h : Bearing a k) (same : SameBut a.task.cart k j) {d : DriveNo} (berth : j.berth d = k.berth d)
    (resetting : j.resetting = k.resetting) (out : ∀ c, a.task.cart = some c → ¬ j.At c (.drive d)) : j.Mounting d :=
  (h.lawful.mount d).moved same.places berth (fun e => resetting.symm.trans e) (fun _ hc hd => nomatch at_unique (h.grip hc) hd) out

/-- A cartridge laid in the drive that its task names is mounted there (R63, R71). -/
theorem lay_drive (h : Bearing a k) {d : DriveNo} (target : a.target = .drive d) (laid : LaidAt a.task.cart (.drive d) k.ended j)
    (homes : ∀ c, a.task.cart = some c → j.spot c = (k.spot c).map fun y => (.drive d, y.2)) (mail : j.mail = k.mail)
    (drives : ∀ x, x ≠ d → j.berth x = k.berth x) (fitted : (j.berth d).fitted = true)
    (phase : (j.berth d).phase ≠ .empty ∧ (j.berth d).phase ≠ .loading)
    (held : ∀ sd ∈ (j.berth d).mounted, (j.berth d).unrecorded = false → a.task.cart = some sd.cart)
    (mounts : ∀ c, a.task.cart = some c → j.Mounts d c) : j.Lawful [] := by
  obtain ⟨drive, kinds⟩ := h.work.target.drive d target
  have clear : k.Clear (.drive d) := fun c hc => by
    rcases kinds with ⟨-, loading⟩ | ⟨kind, picked⟩
    · exact ((h.lawful.mount d).holds h.swept c hc).2.1 loading
    · exact (((h.work.source.unload kind).2 d drive).2.2.2.1 picked).1 c hc
  have spot : ∀ c, a.task.cart = some c → ∃ n, k.spot c = some (.picker, some n) ∧ j.spot c = some (.drive d, some n) := fun c hc => by
    obtain ⟨n, hn⟩ := h.home hc
    exact ⟨n, hn, by rw [homes c hc, hn]; rfl⟩
  refine h.ended.lay (p := .drive d) rfl h.swept h.ready laid (fun c hc => h.grip hc) h.work.grips (fun _ => clear) (fun c m hc hm => ?_)
    (fun c n hc ⟨x, hx⟩ b hb => ?_) (fun x => ?_) (fun q hq kind x hx => ?_) fun e => mail.trans (e.resolve_right nofun)
  · obtain ⟨n, -, hn⟩ := spot c hc
    cases hn.symm.trans hm
    rfl
  · obtain ⟨m, hm, hn⟩ := spot c hc
    cases hn.symm.trans hx
    exact h.lawful.homes b c n hb ⟨_, hm⟩
  · by_cases e : x = d
    · subst e
      refine ⟨fun hf => (nomatch fitted.symm.trans hf), fun hb => ?_, fun sd hsd hu => ?_, fun _ c hc => ⟨phase.1, phase.2, ?_⟩⟩
      · rcases hb with hf | he | hl
        · exact nomatch fitted.symm.trans hf
        · exact absurd he phase.1
        · exact absurd hl phase.2
      · obtain ⟨n, -, hn⟩ := spot sd.cart (held sd hsd hu)
        exact ⟨_, hn⟩
      · by_cases hcart : a.task.cart = some c
        · exact mounts c hcart
        · exact absurd ((laid.same.places.at hcart _).mp hc) (clear c)
    · refine h.mounting laid.same (drives x e) laid.resetting fun c hc hx => ?_
      exact e (Place.drive.inj (laid.at (p := .drive d) hc hx))
  · have ne : x ≠ d := by
      rintro rfl
      rcases kinds with ⟨-, loading⟩ | ⟨kind', -⟩
      · exact nomatch loading.symm.trans ((h.lawful.queued q hq).drive kind x hx).1
      · exact (h.lawful.active_compat h.active q hq).1 ⟨kind', kind, drive.trans hx.symm⟩
    exact ⟨drives x ne, fun e => ne (PickPoint.drive.inj e).symm⟩

/-- The drive that an UNLOAD emptied, once its cartridge is elsewhere: EMPTY, or in FAULT (R71, R81). -/
theorem emptied (h : Bearing a k) (same : SameBut a.task.cart k j) (resetting : j.resetting = k.resetting)
    (out : ∀ c d, a.task.cart = some c → ¬ j.At c (.drive d)) (d : DriveNo)
    (unload : a.task.kind = .unload → a.task.drive = some d → j.berth d =
      { k.berth d with phase := if (k.berth d).phase = .unloading then .empty else (k.berth d).phase })
    (others : (a.task.kind = .unload → a.task.drive ≠ some d) → j.berth d = k.berth d) : j.Mounting d := by
  by_cases hd : a.task.kind = .unload ∧ a.task.drive = some d
  · obtain ⟨kind, drive⟩ := hd
    obtain ⟨fitted, -, -, cleared, -⟩ := (h.work.source.unload kind).2 d drive
    obtain ⟨clear, mounted⟩ := cleared h.picked
    have berth := unload kind drive
    refine ⟨fun hf => ?_, fun _ => ?_, fun sd hsd => ?_, fun _ c hc => ?_⟩
    · rw [berth] at hf
      exact nomatch fitted.symm.trans hf
    · rw [berth]
      exact mounted
    · rw [berth] at hsd
      exact nomatch mounted.symm.trans hsd
    · by_cases hcart : a.task.cart = some c
      · exact absurd hc (out c d hcart)
      · exact absurd ((same.places.at hcart _).mp hc) (clear c)
  · exact h.mounting same (others fun kind drive => hd ⟨kind, drive⟩) resetting fun c hc => out c d hc

/-- A cartridge laid in its home slot (R44). -/
theorem lay_slot (h : Bearing a k) {n : Nat} (target : a.target = .slot n) (waiting : a.waiting = false)
    (laid : LaidAt a.task.cart (.slot n) k.ended j)
    (spot : ∀ c, a.task.cart = some c → j.spot c = (k.spot c).map fun _ => (.slot n, some n)) (mail : j.mail = k.mail)
    (unload : a.task.kind = .unload → ∀ d, a.task.drive = some d → j.berth d =
      { k.berth d with phase := if (k.berth d).phase = .unloading then .empty else (k.berth d).phase })
    (others : ∀ d, (a.task.kind = .unload → a.task.drive ≠ some d) → j.berth d = k.berth d) : j.Lawful [] := by
  have home := h.work.target.slot n target waiting
  have spots : ∀ c, a.task.cart = some c → j.spot c = some (.slot n, some n) := fun c hc => by
    obtain ⟨m, hm⟩ := h.home hc
    rw [spot c hc, hm]
    rfl
  refine h.ended.lay (p := .slot n) rfl h.swept h.ready laid (fun c hc => h.grip hc) h.work.grips (fun carries b ⟨x, hb⟩ => ?_)
    (fun c m hc hm => ?_) (fun c m hc ⟨x, hx⟩ b hb => ?_) (fun d => ?_) (fun q hq kind d hd => ⟨?_, nofun⟩)
    fun e => mail.trans (e.resolve_right nofun)
  · obtain ⟨c, hc⟩ := Option.ne_none_iff_exists'.mp carries
    obtain rfl : x = some n := h.lawful.agree b _ _ hb
    obtain rfl := h.lawful.homes b c n ⟨_, hb⟩ (home c hc)
    exact nomatch at_unique ⟨_, hb⟩ (h.grip hc)
  · cases (spots c hc).symm.trans hm
    rfl
  · cases (spots c hc).symm.trans hx
    exact h.lawful.homes b c n hb (home c hc)
  · refine h.emptied laid.same laid.resetting (fun c x hc hx => ?_) d (fun kind hd => unload kind d hd) (others d)
    exact nomatch laid.at (p := .slot n) hc hx
  · exact others d fun kind' hd' => (h.lawful.active_compat h.active q hq).1 ⟨kind', kind, hd'.trans hd.symm⟩

/-- A cartridge laid in the mail slot has no home slot (R42, R56). -/
theorem lay_mail (h : Bearing a k) (target : a.target = .mail) (waiting : a.waiting = false) (laid : LaidAt a.task.cart .mail k.ended j)
    (spot : ∀ c, a.task.cart = some c → j.spot c = (k.spot c).map fun _ => (.mail, none)) (mail : j.mail = true)
    (berth : j.berth = k.berth) : j.Lawful [] := by
  have spots : ∀ c, a.task.cart = some c → j.spot c = some (.mail, none) := fun c hc => by
    obtain ⟨m, hm⟩ := h.home hc
    rw [spot c hc, hm]
    rfl
  refine h.ended.lay (p := .mail) rfl h.swept h.ready laid (fun c hc => h.grip hc) h.work.grips
    (fun _ => (h.work.target.mail target).2.2 h.picked waiting) (fun c m hc hm => ?_) (fun c m hc ⟨x, hx⟩ => ?_) (fun d => ?_)
    (fun q _ _ d _ => ⟨congrFun berth d, nofun⟩) fun _ => mail
  · cases (spots c hc).symm.trans hm
    exact .inr (.inl rfl)
  · cases (spots c hc).symm.trans hx
  · exact h.mounting laid.same (congrFun berth d) laid.resetting fun c hc hx => nomatch laid.at (p := .mail) hc hx

end Carriage.Bearing

end Sys2Proof.Machine
end
-- ==== Proofs: placements keep the laws of places ====
section
/-!
SUPPORT for O24: placement completions.
-/
namespace Sys2Proof.Machine

variable {s t u v w : State} {pending : List Task} {a : Active}

theorem State.Carried.bearing (h : s.Carried []) (ha : s.picker.active = some a) (picked : a.picked = true) :
    Carriage.Bearing a s.carriage := ⟨h.2, ha, picked⟩

/-- Queued LOADs apart, the end of the task in progress is all that its end changes. -/
theorem State.Shift.endTask (h : s.Shift t) : (endTask s).Shift (endTask t) := by
  obtain ⟨numbered, rest, kept, joined⟩ := h
  exact ⟨numbered, congrArg Carriage.ended rest, kept, joined⟩

theorem mailNotice_drives (a : Active) (s : State) :
    (mailNotice a s).drives = s.drives ∧ (mailNotice a s).mechReset = s.mechReset ∧ (mailNotice a s).condition = s.condition := by
  unfold mailNotice
  split <;> exact ⟨rfl, rfl, rfl⟩

/-- The task's cartridge is laid down and the task ends. -/
theorem laidAt_endTask {q : Place} {g : Cartridge → Cartridge} {p : Place × Option Nat → Place × Option Nat}
    (hg : ∀ r, (g r).number = r.number ∧ (g r).spot = p r.spot) (hq : ∀ y, (p y).1 = q)
    (carts : w.lib.carts = (modCartOf a.task.cart g s).lib.carts) (picker : w.picker = s.picker) (reset : w.mechReset = s.mechReset)
    (condition : w.condition = s.condition) : Carriage.LaidAt a.task.cart q s.carriage.ended (endTask w).carriage ∧
      ∀ c, a.task.cart = some c → (endTask w).carriage.spot c = (s.carriage.spot c).map p := by
  obtain ⟨same, spot⟩ := modCartOf_carriage (cart := a.task.cart) hg s
  have spots : (endTask w).carriage.spot = (modCartOf a.task.cart g s).carriage.spot := State.spot_of_carts carts
  have state : (endTask w).carriage.state = s.carriage.ended.state :=
    (congrArg (fun x : Picker => if x.state = .fault then PickerState.fault else .idle) picker :)
  refine ⟨⟨⟨fun c ne => (congrFun spots c).trans (same.1 c ne), fun c => ?_⟩, fun c x n hc hx => ?_, state, (congrArg Picker.queue picker :),
    rfl, reset, condition⟩, fun c hc => (congrFun spots c).trans (spot c hc)⟩
  · have known : (modCartOf a.task.cart g s).carriage.Known c → (endTask w).carriage.Known c := by
      rw [Carriage.Known, Carriage.Known, spots]
      exact id
    exact known ∘ same.2 c
  · have here := (congrFun spots c).symm.trans hx
    rw [spot c hc, Option.map_eq_some_iff] at here
    obtain ⟨y, -, e⟩ := here
    exact (congrArg Prod.fst e).symm.trans (hq y)

/-- The drive that an UNLOAD emptied becomes EMPTY (R71). -/
theorem emptyDrive_berth (a : Active) (s : State) (d : DriveNo) :
    (a.task.kind = .unload → a.task.drive = some d → ((emptyDrive a s).drives[d]).berth =
      { (s.drives[d]).berth with phase := if (s.drives[d]).berth.phase = .unloading then .empty else (s.drives[d]).berth.phase }) ∧
    ((a.task.kind = .unload → a.task.drive ≠ some d) → ((emptyDrive a s).drives[d]).berth = (s.drives[d]).berth) := by
  have unloading := (DriveState.phase_iff (s.drives[d]).state).2.2.1
  unfold emptyDrive
  split
  · next x hk hd =>
    refine ⟨fun _ e => ?_, fun e => ?_⟩
    · obtain rfl := Option.some.inj (hd.symm.trans e)
      rw [State.modDrive_get, if_pos rfl]
      by_cases hu : (s.drives[x]).state = .unloading
      · have phase : (s.drives[x]).berth.phase = .unloading := unloading.mpr hu
        rw [if_pos hu, if_pos phase]
        rfl
      · have phase : (s.drives[x]).berth.phase ≠ .unloading := fun e => hu (unloading.mp e)
        rw [if_neg hu, if_neg phase]
    · rw [State.modDrive_get, if_neg fun h => e hk (by rw [h]; exact hd)]
  · next other => exact ⟨fun hk hd => absurd hd (other d hk), fun _ => rfl⟩

theorem placeInSlot_carried (h : s.Carried []) {n : Nat} (ha : s.picker.active = some a) (picked : a.picked = true)
    (waiting : a.waiting = false) (target : a.target = .slot n) : (placeInSlot n a s).Carried [] := by
  have numbered := modCartOf_numbered h.1 a.task.cart (g := fun r => { r with place := .slot n, home := some n }) fun _ => rfl
  have frame := modCartOf_frame a.task.cart (fun r => { r with place := .slot n, home := some n }) s
  have laid := fun w => laidAt_endTask (w := w) (a := a) (s := s) (q := .slot n)
    (g := fun r => { r with place := .slot n, home := some n }) (p := fun _ => (.slot n, some n)) (fun _ => ⟨rfl, rfl⟩) fun _ => rfl
  unfold placeInSlot
  refine afterTask_carried ((importPlaced_changes (f := True) a n).keeps_carried ?_)
  generalize modCartOf a.task.cart (fun r => { r with place := .slot n, home := some n }) s = v at laid numbered frame
  have berths := emptyDrive_berth a v
  have drives : ∀ d : DriveNo, (v.drives[d]).berth = s.carriage.berth d := fun d => by rw [frame]; rfl
  simp only [drives] at berths
  obtain ⟨emptied, -⟩ := emptyDrive_frame a v
  generalize emptyDrive a v = w at emptied berths
  obtain ⟨laid, spot⟩ := laid w (by rw [emptied]) (by rw [emptied, frame]) (by rw [emptied, frame]) (by rw [emptied, frame])
  have mail : w.lib.mail = s.lib.mail := by rw [emptied, frame]
  refine ⟨State.numbered_of_carts (t := endTask w) numbered (by rw [emptied]; rfl), ?_⟩
  exact (h.bearing ha picked).lay_slot target waiting laid spot mail (fun kind d => (berths d).1 kind) fun d => (berths d).2

/-- The cartridge is laid in the drive of the task (R63, R71). -/
theorem layInDrive_carried (h : s.Carried []) {d : DriveNo} (ha : s.picker.active = some a) (picked : a.picked = true)
    (target : a.target = .drive d) {g : Drive → Drive} (fitted : (g s.drives[d]).fitted = true)
    (phase : (g s.drives[d]).state.phase ≠ .empty ∧ (g s.drives[d]).state.phase ≠ .loading)
    (unrecorded : (g s.drives[d]).unrecorded = a.task.cart.isNone)
    (mounted : ∀ c, a.task.cart = some c → (g s.drives[d]).mounted.map (fun sd => sd.cart) = some c) :
    (endTask ((modCartOf a.task.cart (fun r => { r with place := .drive d }) s).modDrive d g)).Carried [] := by
  have numbered := modCartOf_numbered h.1 a.task.cart (g := fun r => { r with place := .drive d }) fun _ => rfl
  have frame := modCartOf_frame a.task.cart (fun r => { r with place := .drive d }) s
  have laid := fun w => laidAt_endTask (w := w) (a := a) (s := s) (q := .drive d) (g := fun r => { r with place := .drive d })
    (p := fun y => (.drive d, y.2)) (fun _ => ⟨rfl, rfl⟩) fun _ => rfl
  generalize modCartOf a.task.cart (fun r => { r with place := .drive d }) s = v at laid numbered frame
  have drives : v.drives = s.drives := by rw [frame]
  have own : (endTask (v.modDrive d g)).carriage.berth d = (g s.drives[d]).berth := by
    have get := State.modDrive_get v d d g
    rw [if_pos rfl, drives] at get
    exact (congrArg Drive.berth get :)
  obtain ⟨laid, spot⟩ := laid (v.modDrive d g) rfl (by rw [State.modDrive_picker, frame]) (by rw [frame]; rfl) (by rw [frame]; rfl)
  have mail : v.lib.mail = s.lib.mail := by rw [frame]
  refine ⟨State.numbered_of_carts (t := endTask (v.modDrive d g)) numbered rfl, ?_⟩
  refine (h.bearing ha picked).lay_drive target laid spot mail (fun x hx => ?_) ?_ ?_ (fun sd hsd hu => ?_) fun c hc => ⟨?_, ?_⟩
  · have get := State.modDrive_get v d x g
    rw [if_neg hx, drives] at get
    exact (congrArg Drive.berth get :)
  · rw [own]; exact fitted
  · rw [own]; exact phase
  · rw [own] at hsd hu
    obtain ⟨c, hc⟩ := Option.isSome_iff_exists.mp (Option.isNone_eq_false_iff.mp (unrecorded.symm.trans hu))
    have same := mounted c hc
    have held : (g s.drives[d]).mounted = some sd := hsd
    rw [held] at same
    exact hc.trans same.symm
  · rw [own]
    exact unrecorded.trans (by rw [hc]; rfl)
  · rw [own]
    exact mounted c hc

theorem placeInDrive_carried (h : s.Carried []) {d : DriveNo} (ha : s.picker.active = some a) (picked : a.picked = true)
    (target : a.target = .drive d) : (placeInDrive d a s).Carried [] := by
  have bearing := h.bearing ha picked
  obtain ⟨drive, kinds⟩ := bearing.work.target.drive d target
  rcases kinds with ⟨kind, loading⟩ | ⟨kind, -⟩
  · have fitted : (s.drives[d]).fitted = true := by
      by_contra unfitted
      exact nomatch loading.symm.trans ((h.2.mount d).fitted (Bool.eq_false_iff.mpr unfitted))
    rw [placeInDrive_load kind]
    refine afterTask_carried (layInDrive_carried h ha picked target (g := takeLoad a) fitted ⟨nofun, nofun⟩ rfl fun c hc => ?_)
    simp [takeLoad, hc]
  · obtain ⟨fitted, -, -, -, was⟩ := (bearing.work.source.unload kind).2 d drive
    have phase : (takeBack a s.drives[d]).state.phase ≠ .empty ∧ (takeBack a s.drives[d]).state.phase ≠ .loading := by
      unfold takeBack
      dsimp only
      split <;> exact ⟨nofun, nofun⟩
    have laid := layInDrive_carried h ha picked target (g := takeBack a) fitted phase rfl was
    have frame := modCartOf_frame a.task.cart (fun r => { r with place := .drive d }) s
    rw [placeInDrive_unload kind, takenBack]
    refine afterTask_carried ?_
    generalize modCartOf a.task.cart (fun r => { r with place := .drive d }) s = v at laid frame
    have chain : State.Changes True True (v.modDrive d (takeBack a))
        (trapPlaced d a.task.cart (dropReservation d (v.modDrive d (takeBack a)))) :=
      (dropReservation_changes d).trans (trapPlaced_changes d _)
    have busy : (v.modDrive d (takeBack a)).picker.state = .busy := by
      rw [State.modDrive_picker, frame]
      exact bearing.work.busy
    exact (chain.shift (by rw [busy]; nofun)).endTask.carried laid

-- The task in progress gets another target ------------------------------------------------------------------------

namespace Carriage

variable {k : Carriage}

/-- Where no cartridge moves, home slots go on to agree while IMPORTs stay. -/
theorem Lawful.agree_mono (law : k.Lawful pending) {j : Carriage} {next : List Task} (spot : j.spot = k.spot)
    (resetting : j.resetting = k.resetting) (importing : ∀ c, k.At c .mail → k.Importing pending c → j.Importing next c) :
    ∀ c p n, j.spot c = some (p, n) → j.Agrees next c p n :=
  (SameBut.of_eq spot).agree law.agree (fun h => resetting.trans h) (fun c _ => importing c) nofun

/-- The task in progress goes on to another target, or waits. -/
theorem Lawful.aim (law : k.Lawful pending) (ha : k.active = some a) {p : PickPoint} {b : Bool} (waits : b = true → a.picked = true)
    (target : k.Target { a with target := p, waiting := b }) :
    ({ k with active := some { a with target := p, waiting := b } } : Carriage).Lawful pending := by
  have work := law.working a ha
  have tasks : ({ k with active := some { a with target := p, waiting := b } } : Carriage).tasks = k.tasks := by
    rw [Carriage.tasks, Carriage.tasks, ha]
    rfl
  refine { law with agree := ?_, bare := ?_, sweep := ?_, mount := ?_, queued := ?_, working := ?_, compat := ?_, mailed := ?_ }
  · exact law.agree_mono rfl rfl fun c _ ⟨q, hq, kind, cart⟩ => ⟨q, tasks.symm ▸ hq, kind, cart⟩
  · exact fun h => nomatch (law.active_ready ha).symm.trans h
  · exact fun h => nomatch (law.active_swept ha).symm.trans h
  · exact fun d => (law.mount d).moved (SameBut.of_eq rfl).places rfl id nofun nofun
  · exact fun q hq => (law.queued q hq).congr rfl rfl fun _ _ _ => rfl
  · intro c hc
    obtain rfl := Option.some.inj hc
    have source := work.source
    refine ⟨work.busy, work.grips, work.known, work.picked, fun e => ?_, ⟨source.unload, source.load, source.imports, source.exports⟩,
      ⟨target.slot, target.drive, target.mail⟩⟩
    obtain ⟨q, hq, -, clear, held⟩ := work.picks e
    exact ⟨q, hq, Bool.eq_false_iff.mpr fun hb => (nomatch (waits hb).symm.trans e), clear, held⟩
  · rw [tasks]
    exact law.compat
  · intro hr hs c hc
    refine (law.mailed hr hs c hc).imp_right fun ⟨x, hx, np, source, cart⟩ => ?_
    cases ha.symm.trans hx
    exact ⟨_, rfl, np, source, cart⟩

end Carriage

/-- The task in progress goes on to another target, or waits. -/
theorem aim_carried (h : s.Carried pending) (ha : s.picker.active = some a) {p : PickPoint} {b : Bool} (waits : b = true → a.picked = true)
    (target : s.carriage.Target { a with target := p, waiting := b }) :
    (s.modPicker fun q => { q with active := some { a with target := p, waiting := b } }).Carried pending :=
  ⟨h.1, h.2.aim ha waits target⟩

/-- The cartridge in the grip gets slot `n`, the home of no other, as its home slot and target (R44). -/
theorem retarget_carried_slot (h : s.Carried pending) (ha : s.picker.active = some a) (picked : a.picked = true) {n : Nat} (b : Bool)
    (free : ∀ c, a.task.cart = some c → ∀ x, s.carriage.Home x n → x = c) :
    (setHome a.task.cart n (s.modPicker fun q => { q with active := some { a with target := .slot n, waiting := b } })).Carried pending := by
  have held := aim_carried h ha (p := .slot n) (b := true) (fun _ => picked) ⟨fun _ _ => nofun, nofun, nofun⟩
  obtain ⟨homed, home, -⟩ := setHome_carried held (cart := a.task.cart) (n := n) (p := .picker) (.inl rfl)
    (fun c hc => ((h.2.working a ha).picked picked).2 c hc) free fun x hx hw => by
      cases Option.some.inj (show some _ = some x from hx)
      cases hw
  have active : (setHome a.task.cart n (s.modPicker fun q => { q with
      active := some { a with target := .slot n, waiting := true } })).picker.active =
      some { a with target := .slot n, waiting := true } := by
    cases a.task.cart <;> rfl
  have aimed := aim_carried homed active (p := .slot n) (b := b) (fun _ => picked)
    ⟨fun m hm _ c hc => by cases hm; exact home c hc, nofun, nofun⟩
  cases hc : a.task.cart <;> rw [hc] at aimed <;> exact aimed

theorem Library.lowestOpen_free (h : s.numbered) {n : Nat} (lowest : s.lib.lowestOpen = some n) (c : Nat) : ¬ s.carriage.Home c n :=
  (State.slotOpen_free h (Library.lowestOpen_open lowest)).1 c

/-- A held cartridge goes on to a slot that has opened (R44). -/
theorem retarget_carried (h : s.Carried pending) : (retarget s).Carried pending := by
  unfold retarget
  split
  · next a ha =>
    split
    · next n waiting _ lowest =>
      have picked : a.picked = true := Bool.eq_true_of_not_eq_false fun np => by
        obtain ⟨-, -, free, -⟩ := (h.2.working a ha).picks np
        exact nomatch waiting.symm.trans free
      exact retarget_carried_slot h ha picked false fun c _ x hx => absurd hx (Library.lowestOpen_free h.1 lowest x)
    · exact h
  · exact h

theorem slotOpened_carried (h : s.Carried pending) : (slotOpened s).Carried pending :=
  State.Changes.keeps_carried (f := True)
    (State.Changes.trans (forDrives_changes fun d _ => releaseUnrecorded_changes d) pickerChoose_changes) (retarget_carried h)

theorem placeInMail_carried (h : s.Carried []) (ha : s.picker.active = some a) (picked : a.picked = true)
    (waiting : a.waiting = false) (target : a.target = .mail) : (placeInMail a s).Carried [] := by
  have numbered := modCartOf_numbered h.1 a.task.cart (g := Cartridge.toMail) fun _ => rfl
  have frame := modCartOf_frame a.task.cart Cartridge.toMail s
  have laid := fun w => laidAt_endTask (w := w) (a := a) (s := s) (q := .mail) (g := Cartridge.toMail)
    (p := fun _ => (.mail, none)) (fun _ => ⟨rfl, rfl⟩) fun _ => rfl
  unfold placeInMail
  refine slotOpened_carried ((runAllocator_changes (f := True)).keeps_carried ?_)
  generalize modCartOf a.task.cart Cartridge.toMail s = v at laid numbered frame
  obtain ⟨picker, mail, carts⟩ := mailNotice_frame a (v.modLib fun l => { l with mail := true })
  obtain ⟨drives, reset, condition⟩ := mailNotice_drives a (v.modLib fun l => { l with mail := true })
  generalize mailNotice a (v.modLib fun l => { l with mail := true }) = w at picker mail carts drives reset condition
  obtain ⟨laid, spot⟩ := laid w carts (picker.trans (by rw [frame]; rfl)) (reset.trans (by rw [frame]; rfl))
    (condition.trans (by rw [frame]; rfl))
  have berth : (endTask w).carriage.berth = s.carriage.berth := funext fun d => by
    have same : w.drives = s.drives := drives.trans (by rw [frame]; rfl)
    exact congrArg (fun x : Vector Drive 6 => (x[d]).berth) same
  refine ⟨State.numbered_of_carts (t := endTask w) numbered carts, ?_⟩
  exact (h.bearing ha picked).lay_mail target waiting laid spot mail berth

theorem arbitrate_carried (h : s.Carried pending) : (arbitrate s).Carried pending := (arbitrate_changes (f := True)).keeps_carried h

/-- A placement completion keeps the laws of R42. -/
theorem placed_carried (h : s.Carried []) (p : PickPoint) : (placed p s).Carried [] := by
  unfold placed
  split
  · next a ha =>
    split
    · next awaited =>
      obtain ⟨picked, waiting, target⟩ := awaited
      refine arbitrate_carried ?_
      cases p with
      | slot n => exact placeInSlot_carried h ha picked waiting target
      | drive d => exact placeInDrive_carried h ha picked target
      | mail => exact placeInMail_carried h ha picked waiting target
    · exact h
  · exact h

-- An occupied target slot -----------------------------------------------------------------------------------------

/-- A task whose target slot is occupied goes on to the lowest open slot, back, or waits (R44, R60). -/
theorem slotOccupied_carried (h : s.Carried []) (n : Nat) : (slotOccupied n s).Carried [] := by
  unfold slotOccupied
  split
  · next a ha =>
    split
    · next occupied =>
      obtain ⟨picked, waiting, target⟩ := occupied
      have blocked : (blockSlot n s).Carried [] := h.congr rfl rfl (fun _ => rfl) rfl rfl rfl
      have active : (blockSlot n s).picker.active = some a := ha
      generalize blockSlot n s = v at blocked active
      have work := blocked.2.working a active
      unfold retargetTask
      split
      · next m lowest =>
        refine retarget_carried_slot blocked active picked a.waiting fun c _ x hx => ?_
        exact absurd hx (Library.lowestOpen_free blocked.1 lowest x)
      · unfold Active.noSlot
        have clearMail : v.lib.mail = false → v.carriage.Clear .mail := fun empty c hc => by
          rcases blocked.2.mailed (blocked.2.active_swept active) (by rw [work.busy]; nofun) c hc with full | ⟨b, hb, np, -⟩
          · exact nomatch empty.symm.trans full
          · cases active.symm.trans hb
            exact nomatch picked.symm.trans np
        have mail : (a.task.kind ≠ .load) → v.carriage.Target { a with target := .mail, waiting := v.lib.mail } := fun kind =>
          ⟨nofun, nofun, fun _ => ⟨kind, fun np => (nomatch picked.symm.trans np), fun _ => clearMail⟩⟩
        split
        · next d source =>
          obtain ⟨kind, drive⟩ := work.source.of_drive source
          exact aim_carried blocked active (fun _ => picked) ⟨nofun, fun x hx => by cases hx; exact ⟨drive, .inr ⟨kind, picked⟩⟩, nofun⟩
        · next source => exact aim_carried blocked active (fun _ => picked) (mail (by rw [work.source.of_mail source]; nofun))
        · next source _ =>
          refine aim_carried blocked active (fun _ => picked) (mail fun kind => ?_)
          obtain ⟨m, hm⟩ := (work.source.load kind).1
          exact nomatch source.symm.trans hm
        · refine aim_carried blocked active (p := a.target) (fun _ => picked) ⟨fun _ _ => nofun, ?_, ?_⟩
          · exact fun d hd => nomatch target.symm.trans hd
          · exact fun hm => nomatch target.symm.trans hm
    · exact h
  · exact h

end Sys2Proof.Machine
end
-- ==== Proofs: the mail slot and the queue keep the laws of places ====
section
/-!
SUPPORT for O24: the mail slot's sensor, a spin-down, IMPORT and EXPORT.
-/
namespace Sys2Proof.Machine

variable {s t : State} {pending : List Task} {a : Active}

namespace Carriage

variable {k j : Carriage} {q : Task}

-- A cartridge goes into or out of the mail slot -------------------------------------------------------------------

/-- The task imports cartridge `c`. -/
def imports (c : Nat) (q : Task) : Bool := decide (q.kind = .importTask) && decide (q.cart = some c)

theorem imports_iff {c : Nat} {q : Task} : imports c q = true ↔ q.kind = .importTask ∧ q.cart = some c := by simp [imports]

/-- Cartridge `c` is at `p` with home slot `h`, and its queued IMPORTs are removed. -/
def relocate (c : Nat) (p : Place) (h : Option Nat) (k : Carriage) : Carriage :=
  { k.turn c fun _ => (p, h) with queue := k.queue.filter fun q => !imports c q }

/-- A cartridge that no task is carrying goes from outside or the mail slot to the other (R50, R52). -/
theorem Lawful.relocated (law : k.Lawful pending) {next : List Task} {c : Nat} {p x : Place} {h : Option Nat} (hx : k.At c x)
    (came : x = .mail ∨ x = .offline) (goes : p = .mail ∨ p = .offline) (alone : ∀ b, p ≠ .offline → k.At b p → b = c)
    (sensed : p = .mail → k.mail = true) (homes : ∀ n, h = some n → ∀ b, k.Home b n → b = c) (more : pending ⊆ next)
    (agree : (k.relocate c p h).Agrees next c p h)
    (active : ∀ a, k.active = some a → a.task.cart ≠ some c ∧ (p = .mail → a.target = .mail → a.picked = true → a.waiting = true)) :
    (k.relocate c p h).Lawful next := by
  have same : SameBut (some c) k (k.relocate c p h) := turn_sameBut c (fun _ => (p, h)) k
  obtain ⟨y, hy⟩ := hx
  have own : (k.relocate c p h).spot c = some (p, h) := turn_spot (fun _ => (p, h)) hy
  have here : ∀ {b : Nat} {r : Place}, some c = some b → (k.relocate c p h).At b r → r = p := fun hb ⟨_, hr⟩ => by
    cases hb
    exact (congrArg Prod.fst (Option.some.inj (own.symm.trans hr))).symm
  have away : ∀ r : Place, r ≠ .mail → r ≠ .offline → ∀ b, some c = some b → ¬ k.At b r ∧ ¬ (k.relocate c p h).At b r :=
    fun r mail offline b hb => ⟨fun hr => by
      cases hb
      cases at_unique hr ⟨_, hy⟩
      exact came.elim mail offline, fun hr => by
      cases here hb hr
      exact goes.elim mail offline⟩
  have kept : ∀ z ∈ (k.relocate c p h).queue, z ∈ k.queue ∧ imports c z = false := fun z hz => by simpa [relocate] using hz
  refine ⟨same.places.apart law.apart fun b r e hb hr off he => ?_, same.homes law.homes fun b n e hb ⟨r, hr⟩ he => ?_,
    same.agree law.agree id (fun b ne _ ⟨z, hz, kind, cart⟩ => ⟨z, ?_, kind, cart⟩) (fun b r n hb hr => ?_), fun hu => ?_, fun hr => ?_,
    fun d => ?_, fun z hz => ?_, fun e he => ?_, ?_, fun hr hs b hb => ?_⟩
  · cases here hb hr
    cases hb
    exact alone e off he
  · cases hb
    cases own.symm.trans hr
    exact homes n rfl e he
  · simp only [tasks, List.mem_append] at hz ⊢
    rcases hz with (hz | hz) | hz
    · exact .inl (.inl hz)
    · refine .inl (.inr (List.mem_filter.mpr ⟨hz, ?_⟩))
      have other : imports c z = false := Bool.eq_false_iff.mpr fun hi => ne ((imports_iff.mp hi).2.symm.trans cart)
      rw [other]
      rfl
    · exact .inr (more hz)
  · cases hb
    cases own.symm.trans hr
    exact agree
  · exact absurd ⟨_, hy⟩ ((law.bare hu).2.1 c)
  · obtain ⟨none_active, queue, drives⟩ := law.sweep hr
    exact ⟨none_active, fun z hz => queue z (kept z hz).1, drives⟩
  · exact (law.mount d).moved same.places rfl id (fun b hb => (away (.drive d) nofun nofun b hb).1)
      fun b hb => (away (.drive d) nofun nofun b hb).2
  · obtain ⟨hz, other⟩ := kept z hz
    have queued := law.queued z hz
    have stands : unloadFrom z ≠ .mail ∧ unloadFrom z ≠ .offline := by
      rcases unloadFrom_cases z with ⟨e, -⟩ | ⟨d, e, -⟩ <;> rw [e] <;> exact ⟨nofun, nofun⟩
    refine queued.moved same.places (fun kind => ⟨fun b hb => ⟨fun hc => ?_, (away _ stands.1 stands.2 b hb).2⟩, fun _ _ => rfl⟩)
      fun kind => ⟨(queued.imports kind).1, fun b hb hc => ?_⟩
    · exact (away _ stands.1 stands.2 b hb).1 ((queued.alone kind).2 b hc)
    · cases hb
      exact nomatch (imports_iff.mpr ⟨kind, hc⟩).symm.trans other
  · obtain ⟨mine, bound⟩ := active e he
    refine (law.working e he).moved same.places (fun b n hb _ hn => (same.home (fun hc => mine (hb.trans hc.symm)) n).mpr hn) rfl
      (fun z hz => (law.working e he).grips z (kept z hz).1) (fun b hb hc => mine (hc.trans hb.symm))
      (fun b hb => (away .picker nofun nofun b hb).2)
      (fun d _ => ⟨rfl, fun b hb => (away (.drive d) nofun nofun b hb).2⟩) fun hm hp hw b hb hj => ?_
    exact nomatch (bound (here hb hj).symm hm hp).symm.trans hw
  · exact law.compat.sublist (List.Sublist.append_left List.filter_sublist _)
  · by_cases hc : some c = some b
    · exact .inl (sensed (here hc hb).symm)
    · exact law.mailed hr hs b ((same.places.at hc _).mp hb)

/-- The mail slot is found EMPTY: no IMPORT is queued, and the picker holds what lies there (R50). -/
theorem Lawful.unsensed (law : k.Lawful pending) (idle : ∀ q ∈ k.queue, q.kind ≠ .importTask)
    (held : ∀ c, k.At c .mail → ∃ a, k.active = some a ∧ a.picked = false ∧ a.source = some .mail ∧ a.task.cart = some c) :
    ({ k with mail := false } : Carriage).Lawful pending := by
  refine { law with agree := ?_, mount := ?_, queued := ?_, working := ?_, mailed := ?_ }
  · exact fun c p n hc => (law.agree c p n hc).mono (fun _ => id) fun _ => id
  · exact fun d => (law.mount d).moved (SameBut.of_eq rfl).places rfl id nofun nofun
  · exact fun q hq => (law.queued q hq).moved (SameBut.of_eq rfl).places (fun _ => ⟨nofun, fun _ _ => rfl⟩)
      fun kind => absurd kind (idle q hq)
  · exact fun a ha => (law.working a ha).congr rfl rfl (law.working a ha).grips fun _ _ => rfl
  · exact fun _ _ c hc => .inr (held c hc)

-- The queue and the table -----------------------------------------------------------------------------------------

/-- A task joins the queue (R72). -/
theorem Lawful.enqueue (law : k.Lawful (q :: pending)) (ready : k.condition = .ready) (queued : k.Queued q)
    (grips : q.kind = .unload → k.active = none ∨ q.drive ≠ none) (swept : q.kind = .unload → k.resetting = false)
    (compat : ∀ x ∈ k.tasks, x.compatible q) : ({ k with queue := k.queue ++ [q] } : Carriage).Lawful pending := by
  have joined : ∀ x ∈ k.queue ++ [q], x ∈ k.queue ∨ x = q := fun x hx => by simpa using hx
  refine { law with agree := ?_, bare := ?_, sweep := ?_, mount := ?_, queued := ?_, working := ?_, compat := ?_ }
  · refine fun c p n hc => (law.agree c p n hc).mono (fun _ => id) fun _ ⟨x, hx, kind, cart⟩ => ⟨x, ?_, kind, cart⟩
    simp only [tasks, List.mem_append, List.mem_cons, List.not_mem_nil, or_false] at hx ⊢
    tauto
  · exact fun h => nomatch ready.symm.trans h
  · intro hr
    obtain ⟨active, queue, drives⟩ := law.sweep hr
    refine ⟨active, fun x hx => ?_, drives⟩
    rcases joined x hx with old | rfl
    · exact queue x old
    · exact fun kind => nomatch (swept kind).symm.trans hr
  · exact fun d => (law.mount d).moved (SameBut.of_eq rfl).places rfl id nofun nofun
  · intro x hx
    rcases joined x hx with old | rfl
    · exact (law.queued x old).congr rfl rfl fun _ _ _ => rfl
    · exact queued.congr rfl rfl fun _ _ _ => rfl
  · intro a ha
    refine (law.working a ha).congr rfl rfl (fun x hx kind => ?_) fun _ _ => rfl
    rcases joined x hx with old | rfl
    · exact (law.working a ha).grips x old kind
    · exact (grips kind).resolve_left fun e => nomatch e.symm.trans ha
  · have tasks : ({ k with queue := k.queue ++ [q] } : Carriage).tasks = k.tasks ++ [q] := (List.append_assoc ..).symm
    rw [tasks, List.pairwise_append]
    refine ⟨law.compat, List.pairwise_singleton _ _, fun x hx y hy => ?_⟩
    rw [List.mem_singleton.mp hy]
    exact compat x hx

/-- A cartridge is entered in the table, OFFLINE (R52). -/
theorem Lawful.entered (law : k.Lawful pending) (ready : k.condition = .ready) {c : Nat} (new : k.spot c = none)
    (others : ∀ x, x ≠ c → j.spot x = k.spot x) (own : j.spot c = some (.offline, none)) (rest : j = { k with spot := j.spot }) :
    j.Lawful pending := by
  have ne : ∀ {x : Nat}, some c ≠ some x → x ≠ c := fun h e => h (by rw [e])
  have unknown : ∀ {p : Place}, ¬ k.At c p := fun ⟨n, hn⟩ => nomatch new.symm.trans hn
  have same : SameBut (some c) k j := ⟨fun x hx => others x (ne hx), fun x ⟨y, hy⟩ => ⟨y, by
    rw [others x (fun e => by subst e; exact nomatch new.symm.trans hy), hy]⟩⟩
  have here : ∀ {b : Nat} {p : Place}, some c = some b → j.At b p → p = .offline := fun hb ⟨_, hp⟩ => by
    cases hb
    exact (congrArg Prod.fst (Option.some.inj (own.symm.trans hp))).symm
  have mine : ∀ {q : Task} {b : Nat}, some c = some b → q.cart = some b → ¬ k.Known b := fun hb _ ⟨y, hy⟩ => by
    cases hb
    exact nomatch new.symm.trans hy
  obtain ⟨spot, mail, berth, state, queue, active, resetting, condition⟩ := j
  obtain ⟨-, rfl, rfl, rfl, rfl, rfl, rfl, rfl⟩ := Carriage.mk.inj rest
  refine ⟨same.places.apart law.apart fun b p e hb hp off _ => absurd (here hb hp) off, same.homes law.homes fun b n e hb ⟨p, hp⟩ => ?_,
    same.agree law.agree id (fun _ _ _ => id) fun b p n hb hp => ?_, fun hu => (nomatch ready.symm.trans hu), law.sweep, fun d => ?_,
    fun q hq => ?_, fun a ha => ?_, law.compat, fun hr hs b hb => ?_⟩
  · cases hb
    exact nomatch own.symm.trans hp
  · cases hb
    cases own.symm.trans hp
    rfl
  · refine (law.mount d).moved same.places rfl id (fun b hb => ?_) fun b hb hp => nomatch here hb hp
    cases hb
    exact unknown
  · have queued := law.queued q hq
    refine queued.moved same.places (fun kind => ⟨fun b hb => ⟨fun hc => mine hb hc (queued.known b hc), fun hp => ?_⟩, fun _ _ => rfl⟩)
      fun kind => ⟨(queued.imports kind).1, fun b hb hc => mine hb hc (queued.known b hc)⟩
    have place := here hb hp
    rcases unloadFrom_cases q with ⟨e, -⟩ | ⟨d, e, -⟩ <;> rw [e] at place <;> cases place
  · have work := law.working a ha
    have mine : ∀ b, some c = some b → a.task.cart ≠ some b := fun b hb hc => mine hb hc (work.known b hc)
    exact work.moved same.places (fun b n hb _ hn => (same.home (fun e => mine b e hb) n).mpr hn) rfl work.grips mine
      (fun b hb hp => nomatch here hb hp) (fun d _ => ⟨rfl, fun b hb hp => nomatch here hb hp⟩) fun _ _ _ b hb hp => nomatch here hb hp
  · exact law.mailed hr hs b ((same.places.at (fun e => nomatch here e hb) _).mp hb)

end Carriage

-- The mail slot sensor --------------------------------------------------------------------------------------------

theorem removeImport_picker (c : Nat) (s : State) : (removeImport c s).picker =
    { s.picker with queue := s.picker.queue.filter fun q => !Carriage.imports c q } := by
  unfold removeImport
  split
  · rfl
  · next free =>
    have all : s.picker.queue.filter (fun q => !Carriage.imports c q) = s.picker.queue := List.filter_eq_self.mpr fun q hq => by
      have other := List.any_eq_false.mp (Bool.eq_false_iff.mpr free) q hq
      exact Bool.not_eq_true' _ ▸ Bool.eq_false_iff.mpr other
    rw [all]

theorem removeImport_carriage (c : Nat) (s : State) : (removeImport c s).carriage =
    { s.carriage with queue := s.picker.queue.filter fun q => !Carriage.imports c q } := by
  have picker := removeImport_picker c s
  have rest : (removeImport c s).lib = s.lib ∧ (removeImport c s).drives = s.drives ∧ (removeImport c s).mechReset = s.mechReset ∧
      (removeImport c s).condition = s.condition := by
    unfold removeImport
    split <;> exact ⟨rfl, rfl, rfl, rfl⟩
  obtain ⟨lib, drives, reset, condition⟩ := rest
  simp only [State.carriage, State.cart?, picker, lib, drives, reset, condition]

theorem State.cartAt_at {p : Place} {r : Cartridge} (h : s.numbered) (hr : s.cartAt p = some r) : s.carriage.At r.number p :=
  (State.carriage_at h).mpr ⟨r, (State.cartAt_spec hr).1, rfl, (State.cartAt_spec hr).2⟩

theorem State.cartAt_none {p : Place} (h : s.numbered) (hr : s.cartAt p = none) : s.carriage.Clear p :=
  (State.carriage_clear h).mpr fun r hm place => by simpa [place] using List.find?_eq_none.mp hr r hm

/-- What lies in the mail slot is gone, unless the picker is taking it (R50). -/
theorem takeOut_carried (h : s.Carried []) : (takeOut (s.modLib fun l => { l with mail := false })).Carried [] ∧
    ∀ a, (takeOut (s.modLib fun l => { l with mail := false })).picker.active = some a → a.picked = true →
      (takeOut (s.modLib fun l => { l with mail := false })).carriage.Clear .mail := by
  have imported : ∀ {u : State}, u.carriage.Lawful [] → (∀ c, u.carriage.At c .mail → ∃ a, u.carriage.active = some a ∧ a.picked = false ∧
      a.source = some .mail ∧ a.task.cart = some c) → ∀ q ∈ u.carriage.queue, q.kind ≠ .importTask := fun law held q hq kind => by
    obtain ⟨-, -, c, hc, at_mail⟩ := (law.queued q hq).imports kind
    obtain ⟨a, ha, -, source, cart⟩ := held c at_mail
    exact (law.active_compat ha q hq).2 ⟨(law.working a ha).source.of_mail source, kind, cart.trans hc.symm⟩
  unfold takeOut
  split
  · next r hr =>
    have at_mail : s.carriage.At r.number .mail := State.cartAt_at h.1 hr
    split
    · next grip =>
      have held : ∀ c, s.carriage.At c .mail → ∃ a, s.carriage.active = some a ∧ a.picked = false ∧ a.source = some .mail ∧
          a.task.cart = some c := fun c hc => by
        obtain rfl := h.2.apart c r.number .mail hc at_mail nofun
        unfold State.inGrip at grip
        split at grip
        · next a ha =>
          simp only [Bool.and_eq_true, Bool.not_eq_true', decide_eq_true_eq] at grip
          exact ⟨a, ha, grip.1.1, grip.1.2, grip.2⟩
        · cases grip
      refine ⟨⟨h.1, h.2.unsensed (imported h.2 held) held⟩, fun a ha picked => ?_⟩
      obtain ⟨b, hb, np, -⟩ := held r.number at_mail
      cases hb.symm.trans ha
      exact nomatch picked.symm.trans np
    · next free =>
      have law := h.2.relocated (next := []) (p := .offline) (h := none) at_mail (.inl rfl) (.inr rfl) (fun _ ne => absurd rfl ne) nofun
        nofun (List.Subset.refl _) rfl fun a ha => ⟨fun hc => free ?_, nofun⟩
      · have clear : (s.carriage.relocate r.number .offline none).Clear .mail := fun c hc => by
          by_cases e : c = r.number
          · subst e
            obtain ⟨n, hn⟩ := hc
            obtain ⟨m, hm⟩ := at_mail
            cases (Carriage.turn_spot (fun _ => (.offline, none)) hm).symm.trans hn
          · have old := ((Carriage.turn_sameBut r.number (fun _ => (.offline, none)) s.carriage).places.at
              (fun x => e (Option.some.inj x).symm) _).mp hc
            exact e (h.2.apart c r.number .mail old at_mail nofun)
        have carriage : (removeImport r.number ((s.modLib fun l => { l with mail := false }).modCart r.number Cartridge.lost)).carriage =
            { s.carriage.relocate r.number .offline none with mail := false } := by
          rw [removeImport_carriage, State.modCart_carriage r.number Cartridge.lost (fun _ => (.offline, none)) fun _ => ⟨rfl, rfl⟩]
          rfl
        have lib : (removeImport r.number ((s.modLib fun l => { l with mail := false }).modCart r.number Cartridge.lost)).lib.carts =
            (s.modCart r.number Cartridge.lost).lib.carts :=
          (congrArg Library.carts (removeImport_frame r.number _).2.2.2).trans rfl
        refine ⟨⟨State.numbered_of_carts (State.modCart_numbered h.1 r.number Cartridge.lost fun _ => rfl) lib, ?_⟩, fun _ _ _ => ?_⟩
        · rw [carriage]
          refine law.unsensed (fun q hq kind => ?_) fun c hc => absurd hc (clear c)
          obtain ⟨-, -, c, -, hc⟩ := (law.queued q hq).imports kind
          exact clear c hc
        · rw [carriage]
          exact clear
      · have work := h.2.working a ha
        have np : a.picked = false := Bool.eq_false_iff.mpr fun picked => nomatch Carriage.at_unique ((work.picked picked).2 _ hc) at_mail
        obtain ⟨p, source, -, -, held⟩ := work.picks np
        have place := Carriage.at_unique (held _ hc) at_mail
        have source' : a.source = some .mail := by
          cases p with
          | mail => exact source
          | _ => cases place
        have active : s.picker.active = some a := ha
        simp only [State.inGrip, State.modLib_picker, active, np, source', hc]
        rfl
  · next none_at =>
    have clear : s.carriage.Clear .mail := State.cartAt_none h.1 none_at
    have held : ∀ c, s.carriage.At c .mail → ∃ a, s.carriage.active = some a ∧ a.picked = false ∧ a.source = some .mail ∧
        a.task.cart = some c := fun c hc => absurd hc (clear c)
    exact ⟨⟨h.1, h.2.unsensed (imported h.2 held) held⟩, fun _ _ _ => clear⟩

/-- The mail slot's emptying keeps the laws of R42 (R50, R56). -/
theorem mailEmptied_carried (h : s.Carried []) : (mailEmptied s).Carried [] := by
  unfold mailEmptied
  split
  · refine arbitrate_carried (slotOpened_carried ?_)
    obtain ⟨taken, clear⟩ := takeOut_carried h
    generalize takeOut (s.modLib fun l => { l with mail := false }) = v at taken clear
    unfold freeMail
    cases ha : v.picker.active with
    | none =>
      have same : (v.modPicker fun p => { p with active := p.active.map fun a =>
          if a.target = .mail then { a with waiting := false } else a }).picker = v.picker := by
        rw [State.modPicker_picker, ha, Option.map_none, ← ha]
      exact taken.congr rfl rfl (fun _ => rfl) same rfl rfl
    | some a =>
      have target := (taken.2.working a ha).target
      have same : v.modPicker (fun p => { p with active := p.active.map fun a =>
          if a.target = .mail then { a with waiting := false } else a }) =
          v.modPicker fun p => { p with active := some (if a.target = .mail then { a with waiting := false } else a) } := by
        unfold State.modPicker
        dsimp only
        rw [ha, Option.map_some]
      rw [same]
      split
      · next hm =>
        refine aim_carried taken ha (p := a.target) (b := false) nofun ⟨fun n hn => (nomatch hm.symm.trans hn), target.drive, fun _ => ?_⟩
        obtain ⟨kind, exported, -⟩ := target.mail hm
        exact ⟨kind, exported, fun picked _ => clear a ha picked⟩
      · exact taken.congr rfl rfl (fun _ => rfl) (by rw [State.modPicker_picker, ← ha]) rfl rfl
  · exact h

/-- The mail slot is OCCUPIED (R50). -/
theorem mailPlaced_carried (h : s.Carried pending) : (s.modLib fun l => { l with mail := true }).Carried pending := by
  obtain ⟨numbered, law⟩ := h
  refine ⟨numbered, { law with agree := ?_, mount := ?_, queued := ?_, working := ?_, mailed := ?_ }⟩
  · exact fun c p n hc => (law.agree c p n hc).mono (fun _ => id) fun _ => id
  · exact fun d => (law.mount d).moved (Carriage.SameBut.of_eq rfl).places rfl id nofun nofun
  · exact fun q hq => (law.queued q hq).moved (Carriage.SameBut.of_eq rfl).places (fun _ => ⟨nofun, fun _ _ => rfl⟩) fun _ => ⟨rfl, nofun⟩
  · exact fun a ha => (law.working a ha).congr rfl rfl (law.working a ha).grips fun _ _ => rfl
  · exact fun _ _ _ _ => .inl rfl

end Sys2Proof.Machine
end
-- ==== Proofs: tasks queued keep the laws of places ====
section
/-!
SUPPORT for O24: a spin-down, IMPORT and EXPORT.
-/
namespace Sys2Proof.Machine

variable {s t : State} {pending : List Task} {a : Active}

-- A spin-down -----------------------------------------------------------------------------------------------------

theorem pickerChoose_carried (h : s.Carried pending) : (pickerChoose s).Carried pending := (pickerChoose_changes (f := True)).keeps_carried h

/-- IMPORTs may be counted as queued. -/
theorem Carriage.Lawful.expect {k : Carriage} (law : k.Lawful pending) (q : Task) : k.Lawful (q :: pending) :=
  { law with agree := law.agree_mono rfl rfl fun _ _ ⟨x, hx, kind, hc⟩ => ⟨x, by
      rw [List.mem_append, List.mem_cons]
      exact (List.mem_append.mp hx).imp_right .inr, kind, hc⟩ }

/-- A task joins the queue (R72). -/
theorem enqueue_carried {q : Task} (h : s.Carried (q :: pending)) (ready : s.carriage.condition = .ready) (queued : s.carriage.Queued q)
    (grips : q.kind = .unload → s.carriage.active = none ∨ q.drive ≠ none) (swept : q.kind = .unload → s.carriage.resetting = false)
    (compat : ∀ x ∈ s.carriage.tasks, x.compatible q) : (enqueue q s).Carried pending :=
  ⟨h.1, h.2.enqueue ready queued grips swept compat⟩

/-- The picker's task is for no drive at work. -/
theorem Carriage.Working.drive_ne {k : Carriage} (h : k.Working a) {d : DriveNo} (idle : (k.berth d).phase = .idle) :
    a.task.drive ≠ some d := fun hd => by
  cases hk : a.task.kind with
  | unload =>
    rcases ((h.source.unload hk).2 d hd).2.1 with e | ⟨-, e⟩ <;> exact nomatch idle.symm.trans e
  | load =>
    obtain ⟨-, x, hx, phase⟩ := h.source.load hk
    cases hd.symm.trans hx
    rcases phase with e | e <;> exact nomatch idle.symm.trans e
  | importTask => exact nomatch hd.symm.trans (h.source.imports hk).2.1
  | exportTask => exact nomatch hd.symm.trans (h.source.exports hk).2

/-- A drive at work becomes UNLOADING (R71). -/
theorem Carriage.Lawful.unloading {k : Carriage} (law : k.Lawful pending) {d : DriveNo} (idle : (k.berth d).phase = .idle) :
    (k.refit d { k.berth d with phase := .unloading }).Lawful pending := by
  have mount := law.mount d
  have ready : k.condition = .ready := by
    cases hc : k.condition with
    | ready => rfl
    | unformatted => exact nomatch idle.symm.trans ((law.bare hc).2.2.2.2 d).1
  have fitted : (k.berth d).fitted = true := Bool.eq_true_of_not_eq_false fun e => nomatch idle.symm.trans (mount.fitted e)
  have own : (k.refit d { k.berth d with phase := .unloading }).berth d = { k.berth d with phase := .unloading } := refit_berth ..
  refine law.refit ready ⟨?_, ?_, ?_, fun hr c hc => ?_⟩ (fun hr => ?_) (fun q hq kind hd => ?_)
    fun a ha hd => absurd hd ((law.working a ha).drive_ne idle)
  · rw [own]
    exact fun e => nomatch fitted.symm.trans e
  · rw [own]
    rintro (e | e | e)
    · exact nomatch fitted.symm.trans e
    · cases e
    · cases e
  · rw [own]
    exact mount.held
  · rw [Mounts, own]
    exact ⟨nofun, nofun, (mount.holds hr c hc).2.2⟩
  · rcases ((law.sweep hr).2.2 d).2.2 with e | e <;> exact nomatch idle.symm.trans e
  · exact nomatch idle.symm.trans ((law.queued q hq).drive kind d hd).1

/-- The UNLOAD of a drive that has come to rest joins the queue (R71). -/
theorem spinDown_carried (h : s.Carried []) (d : DriveNo) : (spinDown d s).Carried [] := by
  unfold spinDown
  split
  · next turning =>
    have idle : (s.carriage.berth d).phase = .idle := congrArg DriveState.phase turning
    have law := h.2.unloading idle
    have carriage : (s.modDrive d fun r => { r with state := .unloading }).carriage =
        s.carriage.refit d { s.carriage.berth d with phase := .unloading } :=
      State.modDrive_carriage d (fun r => { r with state := .unloading }) s
    have carried : (s.modDrive d fun r => { r with state := .unloading }).Carried [] := ⟨h.1, carriage ▸ law⟩
    dsimp only
    split
    · exact carried
    · refine pickerChoose_carried ?_
      have swept : s.carriage.resetting = false := Bool.eq_false_iff.mpr fun hr => by
        rcases ((h.2.sweep hr).2.2 d).2.2 with e | e <;> exact nomatch idle.symm.trans e
      have mount := law.mount d
      have own : (s.carriage.refit d { s.carriage.berth d with phase := .unloading }).berth d =
        { s.carriage.berth d with phase := .unloading } := Carriage.refit_berth ..
      have cart : ∀ c, ((s.drives[d]).unloadTask d).cart = some c ↔ s.carriage.Mounts d c := fun c => by
        have unrecorded : (s.carriage.berth d).unrecorded = (s.drives[d]).unrecorded := rfl
        have mounted : (s.carriage.berth d).mounted = (s.drives[d]).mounted := rfl
        rw [Carriage.Mounts, unrecorded, mounted, Drive.unloadTask]
        cases (s.drives[d]).unrecorded <;> simp
      have held : ∀ c, ((s.drives[d]).unloadTask d).cart = some c → s.carriage.At c (.drive d) := fun c hc => by
        obtain ⟨recorded, mounts⟩ := (cart c).mp hc
        obtain ⟨sd, hsd, rfl⟩ := Option.map_eq_some_iff.mp mounts
        exact (h.2.mount d).held sd hsd recorded
      have queued : (s.carriage.refit d { s.carriage.berth d with phase := .unloading }).Queued ((s.drives[d]).unloadTask d) := by
        refine ⟨fun c hc => ?_, fun _ => ⟨fun c hc => (cart c).mpr ((h.2.mount d).holds swept c hc).2.2, held⟩,
          fun _ x hx => ?_, nofun, nofun⟩
        · obtain ⟨n, hn⟩ := held c hc
          exact ⟨_, hn⟩
        · cases hx
          refine ⟨by rw [own], fun c hc => ?_⟩
          rw [Carriage.Mounts, own]
          exact (cart c).mp hc
      have ready : s.carriage.condition = .ready := by
        cases hc : s.carriage.condition with
        | ready => rfl
        | unformatted => exact nomatch idle.symm.trans ((h.2.bare hc).2.2.2.2 d).1
      rw [← carriage] at queued
      refine enqueue_carried ⟨carried.1, carried.2.expect _⟩ ready queued (fun _ => .inr nofun) (fun _ => swept) fun x hx =>
        ⟨fun ⟨kind, _, hd⟩ => ?_, fun ⟨_, kind, _⟩ => nomatch kind⟩
      · rcases List.mem_append.mp hx with hx | hx
        · obtain ⟨a, ha, rfl⟩ := Option.map_eq_some_iff.mp (Option.mem_toList.mp hx)
          exact (h.2.working a ha).drive_ne idle hd
        · exact nomatch idle.symm.trans ((h.2.queued x hx).drive kind d hd).1
  · exact h

-- IMPORT ----------------------------------------------------------------------------------------------------------

/-- What the checks of IMPORT find (Table 3-4). -/
theorem State.importRefusal_none {c : Nat} (h : s.importRefusal c = none) : s.lib.mail = true ∧
    (∀ r, s.cart? c = some r → r.place = .offline) ∧ ∀ r ∈ s.lib.carts, r.number ≠ c → r.place ≠ .mail := by
  unfold State.importRefusal at h
  split at h
  · cases h
  · next mail =>
    split at h
    · cases h
    · next here =>
      split at h
      · cases h
      · next alone =>
        refine ⟨Bool.eq_true_of_not_eq_false mail, fun r hr => ?_, fun r hr ne place => alone ?_⟩
        · rw [hr] at here
          simpa using here
        · exact List.any_eq_true.mpr ⟨r, hr, by simp [ne, place]⟩

theorem State.importSlot_open {known : Option Cartridge} {n : Nat} (h : s.importSlot known = some n) : s.lib.slotOpen n = true := by
  unfold State.importSlot at h
  split at h
  · split at h
    · next e =>
      cases h
      exact e
    · exact Library.lowestOpen_open h
  · exact Library.lowestOpen_open h

theorem enterCart_frame (c : Nat) (a b : Role) (s : State) : (enterCart c a b s).picker = s.picker ∧
    (enterCart c a b s).mechReset = s.mechReset ∧ (enterCart c a b s).condition = s.condition ∧
    (enterCart c a b s).lib.mail = s.lib.mail := by
  unfold enterCart
  split <;> exact ⟨rfl, rfl, rfl, rfl⟩

/-- The cartridge of an IMPORT has a record, OFFLINE (R52). -/
theorem enterCart_carried (h : s.Carried pending) (ready : s.condition = .ready) {c : Nat}
    (offline : ∀ r, s.cart? c = some r → r.place = .offline) (a b : Role) : (enterCart c a b s).Carried pending ∧
      (enterCart c a b s).carriage.spot c = some (.offline, none) ∧
        ∀ x, x ≠ c → (enterCart c a b s).carriage.spot x = s.carriage.spot x := by
  obtain ⟨picker, reset, condition, mail⟩ := enterCart_frame c a b s
  have drives := enterCart_drives c a b s
  cases hc : s.cart? c with
  | none =>
    have own : (enterCart c a b s).carriage.spot c = some (.offline, none) :=
      congrArg (Option.map Cartridge.spot) (cart?_enterCart_self hc a b)
    have others : ∀ x, x ≠ c → (enterCart c a b s).carriage.spot x = s.carriage.spot x := fun x hx =>
      congrArg (Option.map Cartridge.spot) (cart?_enterCart hc a b hx)
    have rest : (enterCart c a b s).carriage = { s.carriage with spot := (enterCart c a b s).carriage.spot } := by
      simp only [State.carriage, picker, reset, condition, mail, drives]
    have new : s.carriage.spot c = none := by simp only [State.carriage, hc, Option.map_none]
    refine ⟨⟨?_, h.2.entered ready new others own rest⟩, own, others⟩
    rw [enterCart_new hc]
    have perm := (insertCart_perm (Cartridge.fresh c a b) s.lib.carts).map fun r => r.number
    refine (perm.pairwise_iff fun hxy => Ne.symm hxy).mpr (List.pairwise_cons.mpr ⟨fun x hx => ?_, h.1⟩)
    obtain ⟨r, hr, rfl⟩ := List.mem_map.mp hx
    exact (State.cart?_eq_none hc r hr).symm
  | some r =>
    have same : enterCart c a b s = s := by simp only [enterCart, hc]
    have spot : s.carriage.spot c = some (.offline, r.home) := by
      simp only [State.carriage, hc, Option.map_some, Cartridge.spot, offline r hc]
    have home : r.home = none := h.2.agree c _ _ spot
    rw [same]
    exact ⟨h, home ▸ spot, fun _ _ => rfl⟩

/-- What is bound for the mail slot from the grip is held (R56). -/
theorem holdForMail_carried (h : s.Carried pending) : (holdForMail s).Carried pending ∧
    ∀ a, (holdForMail s).picker.active = some a → a.target = .mail → a.picked = true → a.waiting = true := by
  unfold holdForMail
  cases ha : s.picker.active with
  | none =>
    have same : (s.modPicker fun p => { p with active := p.active.map fun a =>
        if a.picked = true ∧ a.target = .mail then { a with waiting := true } else a }).picker = s.picker := by
      rw [State.modPicker_picker, ha, Option.map_none, ← ha]
    refine ⟨h.congr rfl rfl (fun _ => rfl) same rfl rfl, fun a hx => ?_⟩
    rw [same, ha] at hx
    cases hx
  | some a =>
    have target := (h.2.working a ha).target
    have same : s.modPicker (fun p => { p with active := p.active.map fun a =>
        if a.picked = true ∧ a.target = .mail then { a with waiting := true } else a }) =
        s.modPicker fun p => { p with active := some (if a.picked = true ∧ a.target = .mail then { a with waiting := true } else a) } := by
      unfold State.modPicker
      dsimp only
      rw [ha, Option.map_some]
    rw [same]
    split
    · next bound =>
      refine ⟨aim_carried h ha (p := a.target) (b := true) (fun _ => bound.1) ⟨fun _ _ => nofun, target.drive, fun _ => ?_⟩,
        fun x hx _ _ => ?_⟩
      · obtain ⟨kind, exported, -⟩ := target.mail bound.2
        exact ⟨kind, exported, fun _ => nofun⟩
      · cases Option.some.inj (show some _ = some x from hx)
        rfl
    · next free =>
      refine ⟨h.congr rfl rfl (fun _ => rfl) (by rw [State.modPicker_picker, ← ha]) rfl rfl, fun x hx hm hp => ?_⟩
      cases Option.some.inj (show some _ = some x from hx)
      exact absurd ⟨hp, hm⟩ free

/-- An accepted IMPORT keeps the laws of R42. -/
theorem acceptImport_carried (h : s.Carried []) (ready : s.condition = .ready) {c n : Nat} (x y : Role)
    (allowed : s.importRefusal c = none) (slot : s.importSlot (s.cart? c) = some n) : (acceptImport c x y n s).Carried [] := by
  obtain ⟨mail, offline, alone⟩ := State.importRefusal_none allowed
  have free := (State.slotOpen_free h.1 (State.importSlot_open slot)).1
  obtain ⟨-, -, condition, mail'⟩ := enterCart_frame c x y s
  obtain ⟨entered, own, others⟩ := enterCart_carried h ready offline x y
  have clear : (enterCart c x y s).carriage.Clear .mail := fun b ⟨m, hb⟩ => by
    by_cases e : b = c
    · subst e
      cases own.symm.trans hb
    · rw [others b e] at hb
      obtain ⟨r, hr, number, place⟩ := (State.carriage_at h.1).mp ⟨m, hb⟩
      exact alone r hr (number ▸ e) place
  have homeless : ∀ b, ¬ (enterCart c x y s).carriage.Home b n := fun b ⟨p, hb⟩ => by
    by_cases e : b = c
    · subst e
      cases own.symm.trans hb
    · rw [others b e] at hb
      exact free b ⟨p, hb⟩
  obtain ⟨held, bound⟩ := holdForMail_carried entered
  rw [acceptImport_eq, importEntered]
  refine pickerChoose_carried ?_
  have spots : (holdForMail (enterCart c x y s)).carriage.spot = (enterCart c x y s).carriage.spot := rfl
  have full : (holdForMail (enterCart c x y s)).carriage.mail = true := mail'.trans mail
  have up : (holdForMail (enterCart c x y s)).carriage.condition = .ready := condition.trans ready
  generalize holdForMail (enterCart c x y s) = u at held bound spots full up
  rw [← spots] at own
  have clear : u.carriage.Clear .mail := fun b ⟨m, hb⟩ => clear b ⟨m, spots ▸ hb⟩
  have homeless : ∀ b, ¬ u.carriage.Home b n := fun b ⟨p, hb⟩ => homeless b ⟨p, spots ▸ hb⟩
  have none_queued : ∀ q ∈ u.carriage.queue, Carriage.imports c q = false := fun q hq => Bool.eq_false_iff.mpr fun hi => by
    obtain ⟨kind, hc⟩ := Carriage.imports_iff.mp hi
    obtain ⟨-, -, b, -, at_mail⟩ := (held.2.queued q hq).imports kind
    exact clear b at_mail
  have same_queue : u.carriage.queue.filter (fun q => !Carriage.imports c q) = u.carriage.queue :=
    List.filter_eq_self.mpr fun q hq => by rw [none_queued q hq]; rfl
  have active : ∀ a, u.carriage.active = some a → a.task.cart ≠ some c := fun a ha hc => by
    have work := held.2.working a ha
    cases hp : a.picked with
    | true => exact nomatch Carriage.at_unique ((work.picked hp).2 c hc) ⟨_, own⟩
    | false =>
      obtain ⟨p, -, -, -, at_source⟩ := work.picks hp
      exact Carriage.placeOf_ne_offline p (Carriage.at_unique (at_source c hc) ⟨_, own⟩)
  have law := held.2.relocated (next := [importOf c]) (p := .mail) (h := some n) ⟨_, own⟩ (.inr rfl) (.inl rfl)
    (fun b _ hb => absurd hb (clear b)) (fun _ => full) (fun m hm b hb => by cases hm; exact absurd hb (homeless b)) (List.nil_subset _)
    (.inr (.inr ⟨importOf c, List.mem_append_right _ (List.mem_singleton.mpr rfl), rfl, rfl⟩)) fun a ha => ⟨active a ha, fun _ => bound a ha⟩
  have carriage : (u.modCart c fun r => { r with place := .mail, home := some n }).carriage = u.carriage.relocate c .mail (some n) := by
    have turned := State.modCart_carriage c (fun r => { r with place := .mail, home := some n }) (fun _ => (.mail, some n))
      (fun _ => ⟨rfl, rfl⟩) u
    rw [turned, Carriage.relocate, same_queue]
    rfl
  have spot : (u.carriage.relocate c .mail (some n)).spot c = some (.mail, some n) := Carriage.turn_spot (fun _ => (.mail, some n)) own
  rw [← carriage] at law spot
  refine enqueue_carried ⟨State.modCart_numbered held.1 c _ fun _ => rfl, law⟩ up ⟨fun b hb => by cases hb; exact ⟨_, spot⟩, nofun, nofun,
    fun _ => ⟨full, rfl, c, rfl, _, spot⟩, nofun⟩ nofun nofun fun q hq => ⟨nofun, fun ⟨kind, _, hc⟩ => ?_⟩
  rcases List.mem_append.mp hq with hq | hq
  · obtain ⟨a, ha, rfl⟩ := Option.map_eq_some_iff.mp (Option.mem_toList.mp hq)
    exact active a ha hc
  · exact nomatch (none_queued q hq).symm.trans (Carriage.imports_iff.mpr ⟨kind, hc⟩)

-- EXPORT ----------------------------------------------------------------------------------------------------------

/-- An accepted EXPORT keeps the laws of R42. -/
theorem acceptExport_carried (h : s.Carried []) {c : Nat} {r : Cartridge} (found : s.cart? c = some r) (p : Place) :
    (acceptExport c p s).Carried [] := by
  have marked : State.Changes True True s (judgePins (clearActiveOf c (s.modLib fun l => { l with leaving := l.leaving ++ [c] }))) :=
    judgePins_changes.after ((clearActiveOf_changes c).after (.single (.lib (fun l => { l with leaving := l.leaving ++ [c] })
      ⟨rfl, fun _ => .inl, fun _ => ⟨rfl, rfl⟩⟩)))
  have place := (State.Changes.tends marked).place c
  have carried := marked.keeps_carried h
  unfold acceptExport
  refine State.Changes.keeps_carried (f := True) ((releaseFor_changes p).trans pickerChoose_changes) ?_
  generalize judgePins (clearActiveOf c (s.modLib fun l => { l with leaving := l.leaving ++ [c] })) = u at place carried
  have known : u.carriage.Known c := by
    rw [found, Option.map_some] at place
    obtain ⟨q, hq, -⟩ := Option.map_eq_some_iff.mp place
    exact ⟨q.spot, by simp only [State.carriage, hq, Option.map_some]⟩
  have ready : u.carriage.condition = .ready := by
    cases hc : u.carriage.condition with
    | ready => rfl
    | unformatted => exact absurd known ((carried.2.bare hc).2.1 c)
  exact enqueue_carried ⟨carried.1, carried.2.expect _⟩ ready ⟨fun b hb => by cases hb; exact known, nofun, nofun, nofun, fun _ => rfl⟩
    nofun nofun fun _ _ => ⟨nofun, nofun⟩

end Sys2Proof.Machine
end
-- ==== Proofs: faults keep the laws of places ====
section
/-!
SUPPORT for O24: the picker's fault and a drive's.
-/
namespace Sys2Proof.Machine

variable {s t : State} {pending : List Task} {a : Active} {q : Task}

-- The picker in FAULT ---------------------------------------------------------------------------------------------

/-- The picker's work is gone, and the drive of its task emptied (R76). -/
theorem Carriage.Lawful.faults {k j : Carriage} (law : k.Lawful pending)
    (rest : j = { k with state := .fault, queue := [], active := none, berth := j.berth })
    (berth : ∀ d, j.berth d = k.berth d ∨ j.berth d = { k.berth d with phase := .empty } ∧ ∃ a, k.active = some a ∧ a.task.drive = some d ∧
      ((k.berth d).phase = .loading ∨ (k.berth d).phase = .unloading ∧ a.picked = true)) : j.Lawful (k.tasks ++ pending) := by
  have idle : k.active = none → ∀ d, j.berth d = k.berth d := fun e d =>
    (berth d).resolve_right fun ⟨_, a, ha, _⟩ => nomatch e.symm.trans ha
  obtain ⟨spot, mail, places, state, queue, active, resetting, condition⟩ := j
  obtain ⟨rfl, rfl, -, rfl, rfl, rfl, rfl, rfl⟩ := Carriage.mk.inj rest
  dsimp only at berth idle
  refine ⟨law.apart, law.homes, law.agree_mono rfl rfl fun c _ ⟨x, hx, kind, hc⟩ => ⟨x, hx, kind, hc⟩, fun hu => ?_, fun hr => ?_,
    fun d => ?_, fun _ hq => absurd hq List.not_mem_nil, fun _ ha => (nomatch ha), .nil, fun _ h => absurd rfl h⟩
  · obtain ⟨swept, known, none_active, -, drives⟩ := law.bare hu
    refine ⟨swept, known, rfl, rfl, fun d => ?_⟩
    dsimp only
    rw [idle none_active d]
    exact drives d
  · obtain ⟨none_active, -, drives⟩ := law.sweep hr
    refine ⟨rfl, nofun, fun d => ?_⟩
    dsimp only
    rw [idle none_active d]
    exact drives d
  · have mount := law.mount d
    rcases berth d with same | ⟨emptied, a, ha, drive, phase⟩
    · exact mount.moved (SameBut.of_eq rfl).places same id nofun nofun
    · have source := (law.working a ha).source
      have bare : (k.berth d).fitted = true ∧ (k.berth d).mounted = none ∧ k.Clear (.drive d) := by
        rcases phase with loading | ⟨unloading, picked⟩
        · refine ⟨Bool.eq_true_of_not_eq_false fun e => (nomatch loading.symm.trans (mount.fitted e)), mount.bare (.inr (.inr loading)),
            fun c hc => ?_⟩
          exact (mount.holds (law.active_swept ha) c hc).2.1 loading
        · have kind : a.task.kind = .unload := by
            cases hk : a.task.kind with
            | unload => rfl
            | load =>
              obtain ⟨-, x, hx, e⟩ := source.load hk
              cases drive.symm.trans hx
              rcases e with e | e <;> exact nomatch unloading.symm.trans e
            | importTask => exact nomatch drive.symm.trans (source.imports hk).2.1
            | exportTask => exact nomatch drive.symm.trans (source.exports hk).2
          obtain ⟨fitted, -, -, cleared, -⟩ := (source.unload kind).2 d drive
          exact ⟨fitted, (cleared picked).2, (cleared picked).1⟩
      obtain ⟨fitted, mounted, clear⟩ := bare
      refine ⟨fun hf => ?_, fun _ => ?_, fun sd hsd => ?_, fun _ c hc => absurd hc (clear c)⟩
      · dsimp only at hf
        rw [emptied] at hf
        exact nomatch fitted.symm.trans hf
      · dsimp only
        rw [emptied]
        exact mounted
      · dsimp only at hsd
        rw [emptied] at hsd
        exact nomatch mounted.symm.trans hsd

/-- A pending IMPORT of which the cartridge needs none is forgotten. -/
theorem Carriage.Lawful.forget {k : Carriage} (law : k.Lawful (q :: pending))
    (free : ∀ c, q.kind = .importTask → q.cart = some c → ∀ n, k.spot c = some (.mail, n) → n = none) : k.Lawful pending := by
  refine { law with agree := fun c p n hc => ?_ }
  have agrees := law.agree c p n hc
  unfold Agrees at agrees ⊢
  cases p with
  | mail =>
    refine agrees.imp_right fun h => ?_
    rcases h with h | ⟨x, hx, kind, cart⟩
    · exact .inl h
    · rcases List.mem_append.mp hx with old | hx
      · exact .inr ⟨x, List.mem_append_left _ old, kind, cart⟩
      · rcases List.mem_cons.mp hx with rfl | hx
        · exact .inl (free c kind cart n hc)
        · exact .inr ⟨x, List.mem_append_right _ hx, kind, cart⟩
  | _ => exact agrees

/-- A cartridge in the mail slot gives up its home slot (R53). -/
theorem Carriage.Lawful.unhomed {k : Carriage} (law : k.Lawful pending) (active : k.active = none) (c : Nat) :
    (k.turn c fun y => (y.1, if y.1 = .mail then none else y.2)).Lawful pending := by
  have same := turn_sameBut c (fun y => (y.1, if y.1 = .mail then none else y.2)) k
  have places : SamePlaces none k (k.turn c fun y => (y.1, if y.1 = .mail then none else y.2)) :=
    ⟨fun x _ p => turn_at (g := fun y => (y.1, if y.1 = .mail then none else y.2)) (fun _ => rfl) c x p k, same.2⟩
  have spot : ∀ x p n, (k.turn c fun y => (y.1, if y.1 = .mail then none else y.2)).spot x = some (p, n) →
      ∃ m, k.spot x = some (p, m) ∧ (n = m ∨ p = .mail ∧ n = none) := fun x p n hx => by
    simp only [turn] at hx
    split at hx
    · obtain ⟨⟨r, m⟩, hr, e⟩ := Option.map_eq_some_iff.mp hx
      obtain ⟨rfl, rfl⟩ := Prod.mk.inj e
      refine ⟨m, hr, ?_⟩
      by_cases hm : r = .mail
      · exact .inr ⟨hm, if_pos hm⟩
      · exact .inl (if_neg hm)
    · exact ⟨n, hx, .inl rfl⟩
  have home : ∀ x n, (k.turn c fun y => (y.1, if y.1 = .mail then none else y.2)).Home x n → k.Home x n := fun x n ⟨p, hp⟩ => by
    obtain ⟨m, hm, e⟩ := spot x p (some n) hp
    cases e.resolve_right fun h => nomatch h.2
    exact ⟨p, hm⟩
  have known : ∀ x, (k.turn c fun y => (y.1, if y.1 = .mail then none else y.2)).Known x → k.Known x := fun x ⟨⟨p, n⟩, hy⟩ => by
    obtain ⟨m, hm, -⟩ := spot x p n hy
    exact ⟨_, hm⟩
  refine { law with apart := ?_, homes := ?_, agree := ?_, bare := ?_, mount := ?_, queued := ?_, working := ?_, mailed := ?_ }
  · intro x y p hx hy
    exact law.apart x y p ((places.at nofun p).mp hx) ((places.at nofun p).mp hy)
  · exact fun x y n hx hy => law.homes x y n (home x n hx) (home y n hy)
  · intro x p n hx
    obtain ⟨m, hm, rfl | ⟨rfl, rfl⟩⟩ := spot x p n hx
    · exact (law.agree x p n hm).mono (fun _ => id) fun _ => id
    · exact .inr (.inl rfl)
  · intro hu
    obtain ⟨swept, unknown, rest⟩ := law.bare hu
    exact ⟨swept, fun x hx => unknown x (known x hx), rest⟩
  · exact fun d => (law.mount d).moved places rfl id nofun nofun
  · exact fun x hx => (law.queued x hx).moved places (fun _ => ⟨nofun, fun _ _ => rfl⟩) fun e => ⟨((law.queued x hx).imports e).1, nofun⟩
  · exact fun b hb => nomatch active.symm.trans hb
  · intro hr hs x hx
    exact law.mailed hr hs x ((places.at nofun .mail).mp hx)

/-- A task dropped by the picker's fault (R53, R56, R76). -/
theorem dropTask_carried (h : s.Carried (q :: pending)) (fault : s.picker.state = .fault) :
    (dropTask q s).Carried pending ∧ (dropTask q s).picker.state = .fault := by
  have active : s.carriage.active = none := by
    cases ha : s.carriage.active with
    | none => rfl
    | some a => exact nomatch fault.symm.trans (h.2.working a ha).busy
  unfold dropTask
  split
  · next c hk hc =>
    have carriage := State.modCart_carriage c (fun r => if r.place = .mail then { r with home := none } else r)
      (fun y => (y.1, if y.1 = .mail then none else y.2)) (fun r => by by_cases hm : r.place = .mail <;> simp [Cartridge.spot, hm]) s
    refine ⟨⟨State.modCart_numbered h.1 c _ fun r => by split <;> rfl, ?_⟩, fault⟩
    rw [carriage]
    refine (h.2.unhomed active c).forget fun x _ hx n hn => ?_
    cases hc.symm.trans hx
    obtain ⟨y, -, e⟩ := Option.map_eq_some_iff.mp ((if_pos rfl).symm.trans hn)
    obtain ⟨mail, home⟩ := Prod.mk.inj e
    rw [if_pos mail] at home
    exact home.symm
  · next c hk hc =>
    have shift : s.Shift (engineAsk (clearLeaving c s)) :=
      State.Changes.shift (f := True) (engineAsk_changes.after (clearLeaving_changes c)) (by rw [fault]; nofun)
    have state : (engineAsk (clearLeaving c s)).picker.state = s.picker.state := (congrArg Carriage.state shift.carriage.rest :)
    have carried := shift.carried h
    exact ⟨⟨carried.1, carried.2.forget fun _ kind => nomatch hk.symm.trans kind⟩, state.trans fault⟩
  · next other _ =>
    exact ⟨⟨h.1, h.2.forget fun c kind cart => absurd cart (other c kind)⟩, fault⟩

theorem dropTasks_carried (qs : List Task) (h : s.Carried (qs ++ pending)) (fault : s.picker.state = .fault) :
    (qs.foldl (fun t k => dropTask k t) s).Carried pending := by
  induction qs generalizing s with
  | nil => exact h
  | cons q rest ih =>
    obtain ⟨carried, fault⟩ := dropTask_carried h fault
    exact ih carried fault

theorem endDriveTask_berth (a : Active) (s : State) (d : DriveNo) : ((endDriveTask a s).drives[d]).berth = (s.drives[d]).berth ∨
    ((endDriveTask a s).drives[d]).berth = { (s.drives[d]).berth with phase := .empty } ∧ a.task.drive = some d ∧
      ((s.drives[d]).berth.phase = .loading ∨ (s.drives[d]).berth.phase = .unloading ∧ a.picked = true) := by
  unfold endDriveTask
  split
  · next x hx =>
    rw [State.modDrive_get]
    split
    · next e =>
      subst e
      split
      · next stuck =>
        obtain ⟨-, loading, unloading, -⟩ := DriveState.phase_iff (s.drives[d]).state
        exact .inr ⟨rfl, hx, stuck.imp loading.mpr fun h => ⟨unloading.mpr h.1, h.2⟩⟩
      · exact .inl rfl
    · exact .inl rfl
  · exact .inl rfl

/-- The picker's work is gone, and its tasks pending (R76). -/
theorem pickerDown_carried (h : s.Carried pending) : (pickerDown s).Carried (s.picker.tasks ++ pending) ∧
    (pickerDown s).picker.state = .fault := by
  have down : ∀ v : State, v = { s with drives := v.drives } →
      (∀ d : DriveNo, (v.drives[d]).berth = s.carriage.berth d ∨ (v.drives[d]).berth = { s.carriage.berth d with phase := .empty } ∧
        ∃ a, s.carriage.active = some a ∧ a.task.drive = some d ∧
          ((s.carriage.berth d).phase = .loading ∨ (s.carriage.berth d).phase = .unloading ∧ a.picked = true)) →
      ((v.modPicker fun p => { p with state := .fault, queue := [], active := none }).forDrives
        fun d t => t.modDrive d Drive.pickerFault).Carried (s.picker.tasks ++ pending) := fun v frame berth => by
    have same := pickerFault_sameButDrives (v.modPicker fun p => { p with state := .fault, queue := [], active := none })
    have drives := pickerFault_get (v.modPicker fun p => { p with state := .fault, queue := [], active := none })
    generalize (v.modPicker fun p => { p with state := .fault, queue := [], active := none }).forDrives _ = w at same drives
    have lib : w.lib = s.lib := by rw [same, frame]; rfl
    have berths : ∀ d, w.carriage.berth d = (v.drives[d]).berth := fun d => (congrArg Drive.berth (drives d) :)
    have rest : w.carriage = { s.carriage with state := .fault, queue := [], active := none, berth := w.carriage.berth } := by
      rw [same, frame]
      rfl
    refine ⟨State.numbered_of_carts h.1 (congrArg Library.carts lib), h.2.faults rest fun d => ?_⟩
    rw [berths d]
    exact berth d
  refine ⟨?_, (pickerDown_stilled s).1.1⟩
  unfold pickerDown
  split
  · next a ha =>
    exact down _ (endDriveTask_sameButDrives a s) fun d => (endDriveTask_berth a s d).imp_right fun ⟨e, drive, phase⟩ =>
      ⟨e, a, ha, drive, phase⟩
  · exact down s rfl fun _ => .inl rfl

/-- The picker's fault keeps the laws of R42 (R76). -/
theorem pickerFaults_carried (h : s.Carried pending) : (pickerFaults s).Carried pending := by
  obtain ⟨stopped, fault⟩ := pickerDown_carried h
  rw [pickerFaults_eq]
  exact (failOrders_changes (f := True) _ _).keeps_carried (dropTasks_carried _ stopped fault)

theorem faultPicker_carried (h : s.Carried pending) : (faultPicker s).Carried pending := by
  unfold faultPicker
  split
  · exact h
  · exact arbitrate_carried ((queueNotice_changes (f := True) _).keeps_carried (pickerFaults_carried h))

-- A drive in FAULT ------------------------------------------------------------------------------------------------

/-- Tasks that are no IMPORTs leave the queue. -/
theorem Carriage.Lawful.dropped {k : Carriage} (law : k.Lawful pending) (p : Task → Bool)
    (kept : ∀ q ∈ k.queue, q.kind = .importTask → p q = true) : ({ k with queue := k.queue.filter p } : Carriage).Lawful pending := by
  refine { law with agree := ?_, bare := ?_, sweep := ?_, mount := ?_, queued := ?_, working := ?_, compat := ?_ }
  · refine law.agree_mono rfl rfl fun c _ ⟨q, hq, kind, hc⟩ => ⟨q, ?_, kind, hc⟩
    simp only [tasks, List.mem_append] at hq ⊢
    exact hq.imp_left (Or.imp_right fun old => List.mem_filter.mpr ⟨old, kept q old kind⟩)
  · intro hu
    obtain ⟨swept, known, active, queue, drives⟩ := law.bare hu
    exact ⟨swept, known, active, by rw [queue]; rfl, drives⟩
  · intro hr
    obtain ⟨active, queue, drives⟩ := law.sweep hr
    exact ⟨active, fun q hq => queue q (List.mem_of_mem_filter hq), drives⟩
  · exact fun d => (law.mount d).moved (SameBut.of_eq rfl).places rfl id nofun nofun
  · exact fun q hq => (law.queued q (List.mem_of_mem_filter hq)).congr rfl rfl fun _ _ _ => rfl
  · exact fun a ha => (law.working a ha).congr rfl rfl (fun q hq => (law.working a ha).grips q (List.mem_of_mem_filter hq)) fun _ _ => rfl
  · exact law.compat.sublist (List.Sublist.append_left List.filter_sublist _)

/-- A drive goes to FAULT with what it holds (R59, R81). -/
theorem Carriage.Lawful.faulted {k : Carriage} (law : k.Lawful pending) (ready : k.condition = .ready) {d : DriveNo}
    (queued : ∀ q ∈ k.queue, q.kind = .unload → q.drive ≠ some d)
    (active : ∀ a, k.active = some a → a.task.drive = some d → a.picked = true ∧ (a.task.kind = .load → ∃ n, a.target = .slot n)) :
    (k.refit d { k.berth d with phase := .fault }).Lawful pending := by
  have mount := law.mount d
  have own : (k.refit d { k.berth d with phase := .fault }).berth d = { k.berth d with phase := .fault } := refit_berth ..
  refine law.refit ready ⟨fun _ => by rw [own], fun hb => ?_, by rw [own]; exact mount.held, fun hr c hc => ?_⟩ (fun hr => ?_) queued
    fun a ha hd => ?_
  · rw [own] at hb ⊢
    rcases hb with e | e | e
    · exact mount.bare (.inl e)
    · cases e
    · cases e
  · rw [Mounts, own]
    exact ⟨nofun, nofun, (mount.holds hr c hc).2.2⟩
  · obtain ⟨fitted, mounted, -⟩ := (law.sweep hr).2.2 d
    exact ⟨fitted, mounted, .inr rfl⟩
  · have work := law.working a ha
    obtain ⟨picked, turned⟩ := active a ha hd
    refine ⟨work.busy, work.grips, work.known, work.picked, fun np => (nomatch np.symm.trans picked), ⟨fun kind => ?_, fun kind => ?_,
      work.source.imports, work.source.exports⟩, ⟨work.target.slot, fun x hx => ?_, work.target.mail⟩⟩
    · obtain ⟨source, drives⟩ := work.source.unload kind
      refine ⟨source, fun x hx => ?_⟩
      obtain rfl : d = x := Option.some.inj (hd.symm.trans hx)
      obtain ⟨fitted, -, only, cleared, was⟩ := drives d hd
      rw [own]
      exact ⟨fitted, .inr ⟨picked, rfl⟩, only, cleared, was⟩
    · obtain ⟨source, x, hx, -⟩ := work.source.load kind
      obtain rfl : d = x := Option.some.inj (hd.symm.trans hx)
      exact ⟨source, d, hx, .inr (by rw [own])⟩
    · obtain ⟨drive, kinds⟩ := work.target.drive x hx
      refine ⟨drive, .inr (kinds.resolve_left fun ⟨kind, _⟩ => ?_)⟩
      obtain ⟨n, hn⟩ := turned kind
      exact nomatch hn.symm.trans hx

/-- The LOAD in progress for a faulting drive ends, or its cartridge goes home (R75). -/
theorem turnLoad_carried {k : Carriage} (law : k.Lawful []) {d : DriveNo} (numbered : t.numbered)
    (carriage : t.carriage = k.refit d { k.berth d with phase := .fault }) (ready : k.condition = .ready)
    (queued : ∀ q ∈ k.queue, q.kind = .unload → q.drive ≠ some d) (ha : k.active = some a) (kind : a.task.kind = .load) :
    (turnLoad a t).Carried [] := by
  have held : a.picked = true → ∀ n,
      (t.modPicker fun p => { p with active := some { a with target := .slot n, waiting := true } }).Carried [] := fun picked n => by
    have aimed := law.aim ha (p := .slot n) (b := true) (fun _ => picked) ⟨fun _ _ => nofun, nofun, nofun⟩
    have faulted := aimed.faulted ready (d := d) queued fun b hb _ => by
      obtain rfl := Option.some.inj hb
      exact ⟨picked, fun _ => ⟨n, rfl⟩⟩
    have same : (t.modPicker fun p => { p with active := some { a with target := .slot n, waiting := true } }).carriage =
        { t.carriage with active := some { a with target := .slot n, waiting := true } } := rfl
    refine ⟨numbered, ?_⟩
    rw [same, carriage]
    exact faulted
  unfold turnLoad
  split
  · next picked =>
    split
    · next n hn =>
      exact retarget_carried_slot (held picked n) rfl picked a.waiting fun c hc => State.returnSlot_free (held picked n) hc hn
    · exact held picked _
  · next np =>
    have np : a.picked = false := Bool.eq_false_iff.mpr np
    have ended := law.ended fun b hb => .inr (by cases ha.symm.trans hb; rw [kind]; nofun)
    have faulted := ended.faulted ready (d := d) queued fun _ hb => nomatch hb
    refine ⟨numbered, ?_⟩
    have same : (endTask t).carriage = t.carriage.ended := rfl
    rw [same, carriage]
    exact faulted

theorem State.Shift.dropReservation (d : DriveNo) (s : State) : s.Shift (dropReservation d s) := by
  have berths : s.Shift (s.modDrive d fun r => { r with reserved := none }) :=
    .congr rfl rfl (State.modDrive_berth (g := fun r => { r with reserved := none }) (fun _ => rfl) d · s) rfl rfl rfl
  obtain ⟨kept, -⟩ := (Picker.Change.dropLoads (m := True) (s := s) (fun k => !(decide (k.kind = .load) && decide (k.drive = some d)))
    fun k hk => by simp [hk]).queue trivial
  exact berths.trans ⟨id, rfl, kept, fun q hq => .inl (List.mem_of_mem_filter hq)⟩

/-- The drive in FAULT with its tasks ended (R75, R81). -/
theorem driveDown_carried (h : s.Carried []) (ready : s.condition = .ready) (d : DriveNo) : (driveDown d s).Carried [] := by
  have cleared : (s.modDrive d Drive.faulted).Shift (clearTrapped (s.heldCart d) (s.modDrive d Drive.faulted)) := by
    cases s.heldCart d with
    | none => exact .refl _
    | some c => exact .congr rfl rfl (fun _ => rfl) rfl rfl rfl
  have shift := cleared.trans (.dropReservation d _)
  have faulted : (s.modDrive d Drive.faulted).carriage = s.carriage.refit d { s.carriage.berth d with phase := .fault } :=
    State.modDrive_carriage d Drive.faulted s
  unfold driveDown endTasksOf
  generalize dropReservation d (clearTrapped (s.heldCart d) (s.modDrive d Drive.faulted)) = u at shift
  obtain ⟨numbered, rest, kept, joined⟩ := shift
  rw [faulted] at rest kept joined
  have law := (h.2.loads (queue := u.picker.queue) kept joined).dropped
    (fun k => !(decide (k.kind = .unload) && decide (k.drive = some d))) fun q _ kind => by simp [kind]
  have queued : ∀ q ∈ u.picker.queue.filter (fun k => !(decide (k.kind = .unload) && decide (k.drive = some d))), q.kind = .unload →
      q.drive ≠ some d := fun q hq kind => by
    have spared := (List.mem_filter.mp hq).2
    simpa [kind] using spared
  have carriage : (u.modPicker fun p => { p with
      queue := p.queue.filter fun k => !(decide (k.kind = .unload) && decide (k.drive = some d)) }).carriage =
      ({ s.carriage with
        queue := u.picker.queue.filter fun k => !(decide (k.kind = .unload) && decide (k.drive = some d)) } : Carriage).refit d { s.carriage.berth d with phase := .fault } :=
    congrArg (fun k : Carriage => ({ k with
      queue := u.picker.queue.filter fun k => !(decide (k.kind = .unload) && decide (k.drive = some d)) } : Carriage)) rest
  have active : (u.modPicker fun p => { p with
      queue := p.queue.filter fun k => !(decide (k.kind = .unload) && decide (k.drive = some d)) }).picker.active = s.carriage.active := congrArg Carriage.active carriage
  have numbered := numbered h.1
  dsimp only
  split
  · next a ha =>
    have working := h.2.working a (active.symm.trans ha)
    split
    · next load => exact turnLoad_carried law (t := u.modPicker _) numbered carriage ready queued (active.symm.trans ha) load.2
    · next notLoad =>
      split
      · next unload =>
        obtain ⟨-, kind, -⟩ := unload
        have ended := law.ended fun b hb => .inr (by cases (active.symm.trans ha).symm.trans hb; rw [kind]; nofun)
        have same : ∀ v : State, (endTask v).carriage = v.carriage.ended := fun _ => rfl
        refine ⟨numbered, ?_⟩
        rw [same, carriage]
        exact ended.faulted ready queued fun _ hb => nomatch hb
      · next notUnload =>
        refine ⟨numbered, ?_⟩
        rw [carriage]
        refine law.faulted ready queued fun b hb hd => ?_
        cases (active.symm.trans ha).symm.trans hb
        have kind : a.task.kind = .unload := by
          cases hk : a.task.kind with
          | unload => rfl
          | load => exact absurd ⟨hd, hk⟩ notLoad
          | importTask => exact nomatch hd.symm.trans (working.source.imports hk).2.1
          | exportTask => exact nomatch hd.symm.trans (working.source.exports hk).2
        refine ⟨Bool.eq_true_of_not_eq_false fun np => notUnload ⟨hd, kind, np⟩, fun load => nomatch kind.symm.trans load⟩
  · next none_active =>
    refine ⟨numbered, ?_⟩
    rw [carriage]
    exact law.faulted ready queued fun b hb => nomatch (active.symm.trans none_active).symm.trans hb

/-- A drive's fault keeps the laws of R42 (R81). -/
theorem faultDrive_carried (h : s.Carried []) (d : DriveNo) : (faultDrive d s).Carried [] := by
  unfold faultDrive
  split
  · exact h
  · next up =>
    have ready : s.condition = .ready := by
      cases hc : s.condition with
      | ready => rfl
      | unformatted => exact absurd (.inl hc) up
    rw [driveFaults_eq]
    refine arbitrate_carried ?_
    exact State.Changes.keeps_carried (f := False) (((failForFault_changes s.drives[d] (s.heldCart d)).after
      (loseAttempt_changes not_false (s.drives[d]).run)).trans ((pickerChoose_changes.after runAllocator_changes).after
        ((queueNotice_changes _).after (activeLost_changes.after judgePins_changes)))) (driveDown_carried h ready d)

end Sys2Proof.Machine
end
-- ==== Proofs: the mechanism reset keeps the laws of places ====
section
/-!
SUPPORT for O24: the report of the mechanism reset, and the sweep that it queues.
-/
namespace Sys2Proof.Machine

variable {s t u v : State} {pending : List Task}

-- The report as the carriage sees it ------------------------------------------------------------------------------

namespace Carriage

variable {k j : Carriage}

/-- Drive `d` as its report gives it (R86); `cart` is the cartridge recorded in it. -/
structure Given (rep : DriveReport) (cart : Option Nat) (b x : Berth) : Prop where
  absent  : rep = .absent → x.phase = .fault ∧ x.fitted = false ∧ x.mounted = none
  vacant  : rep = .vacant → x.phase = .empty ∧ x.fitted = b.fitted ∧ x.mounted = none
  fault   : ∀ f, rep = .fault f → x.phase = .fault ∧ x.fitted = b.fitted ∧ x.unrecorded = false ∧ x.mounted.map (fun sd => sd.cart) = cart
  holding : ∀ f, rep = .holding f →
    x.phase = .unloading ∧ x.fitted = b.fitted ∧ x.unrecorded = cart.isNone ∧ x.mounted.map (fun sd => sd.cart) = cart

/-- What the report of the mechanism reset leaves of the carriage (R60, R86). -/
structure Reported (report : MechReport) (k j : Carriage) : Prop where
  spot    : ∀ c p n, j.spot c = some (p, n) → p = .offline ∧ n = none ∨ ∃ m, k.spot c = some (p, m) ∧ (n = m ∨ p = .mail ∧ n = none)
  known   : ∀ c, k.Known c → j.Known c
  bare    : ∀ c d, j.At c (.drive d) → DriveReport.bare report.drives[d] = false
  keeps   : ∀ c d, k.At c (.drive d) → DriveReport.bare report.drives[d] = false → j.At c (.drive d)
  imports : ∀ c, k.At c .mail → (∃ q ∈ k.queue, q.kind = .importTask ∧ q.cart = some c) → j.At c .mail
  mails   : ∀ c n, j.spot c = some (.mail, n) → n = none ∧ k.mail = true ∨ ∃ q ∈ k.queue, q.kind = .importTask ∧ q.cart = some c
  queue   : j.queue.Sublist k.queue ∧ ∀ q ∈ k.queue, q.kind = .importTask → q ∈ j.queue
  berth   : ∀ d, ∃ cart, (∀ c, cart = some c ↔ k.At c (.drive d)) ∧ Given report.drives[d] cart (k.berth d) (j.berth d)
  rest    : j.mail = k.mail ∧ j.active = k.active ∧ j.resetting = false ∧ j.condition = k.condition

variable {report : MechReport}

theorem Reported.at (h : Reported report k j) {c : Nat} {p : Place} (hp : p ≠ .offline) (hj : j.At c p) : k.At c p := by
  obtain ⟨n, hn⟩ := hj
  rcases h.spot c p n hn with ⟨e, -⟩ | ⟨m, hm, -⟩
  · exact absurd e hp
  · exact ⟨m, hm⟩

theorem Reported.home (h : Reported report k j) {c n : Nat} (hj : j.Home c n) : k.Home c n := by
  obtain ⟨p, hp⟩ := hj
  rcases h.spot c p (some n) hp with ⟨-, e⟩ | ⟨m, hm, e | ⟨-, e⟩⟩
  · cases e
  · exact ⟨p, e ▸ hm⟩
  · cases e

/-- A drive as its report gives it mounts the cartridge recorded in it (R86). -/
theorem Reported.mounting (h : Reported report k j) (law : k.Lawful []) (resetting : k.resetting = true) (d : DriveNo) : j.Mounting d := by
  obtain ⟨cart, recorded, given⟩ := h.berth d
  obtain ⟨fitted, -⟩ := (law.sweep resetting).2.2 d
  have held : DriveReport.bare report.drives[d] = false → ∀ sd ∈ (j.berth d).mounted, (j.berth d).mounted.map (fun sd => sd.cart) = cart →
      j.At sd.cart (.drive d) := fun found sd hsd mounts => by
    have hm : (j.berth d).mounted = some sd := hsd
    rw [hm] at mounts
    exact h.keeps sd.cart d ((recorded sd.cart).mp mounts.symm) found
  cases hrep : report.drives[d] with
  | absent =>
    obtain ⟨phase, -, mounted⟩ := given.absent hrep
    refine ⟨fun _ => phase, fun _ => mounted, fun sd hsd => (nomatch mounted.symm.trans hsd), fun _ c hc => ?_⟩
    exact nomatch (hrep ▸ h.bare c d hc : DriveReport.bare .absent = false)
  | vacant =>
    obtain ⟨phase, fitted', mounted⟩ := given.vacant hrep
    refine ⟨fun hf => (nomatch (fitted'.trans fitted).symm.trans hf), fun _ => mounted,
      fun sd hsd => (nomatch mounted.symm.trans hsd), fun _ c hc => ?_⟩
    exact nomatch (hrep ▸ h.bare c d hc : DriveReport.bare .vacant = false)
  | fault f =>
    obtain ⟨phase, fitted', unrecorded, mounts⟩ := given.fault f hrep
    refine ⟨fun _ => phase, fun hb => ?_, fun sd hsd _ => held (by rw [hrep]; rfl) sd hsd mounts, fun _ c hc => ⟨by rw [phase]; nofun,
      by rw [phase]; nofun, unrecorded, mounts.trans ((recorded c).mpr (h.at nofun hc))⟩⟩
    rcases hb with e | e | e
    · exact nomatch (fitted'.trans fitted).symm.trans e
    · exact nomatch phase.symm.trans e
    · exact nomatch phase.symm.trans e
  | holding f =>
    obtain ⟨phase, fitted', unrecorded, mounts⟩ := given.holding f hrep
    refine ⟨fun hf => (nomatch (fitted'.trans fitted).symm.trans hf), fun hb => ?_, fun sd hsd _ => held (by rw [hrep]; rfl) sd hsd mounts,
      fun _ c hc => ?_⟩
    · rcases hb with e | e | e
      · exact nomatch (fitted'.trans fitted).symm.trans e
      · exact nomatch phase.symm.trans e
      · exact nomatch phase.symm.trans e
    · have found := (recorded c).mpr (h.at nofun hc)
      exact ⟨by rw [phase]; nofun, by rw [phase]; nofun, by rw [unrecorded, found]; rfl, mounts.trans found⟩

/-- The report leaves the laws of R42, whatever the state of the picker. -/
theorem Reported.lawful (h : Reported report k j) (law : k.Lawful []) (resetting : k.resetting = true) (x : PickerState) :
    ({ j with state := x } : Carriage).Lawful [] ∧ (∀ q ∈ j.queue, q.kind ≠ .unload) ∧ j.active = none ∧ j.condition = .ready := by
  obtain ⟨active, unswept, -⟩ := law.sweep resetting
  obtain ⟨mail, active', swept, condition⟩ := h.rest
  have none_active : j.active = none := active'.trans active
  have ready : k.condition = .ready := by
    cases hc : k.condition with
    | ready => rfl
    | unformatted => exact nomatch resetting.symm.trans (law.bare hc).1
  have idle : ∀ q ∈ j.queue, q.kind ≠ .unload := fun q hq => unswept q (h.queue.1.subset hq)
  have tasks : ({ j with state := x } : Carriage).tasks = j.queue := by
    rw [Carriage.tasks, none_active]
    rfl
  have tasks' : k.tasks = k.queue := by
    rw [Carriage.tasks, active]
    rfl
  refine ⟨⟨fun a b p ha hb off => law.apart a b p (h.at off ha) (h.at off hb) off, fun a b n ha hb => law.homes a b n (h.home ha) (h.home hb),
    fun c p n hc => ?_, fun hu => ?_, fun hr => (nomatch swept.symm.trans hr), fun d => ?_, fun q hq => ?_,
    fun a ha => (nomatch none_active.symm.trans ha), ?_, fun _ _ c ⟨n, hn⟩ => .inl (mail.trans ?_)⟩, idle, none_active, condition.trans ready⟩
  · rcases h.spot c p n hc with ⟨rfl, rfl⟩ | ⟨m, hm, e⟩
    · rfl
    · have agree := law.agree c p m hm
      unfold Agrees at agree ⊢
      cases p with
      | mail =>
        rcases h.mails c n hc with ⟨e, -⟩ | ⟨q, hq, kind, cart⟩
        · exact .inr (.inl e)
        · exact .inr (.inr ⟨q, List.mem_append_left _ (tasks.symm ▸ h.queue.2 q hq kind), kind, cart⟩)
      | _ =>
        obtain rfl := e.resolve_right fun e => nomatch e.1
        exact agree
  · exact nomatch (condition.trans ready).symm.trans hu
  · exact (h.mounting law resetting d).moved (SameBut.of_eq rfl).places rfl id nofun nofun
  · have old := h.queue.1.subset hq
    have queued := law.queued q old
    refine ⟨fun c hc => h.known c (queued.known c hc), fun kind => absurd kind (idle q hq), fun kind => absurd kind (idle q hq),
      fun kind => ?_, queued.exports⟩
    obtain ⟨full, drive, c, hc, held⟩ := queued.imports kind
    exact ⟨mail.trans full, drive, c, hc, h.imports c held ⟨q, old, kind, hc⟩⟩
  · rw [tasks]
    exact (tasks' ▸ law.compat).sublist h.queue.1
  · rcases h.mails c n hn with ⟨-, full⟩ | ⟨q, hq, kind, -⟩
    · exact full
    · exact ((law.queued q hq).imports kind).1

/-- The sweep's UNLOADs join the queue (R60). -/
theorem Lawful.unloads (law : k.Lawful []) (ready : k.condition = .ready) (swept : k.resetting = false) (active : k.active = none)
    {qs : List Task} (queued : ∀ q ∈ qs, q.kind = .unload ∧ k.Queued q) (compat : (k.queue ++ qs).Pairwise Task.compatible) :
    ({ k with queue := k.queue ++ qs } : Carriage).Lawful [] := by
  induction qs generalizing k with
  | nil =>
    rw [List.append_nil]
    exact law
  | cons q rest ih =>
    obtain ⟨kind, own⟩ := queued q (List.mem_cons_self ..)
    have tasks : k.tasks = k.queue := by
      rw [Carriage.tasks, active]
      rfl
    have joined := (law.expect q).enqueue ready own (fun _ => .inl active) (fun _ => swept) fun x hx =>
      (List.pairwise_append.mp compat).2.2 x (tasks ▸ hx) q (List.mem_cons_self ..)
    have more := ih (k := { k with queue := k.queue ++ [q] }) joined ready swept active
      (fun x hx => ⟨(queued x (List.mem_cons_of_mem _ hx)).1, (queued x (List.mem_cons_of_mem _ hx)).2.congr rfl rfl fun _ _ _ => rfl⟩)
      (by rw [List.append_assoc]; exact compat)
    rw [List.append_cons]
    exact more

end Carriage

-- The report taken ------------------------------------------------------------------------------------------------

/-- Cartridge by cartridge, what the drives and the grip are found to hold: as before, or OFFLINE. -/
def State.foundFrom (report : MechReport) (s v : State) : Prop :=
  v.numbered ∧ ∀ c, v.carriage.spot c = s.carriage.spot c ∨ v.carriage.spot c = some (.offline, none) ∧
    (s.carriage.At c .picker ∨ ∃ d : DriveNo, s.carriage.At c (.drive d) ∧ DriveReport.bare report.drives[d] = true)

/-- A cartridge of the grip, or of a drive found bare, is lost. -/
theorem State.foundFrom.lose {report : MechReport} (h : s.foundFrom report v) {r : Cartridge} {p : Place} (hr : v.cartAt p = some r)
    (lost : p = .picker ∨ ∃ d : DriveNo, p = .drive d ∧ DriveReport.bare report.drives[d] = true) :
    s.foundFrom report (loseCart r.number v) := by
  obtain ⟨numbered, spots⟩ := h
  have held : v.carriage.At r.number p := State.cartAt_at numbered hr
  have carriage : (loseCart r.number v).carriage = v.carriage.turn r.number fun _ => (.offline, none) :=
    State.modCart_carriage r.number Cartridge.lost (fun _ => (.offline, none)) (fun _ => ⟨rfl, rfl⟩) v
  refine ⟨loseCart_numbered numbered _, fun c => ?_⟩
  rw [carriage]
  by_cases e : c = r.number
  · subst e
    obtain ⟨n, hn⟩ := held
    refine .inr ⟨Carriage.turn_spot (fun _ => (.offline, none)) hn, ?_⟩
    rcases spots r.number with same | ⟨gone, -⟩
    · have before : s.carriage.At r.number p := ⟨n, same.symm.trans hn⟩
      rcases lost with rfl | ⟨d, rfl, bare⟩
      · exact .inl before
      · exact .inr ⟨d, before, bare⟩
    · cases gone.symm.trans hn
      rcases lost with e | ⟨_, e, _⟩ <;> cases e
  · rw [(Carriage.turn_sameBut r.number (fun _ => (.offline, none)) v.carriage).1 c fun x => e (Option.some.inj x).symm]
    exact spots c

theorem State.foundFrom.of_carts {report : MechReport} (h : s.foundFrom report v) (carts : u.lib.carts = v.lib.carts) :
    s.foundFrom report u := ⟨State.numbered_of_carts h.1 carts, fun c => by rw [State.spot_of_carts carts]; exact h.2 c⟩

theorem resetDrive_found {report : MechReport} (d : DriveNo) (h : s.foundFrom report v) : s.foundFrom report (resetDrive report d v) := by
  cases hc : v.cartAt (.drive d) with
  | none => exact h.of_carts (congrArg Library.carts (resetDrive_lib_none hc))
  | some r =>
    have lib := resetDrive_lib_some (report := report) hc
    rcases settleCart_lib report.drives[d] r.number (v.modDrive d (DriveReport.set report.drives[d] (some r))) with
      ⟨lost, bare⟩ | ⟨cleared, -⟩ | ⟨same, -⟩
    · exact (h.lose hc (.inr ⟨d, rfl, bare⟩)).of_carts (congrArg Library.carts (lib.trans lost))
    · exact h.of_carts ((congrArg Library.carts (lib.trans cleared)).trans rfl)
    · exact h.of_carts ((congrArg Library.carts (lib.trans same)).trans rfl)

theorem resetGrip_found {report : MechReport} (rep : PickerReport) (h : s.foundFrom report v) : s.foundFrom report (resetGrip rep v) := by
  rcases resetGrip_cases rep v with same | ⟨r, hr, same⟩ <;> rw [same]
  · exact h
  · exact h.lose hr (.inl rfl)

theorem dropLoadOf_queue (d : DriveNo) (s : State) : (dropLoadOf d s).picker.state = s.picker.state ∧
    (dropLoadOf d s).picker.queue.Sublist s.picker.queue ∧
      ∀ q ∈ s.picker.queue, q.kind = .importTask → q ∈ (dropLoadOf d s).picker.queue := by
  unfold dropLoadOf
  split
  · exact ⟨rfl, List.filter_sublist, fun q hq kind => List.mem_filter.mpr ⟨hq, by simp [kind]⟩⟩
  · exact ⟨rfl, .refl _, fun q hq _ => hq⟩

theorem resetDrive_queue (report : MechReport) (d : DriveNo) (s : State) : (resetDrive report d s).picker.state = s.picker.state ∧
    (resetDrive report d s).picker.queue.Sublist s.picker.queue ∧
      ∀ q ∈ s.picker.queue, q.kind = .importTask → q ∈ (resetDrive report d s).picker.queue := by
  cases hc : s.cartAt (.drive d) with
  | none =>
    simp only [resetDrive, hc]
    exact dropLoadOf_queue d _
  | some r =>
    have dropped := dropLoadOf_queue d (settleCart report.drives[d] r.number (s.modDrive d (DriveReport.set report.drives[d] (some r))))
    rw [(settleCart_rest ..).2] at dropped
    simp only [resetDrive, hc]
    exact dropped

theorem resetDrives_queue (report : MechReport) (s : State) : (s.forDrives (resetDrive report)).picker.queue.Sublist s.picker.queue ∧
    ∀ q ∈ s.picker.queue, q.kind = .importTask → q ∈ (s.forDrives (resetDrive report)).picker.queue :=
  forDrives_kept (P := fun v => v.picker.queue.Sublist s.picker.queue ∧ ∀ q ∈ s.picker.queue, q.kind = .importTask → q ∈ v.picker.queue) s
    (fun d v ⟨sub, kept⟩ => by
      obtain ⟨-, sub', kept'⟩ := resetDrive_queue report d v
      exact ⟨sub'.trans sub, fun q hq kind => kept' q (kept q hq kind) kind⟩) ⟨.refl _, fun _ hq _ => hq⟩

theorem DriveReport.bare_iff {rep : DriveReport} : DriveReport.bare rep = true ↔ rep = .absent ∨ rep = .vacant := by
  cases rep <;> simp [DriveReport.bare]

theorem DriveReport.given {rep : DriveReport} {cart : Option Cartridge} (r : Drive) :
    Carriage.Given rep (cart.map fun x => x.number) r.berth (DriveReport.set rep cart r).berth := by
  have facing : ∀ f, (facingOf cart f).map (fun sd => sd.cart) = cart.map fun x => x.number := fun f => by cases cart <;> rfl
  refine ⟨fun e => ?_, fun e => ?_, fun f e => ?_, fun f e => ?_⟩
  · subst e
    exact ⟨rfl, rfl, rfl⟩
  · subst e
    exact ⟨rfl, rfl, rfl⟩
  · subst e
    exact ⟨rfl, rfl, rfl, facing f⟩
  · subst e
    exact ⟨rfl, rfl, by cases cart <;> rfl, facing f⟩

theorem State.importQueued_iff {c : Nat} : s.importQueued c = true ↔ ∃ q ∈ s.picker.queue, q.kind = .importTask ∧ q.cart = some c := by
  simp [State.importQueued]

theorem resetMail_spot (occupied importing : Bool) (r : Cartridge) : (r.resetMail occupied importing).spot =
    if r.place = .mail ∧ importing = false then (if occupied then .mail else .offline, none) else r.spot := by
  unfold Cartridge.resetMail
  split <;> rfl

/-- The report of the mechanism reset, taken (R60, R86). -/
theorem reported_reported (h : s.Carried []) (report : MechReport) : (reported report s).numbered ∧
    Carriage.Reported report s.carriage { (reported report s).carriage with resetting := false } := by
  obtain ⟨numbered, -, -, mail, active, -⟩ := resetDrives_rest h.1 report
  obtain ⟨sub, kept⟩ := resetDrives_queue report s
  have drive := reported_drive h.1 report
  have shell : (reported report s).shell = s.shell := by
    simp [reported, forDrives_shell (s := s) fun d t => resetDrive_shell (s := t) report d]
  have condition : (reported report s).condition = s.condition := congrArg Desk.condition (desk_of_shell shell)
  have found : s.foundFrom report (resetGrip report.picker (s.forDrives (resetDrive report))) := resetGrip_found report.picker
    (forDrives_kept s (P := s.foundFrom report) (fun d v hv => resetDrive_found d hv) ⟨h.1, fun _ => .inl rfl⟩)
  have recorded : ∀ (d : DriveNo) c, (s.cartAt (.drive d)).map (fun x => x.number) = some c ↔ s.carriage.At c (.drive d) := fun d c => by
    cases hr : s.cartAt (.drive d) with
    | none => exact ⟨nofun, fun hc => absurd hc (State.cartAt_none h.1 hr c)⟩
    | some r =>
      have here := State.cartAt_at h.1 hr
      exact ⟨fun e => by cases e; exact here, fun hc => congrArg some (h.2.apart r.number c _ here hc nofun)⟩
  unfold reported at drive condition ⊢
  obtain ⟨-, picker', mail'⟩ := resetGrip_rest report.picker (s.forDrives (resetDrive report))
  generalize resetGrip report.picker (s.forDrives (resetDrive report)) = v at drive condition found picker' mail'
  have importing : ∀ c, v.importQueued c = true ↔ ∃ q ∈ s.carriage.queue, q.kind = .importTask ∧ q.cart = some c := fun c => by
    rw [State.importQueued_iff, picker']
    exact ⟨fun ⟨q, hq, kind, hc⟩ => ⟨q, sub.subset hq, kind, hc⟩, fun ⟨q, hq, kind, hc⟩ => ⟨q, kept q hq kind, kind, hc⟩⟩
  have occupied : v.lib.mail = s.carriage.mail := mail'.trans mail
  have spot : ∀ c, (resetMailCarts v).carriage.spot c = (v.cart? c).map fun r => (r.resetMail v.lib.mail (v.importQueued r.number)).spot :=
    fun c => by simp only [State.carriage, resetMailCarts_cart?, Option.map_map]; rfl
  have read : ∀ c, v.carriage.spot c = none ∧ (resetMailCarts v).carriage.spot c = none ∨ ∃ x, v.carriage.spot c = some x ∧
      (resetMailCarts v).carriage.spot c = some (if x.1 = .mail ∧ v.importQueued c = false then
        (if s.carriage.mail then .mail else .offline, none) else x) := fun c => by
    cases hc : v.cart? c with
    | none =>
      refine .inl ⟨by simp only [State.carriage, hc, Option.map_none], ?_⟩
      rw [spot, hc, Option.map_none]
    | some r =>
      refine .inr ⟨r.spot, by simp only [State.carriage, hc, Option.map_some], ?_⟩
      rw [spot, hc, Option.map_some, resetMail_spot, (State.cart?_spec hc).1, occupied]
      rfl
  have here : ∀ c p n, (resetMailCarts v).carriage.spot c = some (p, n) → p = .offline ∧ n = none ∨
      v.carriage.spot c = some (p, n) ∧ (p = .mail → v.importQueued c = true) ∨
        p = .mail ∧ n = none ∧ s.carriage.mail = true ∧ ∃ m, v.carriage.spot c = some (.mail, m) := fun c p n hc => by
    rcases read c with ⟨-, gone⟩ | ⟨⟨q, m⟩, hx, hy⟩
    · exact nomatch gone.symm.trans hc
    · have e := Option.some.inj (hy.symm.trans hc)
      split at e
      · next mails =>
        obtain ⟨rfl, -⟩ := mails
        cases full : s.carriage.mail with
        | true =>
          rw [full] at e
          cases e
          exact .inr (.inr ⟨rfl, rfl, rfl, m, hx⟩)
        | false =>
          rw [full] at e
          cases e
          exact .inl ⟨rfl, rfl⟩
      · next other =>
        cases e
        refine .inr (.inl ⟨hx, fun hp => Bool.eq_true_of_not_eq_false fun idle => other ⟨hp, idle⟩⟩)
  have stays : ∀ c p n, v.carriage.spot c = some (p, n) → (p = .mail → v.importQueued c = true) → (resetMailCarts v).carriage.At c p :=
    fun c p n hc imp => by
      rcases read c with ⟨gone, -⟩ | ⟨x, hx, hy⟩
      · exact nomatch gone.symm.trans hc
      · cases hx.symm.trans hc
        rw [if_neg fun e => nomatch e.2.symm.trans (imp e.1)] at hy
        exact ⟨n, hy⟩
  have old : ∀ c p n, v.carriage.spot c = some (p, n) → p = .offline ∧ n = none ∨ s.carriage.spot c = some (p, n) := fun c p n hc => by
    rcases found.2 c with same | ⟨gone, -⟩
    · exact .inr (same.symm.trans hc)
    · cases gone.symm.trans hc
      exact .inl ⟨rfl, rfl⟩
  refine ⟨resetMailCarts_numbered found.1, fun c p n hc => ?_, fun c ⟨y, hy⟩ => ?_, fun c d hc => ?_, fun c d hc bare => ?_,
    fun c hc imp => ?_, fun c n hc => ?_, ?_, fun d => ⟨_, recorded d, ?_⟩, ?_, ?_, rfl, condition⟩
  · rcases here c p n hc with gone | ⟨same, -⟩ | ⟨rfl, rfl, -, m, hm⟩
    · exact .inl gone
    · exact (old c p n same).imp_right fun e => ⟨n, e, .inl rfl⟩
    · exact .inr ⟨m, (old c _ _ hm).resolve_left fun e => (nomatch e.1), .inr ⟨rfl, rfl⟩⟩
  · have known : ∃ x, v.carriage.spot c = some x := by
      rcases found.2 c with same | ⟨gone, -⟩
      · exact ⟨y, same.trans hy⟩
      · exact ⟨_, gone⟩
    obtain ⟨x, hx⟩ := known
    rcases read c with ⟨gone, -⟩ | ⟨z, -, hz⟩
    · exact nomatch gone.symm.trans hx
    · exact ⟨_, hz⟩
  · obtain ⟨n, hn⟩ := hc
    have after : v.carriage.spot c = some (.drive d, n) :=
      ((here c _ n hn).resolve_left fun e => (nomatch e.1)).elim And.left fun e => (nomatch e.1)
    have before : s.carriage.At c (.drive d) := ⟨n, (old c _ n after).resolve_left fun e => (nomatch e.1)⟩
    obtain ⟨r, hr, rfl⟩ := Option.map_eq_some_iff.mp ((recorded d c).mpr before)
    refine Bool.eq_false_iff.mpr fun bare => ?_
    have missing := ((drive d).2 r hr).1 (DriveReport.bare_iff.mp bare)
    obtain ⟨q, hq, spot⟩ := Option.map_eq_some_iff.mp hn
    have place := missing.1
    rw [State.standsAt, hq, Option.map_some] at place
    exact nomatch (congrArg Prod.fst spot).symm.trans (Option.some.inj place)
  · obtain ⟨n, hn⟩ := hc
    have same := (found.2 c).resolve_right fun ⟨_, lost⟩ => by
      rcases lost with grip | ⟨x, hx, bare'⟩
      · exact nomatch Carriage.at_unique ⟨n, hn⟩ grip
      · cases Carriage.at_unique ⟨n, hn⟩ hx
        exact nomatch bare.symm.trans bare'
    exact stays c _ n (same.trans hn) nofun
  · obtain ⟨n, hn⟩ := hc
    have same := (found.2 c).resolve_right fun ⟨_, lost⟩ => by
      rcases lost with grip | ⟨x, hx, -⟩
      · exact nomatch Carriage.at_unique ⟨n, hn⟩ grip
      · exact nomatch Carriage.at_unique ⟨n, hn⟩ hx
    exact stays c _ n (same.trans hn) fun _ => (importing c).mpr imp
  · rcases here c .mail n hc with ⟨e, -⟩ | ⟨-, imp⟩ | ⟨-, rfl, full, -⟩
    · cases e
    · exact .inr ((importing c).mp (imp rfl))
    · exact .inl ⟨rfl, full⟩
  · have queue : (resetMailCarts v).carriage.queue = (s.forDrives (resetDrive report)).picker.queue := (congrArg Picker.queue picker' :)
    exact ⟨queue ▸ sub, fun q hq kind => queue ▸ kept q hq kind⟩
  · have berth : (resetMailCarts v).carriage.berth d =
        (DriveReport.set report.drives[d] (s.cartAt (.drive d)) s.drives[d]).berth := (drive d).1
    have given := DriveReport.given (rep := report.drives[d]) (cart := s.cartAt (.drive d)) s.drives[d]
    rw [← berth] at given
    exact given
  · exact occupied
  · exact (congrArg Picker.active picker').trans active

-- The sweep -------------------------------------------------------------------------------------------------------

theorem State.returnTask_eq {r : Cartridge} {q : Task} (h : s.returnTask r = some q) :
    (∃ d : DriveNo, r.place = .drive d ∧ (s.drives[d]).state = .unloading ∧ q = ⟨.unload, some r.number, .A, some d⟩) ∨
      r.place = .picker ∧ q = ⟨.unload, some r.number, .A, none⟩ := by
  unfold State.returnTask at h
  split at h
  · next d place =>
    split at h
    · next unloading => exact .inl ⟨d, place, unloading, (Option.some.inj h).symm⟩
    · cases h
  · next place => exact .inr ⟨place, (Option.some.inj h).symm⟩
  · cases h

theorem State.mem_unrecordedTasks {q : Task} (h : q ∈ s.unrecordedTasks) :
    ∃ d : DriveNo, (s.drives[d]).state = .unloading ∧ (s.drives[d]).unrecorded = true ∧ q = ⟨.unload, none, .A, some d⟩ := by
  obtain ⟨d, hd, rfl⟩ := List.mem_map.mp h
  have found := (List.mem_filter.mp hd).2
  rw [Bool.and_eq_true, decide_eq_true_eq] at found
  exact ⟨d, found.1, found.2, rfl⟩

theorem State.mem_gripTask {rep : PickerReport} {q : Task} (h : q ∈ s.gripTask rep) :
    s.cartAt .picker = none ∧ q = ⟨.unload, none, .A, none⟩ := by
  unfold State.gripTask at h
  split at h
  · next none_at => exact ⟨none_at, List.mem_singleton.mp h⟩
  · cases h

/-- No cartridge is recorded in a drive that mounts an unrecorded one (R71). -/
theorem State.Carried.unrecorded_clear (h : s.Carried pending) (swept : s.mechReset = false) {d : DriveNo}
    (unrecorded : (s.drives[d]).unrecorded = true) : s.carriage.Clear (.drive d) := fun c hc => by
  have mounts := ((h.2.mount d).holds swept c hc).2.2.1
  exact nomatch unrecorded.symm.trans mounts

/-- The sweep's tasks are lawful UNLOADs (R60). -/
theorem sweepTasks_queued (h : s.Carried []) (swept : s.mechReset = false) (rep : PickerReport) :
    ∀ q ∈ s.sweepTasks rep, q.kind = .unload ∧ s.carriage.Queued q := by
  intro q hq
  have unloading : ∀ {d : DriveNo}, (s.drives[d]).state = .unloading → (s.carriage.berth d).phase = .unloading := fun e =>
    congrArg DriveState.phase e
  have recorded : ∀ {r : Cartridge} {p : Place}, r ∈ s.lib.carts → r.place = p → s.carriage.At r.number p := fun hr place =>
    (State.carriage_at h.1).mpr ⟨_, hr, rfl, place⟩
  have only : ∀ {r : Cartridge} {p : Place}, r ∈ s.lib.carts → r.place = p → p ≠ .offline → s.carriage.Only p (some r.number) :=
    fun hr place off c hc => congrArg some (h.2.apart _ c _ (recorded hr place) hc off)
  have known : ∀ {r : Cartridge}, r ∈ s.lib.carts → ∀ c, some r.number = some c → s.carriage.Known c := fun hr c hc => by
    cases hc
    exact (State.carriage_known h.1).mpr ⟨_, hr, rfl⟩
  simp only [State.sweepTasks, List.mem_append, List.mem_filterMap] at hq
  rcases hq with (⟨r, hr, hq⟩ | hq) | hq
  · rcases State.returnTask_eq hq with ⟨d, place, state, rfl⟩ | ⟨place, rfl⟩
    · have held := recorded hr place
      refine ⟨rfl, known hr, fun _ => ⟨only hr place nofun, fun c hc => by cases hc; exact held⟩, fun _ x hx => ?_, nofun, nofun⟩
      cases hx
      refine ⟨unloading state, fun c hc => ?_⟩
      cases hc
      exact ((h.2.mount d).holds swept r.number held).2.2
    · exact ⟨rfl, known hr, fun _ => ⟨only hr place nofun, fun c hc => by cases hc; exact recorded hr place⟩, nofun, nofun, nofun⟩
  · obtain ⟨d, state, unrecorded, rfl⟩ := State.mem_unrecordedTasks hq
    refine ⟨rfl, nofun, fun _ => ⟨fun c hc => absurd hc (h.unrecorded_clear swept unrecorded c), nofun⟩, fun _ x hx => ?_, nofun, nofun⟩
    cases hx
    exact ⟨unloading state, nofun⟩
  · obtain ⟨none_at, rfl⟩ := State.mem_gripTask hq
    exact ⟨rfl, nofun, fun _ => ⟨fun c hc => absurd hc (State.cartAt_none h.1 none_at c), nofun⟩, nofun, nofun, nofun⟩

/-- Tasks for different drives, no two of them IMPORTs. -/
theorem Task.compatible_of_drive {a b : Task} (drive : a.drive ≠ b.drive) (kind : a.kind = .unload) : a.compatible b :=
  ⟨fun ⟨_, _, e⟩ => drive e, fun ⟨e, _⟩ => nomatch kind.symm.trans e⟩

/-- The sweep's tasks are for different drives, one from the grip at the most (R60). -/
theorem sweepTasks_compatible (h : s.Carried []) (swept : s.mechReset = false) (rep : PickerReport) :
    (s.sweepTasks rep).Pairwise Task.compatible := by
  have kinds := sweepTasks_queued h swept rep
  have drives : (s.sweepTasks rep).Pairwise fun a b => a.drive ≠ b.drive := by
    refine List.pairwise_append.mpr ⟨List.pairwise_append.mpr ⟨?_, ?_, fun a ha b hb => ?_⟩, ?_, fun a ha b hb => ?_⟩
    · refine List.pairwise_filterMap.mpr ((State.carried_iff.mp h).1.2.1.imp fun {r q} apart a ha b hb e => ?_)
      rcases State.returnTask_eq ha with ⟨d, place, -, rfl⟩ | ⟨place, rfl⟩ <;>
        rcases State.returnTask_eq hb with ⟨x, place', -, rfl⟩ | ⟨place', rfl⟩
      · obtain rfl : d = x := Option.some.inj e
        exact apart.elim (fun ne => ne (place.trans place'.symm)) fun off => nomatch place.symm.trans off
      · cases e
      · cases e
      · exact apart.elim (fun ne => ne (place.trans place'.symm)) fun off => nomatch place.symm.trans off
    · refine List.pairwise_map.mpr (List.Pairwise.filter _ ?_)
      exact (by decide : allDrives.Pairwise (· ≠ ·)).imp fun ne e => ne (Option.some.inj e)
    · obtain ⟨r, hr, ha⟩ := List.mem_filterMap.mp ha
      obtain ⟨d, -, unrecorded, rfl⟩ := State.mem_unrecordedTasks hb
      rcases State.returnTask_eq ha with ⟨x, place, -, rfl⟩ | ⟨place, rfl⟩
      · intro e
        obtain rfl : x = d := Option.some.inj e
        exact h.unrecorded_clear swept unrecorded r.number ((State.carriage_at h.1).mpr ⟨r, hr, rfl, place⟩)
      · nofun
    · unfold State.gripTask
      split
      · exact List.pairwise_singleton _ _
      · exact .nil
    · obtain ⟨none_at, rfl⟩ := State.mem_gripTask hb
      rcases List.mem_append.mp ha with ha | ha
      · obtain ⟨r, hr, ha⟩ := List.mem_filterMap.mp ha
        rcases State.returnTask_eq ha with ⟨x, -, -, rfl⟩ | ⟨place, rfl⟩
        · nofun
        · exact absurd ((State.carriage_at h.1).mpr ⟨r, hr, rfl, place⟩) (State.cartAt_none h.1 none_at r.number)
      · obtain ⟨d, -, -, rfl⟩ := State.mem_unrecordedTasks ha
        nofun
  exact drives.imp_of_mem fun ha _ ne => Task.compatible_of_drive ne (kinds _ ha).1

/-- The completion of the mechanism reset keeps the laws of R42 (R60). -/
theorem mechanismReset_carried (h : s.Carried []) (report : MechReport) : (mechanismReset report s).Carried [] := by
  cases hr : s.mechReset with
  | false =>
    have same : mechanismReset report s = s := if_neg (by rw [hr]; nofun)
    rw [same]
    exact h
  | true =>
    obtain ⟨numbered, found⟩ := reported_reported h report
    rw [mechanismReset_eq report hr]
    refine arbitrate_carried (State.Changes.keeps_carried (f := True) (((pickerChoose_changes.after runAllocator_changes).after
      activeLost_changes).after judgePins_changes) ?_)
    generalize reported report s = v at numbered found
    obtain ⟨law, idle, active, ready⟩ := found.lawful h.2 hr v.picker.state
    have carried : ({ v with mechReset := false } : State).Carried [] := ⟨numbered, law⟩
    unfold queueSweep
    split
    · exact pickerFaults_carried carried
    · refine ⟨numbered, ?_⟩
      obtain ⟨law', -⟩ := found.lawful h.2 hr v.picker.state.cleared
      have sweep := sweepTasks_queued carried rfl report.picker
      refine law'.unloads ready rfl active (fun q hq => ⟨(sweep q hq).1, (sweep q hq).2.congr rfl rfl fun _ _ _ => rfl⟩) ?_
      refine List.pairwise_append.mpr ⟨?_, sweepTasks_compatible carried rfl report.picker, fun x hx q hq => ⟨fun ⟨kind, _⟩ => idle x hx kind,
        fun ⟨_, kind, _⟩ => nomatch (sweep q hq).1.symm.trans kind⟩⟩
      exact law.compat.sublist (List.sublist_append_right ..)

end Sys2Proof.Machine
end
-- ==== Proofs: FORMAT and the full reset keep the laws of places ====
section
/-!
SUPPORT for O24: FORMAT and the full reset; every deed keeps the laws of places.
-/
namespace Sys2Proof.Machine

variable {s t u v : State} {pending : List Task}

-- A picker at rest ------------------------------------------------------------------------------------------------

/-- The laws of R42 where no task is in progress or queued. -/
theorem Carriage.Lawful.rested {k j : Carriage} (law : k.Lawful pending) (spot : ∀ c x, j.spot c = some x → k.spot c = some x)
    (mail : ∀ c, ¬ j.At c .mail ∨ j.resetting = true) (active : j.active = none) (queue : j.queue = [])
    (bare : j.condition = .unformatted → j.resetting = false ∧ (∀ c, ¬ j.Known c) ∧
      ∀ d, (j.berth d).phase = .empty ∧ (j.berth d).fitted = true ∧ (j.berth d).mounted = none)
    (sweep : j.resetting = true → ∀ d, (j.berth d).fitted = true ∧ (j.berth d).mounted = none ∧
      ((j.berth d).phase = .empty ∨ (j.berth d).phase = .fault)) (mount : ∀ d, j.Mounting d) : j.Lawful [] := by
  refine ⟨fun a b p ⟨n, ha⟩ ⟨m, hb⟩ => law.apart a b p ⟨n, spot a _ ha⟩ ⟨m, spot b _ hb⟩,
    fun a b n ⟨p, ha⟩ ⟨q, hb⟩ => law.homes a b n ⟨p, spot a _ ha⟩ ⟨q, spot b _ hb⟩, fun c p n hc => ?_, fun hu => ?_, fun hr => ?_, mount,
    fun q hq => ?_, fun a ha => (nomatch active.symm.trans ha), ?_, fun hr _ c hc => ?_⟩
  · have agree := law.agree c p n (spot c _ hc)
    unfold Agrees at agree ⊢
    cases p with
    | mail => exact .inl ((mail c).resolve_left fun none_at => none_at ⟨n, hc⟩)
    | _ => exact agree
  · obtain ⟨swept, known, drives⟩ := bare hu
    exact ⟨swept, known, active, queue, drives⟩
  · refine ⟨active, fun q hq => ?_, sweep hr⟩
    rw [queue] at hq
    cases hq
  · rw [queue] at hq
    cases hq
  · rw [tasks, active, queue]
    exact .nil
  · exact absurd hc ((mail c).resolve_right fun e => nomatch e.symm.trans hr)

/-- A drive that holds no cartridge. -/
theorem Carriage.Mounting.of_none {k : Carriage} {d : DriveNo} (fitted : (k.berth d).fitted = false → (k.berth d).phase = .fault)
    (mounted : (k.berth d).mounted = none) (clear : k.resetting = true ∨ k.Clear (.drive d)) : k.Mounting d :=
  ⟨fitted, fun _ => mounted, fun _ hsd => (nomatch mounted.symm.trans hsd), fun hr c hc =>
    absurd hc (clear.resolve_left (fun e => nomatch e.symm.trans hr) c)⟩

-- FORMAT ----------------------------------------------------------------------------------------------------------

/-- A FORMAT taken in UNFORMATTED keeps the laws of R42 (R18). -/
theorem formatNew_carried (h : s.Carried pending) (new : s.condition = .unformatted) : (formatNew s).Carried [] := by
  obtain ⟨-, -, active, queue, drives⟩ := h.2.bare new
  refine State.Changes.keeps_carried (f := True) (formatLine_changes.after judgeDefaults_changes) ⟨.nil, ?_⟩
  exact h.2.rested nofun (fun _ => .inr rfl) active queue nofun (fun _ d => ⟨(drives d).2.1, (drives d).2.2, .inl (drives d).1⟩)
    fun d => .of_none (fun e => nomatch (drives d).2.1.symm.trans e) (drives d).2.2 (.inl rfl)

/-- No drive STALLED, the defaults change nothing of the carriage. -/
theorem judgeDefaults_shift (h : ∀ d : DriveNo, (s.drives[d]).state ≠ .stalled) :
    (judgeDefaults s).carriage = s.carriage ∧ (judgeDefaults s).drives = s.drives ∧ (judgeDefaults s).lib = s.lib := by
  rw [judgeDefaults, judgeOut_of_no_stalled (s := s.modLink _) h]
  exact ⟨rfl, rfl, rfl⟩

/-- FORMAT leaves the cartridge of an IDLE drive without a record (R18). -/
theorem unrecordDrive_get (d x : DriveNo) (s : State) : ((unrecordDrive d s).drives[x]).state = (s.drives[x]).state ∧
    ((unrecordDrive d s).drives[x]).berth = if x = d then
      { (s.drives[x]).berth with unrecorded := (s.drives[x]).unrecorded || decide ((s.drives[x]).state = .idle) }
        else (s.drives[x]).berth := by
  have same := State.modDrive_get s d x fun r => { r with unrecorded := r.unrecorded || decide (r.state = .idle) }
  have judged : ∀ u : State, ((lingerJudge d u).drives[x]).state = (u.drives[x]).state := fun u => by
    unfold lingerJudge
    rw [State.modDrive_get]
    split <;> rfl
  unfold unrecordDrive
  refine ⟨(judged _).trans ?_, (lingerJudge_berth d x _).trans ?_⟩
  · rw [same]
    split <;> rfl
  · rw [same]
    split <;> rfl

/-- FORMAT leaves the cartridges of the IDLE drives without a record, and no other drive changes (R18). -/
theorem unrecordDrives_berth (s : State) (d : DriveNo) : ((s.forDrives unrecordDrive).drives[d]).berth =
    { (s.drives[d]).berth with unrecorded := (s.drives[d]).unrecorded || decide ((s.drives[d]).state = .idle) } := by
  refine forDrives_turn (P := fun v => (v.drives[d]).berth = (s.drives[d]).berth ∧ (v.drives[d]).state = (s.drives[d]).state)
    (Q := fun v => (v.drives[d]).berth =
      { (s.drives[d]).berth with unrecorded := (s.drives[d]).unrecorded || decide ((s.drives[d]).state = .idle) }) d
    (fun x v ne ⟨berth, state⟩ => ?_) (fun v ⟨berth, state⟩ => ?_) (fun x v ne berth => ?_) ⟨rfl, rfl⟩
  · obtain ⟨-, berth'⟩ := unrecordDrive_get x d v
    rw [if_neg ne.symm] at berth'
    exact berth'.trans berth
  · obtain ⟨state', berth'⟩ := unrecordDrive_get x d v
    rw [if_neg ne.symm] at berth'
    exact ⟨berth'.trans berth, state'.trans state⟩
  · obtain ⟨-, berth'⟩ := unrecordDrive_get d d v
    have unrecorded : (v.drives[d]).unrecorded = (s.drives[d]).unrecorded := (congrArg Berth.unrecorded berth :)
    rw [if_pos rfl, berth, state, unrecorded] at berth'
    exact berth'

/-- A FORMAT taken in READY keeps the laws of R42 (R18). -/
theorem formatQuiet_carried (h : s.Carried pending) (quiet : s.quiet = true) : (formatQuiet s).Carried [] := by
  obtain ⟨-, -, -, active, queue, -, drives⟩ := State.quiet_iff.mp quiet
  have phases : ∀ d : DriveNo, (s.drives[d]).fitted = false → (s.drives[d]).state = .fault := fun d hf =>
    DriveState.eq_fault ((h.2.mount d).fitted hf)
  have unstalled : ∀ d : DriveNo, ((writeInitial s).drives[d]).state ≠ .stalled := fun d stalled => by
    have same : (s.drives[d]).state = .stalled := stalled
    rcases drives d with e | e | e
    · exact nomatch same.symm.trans e
    · exact nomatch same.symm.trans e
    · exact nomatch same.symm.trans (phases d e)
  refine State.Changes.keeps_carried (f := True) (State.Changes.trans (forDrives_changes fun d _ => releaseUnrecorded_changes d)
    formatLine_changes) ?_
  obtain ⟨carriage, drives', lib⟩ := judgeDefaults_shift unstalled
  have kept := forDrives_kept (judgeDefaults (writeInitial s)) (P := fun v => v.lib.carts = [] ∧
    v.picker = (judgeDefaults (writeInitial s)).picker ∧ v.mechReset = (judgeDefaults (writeInitial s)).mechReset ∧ v.condition = (judgeDefaults (writeInitial s)).condition)
    (f := unrecordDrive) (fun _ _ hv => hv) ⟨congrArg Library.carts lib, rfl, rfl, rfl⟩
  have berth := unrecordDrives_berth (judgeDefaults (writeInitial s))
  rw [drives'] at berth
  generalize (judgeDefaults (writeInitial s)).forDrives unrecordDrive = v at kept berth
  obtain ⟨carts, picker, reset, condition⟩ := kept
  have bare : ∀ c, v.carriage.spot c = none := fun c => by simp only [State.carriage, State.cart?, carts]; rfl
  have noCart : ∀ c p, ¬ v.carriage.At c p := fun c p ⟨n, hn⟩ => nomatch (bare c).symm.trans hn
  have numbered : v.numbered := by
    rw [State.numbered, carts]
    exact .nil
  have berth : ∀ d : DriveNo, v.carriage.berth d =
      { s.carriage.berth d with unrecorded := (s.drives[d]).unrecorded || decide ((s.drives[d]).state = .idle) } := berth
  have swept : v.carriage.resetting = s.carriage.resetting := reset.trans (congrArg Carriage.resetting carriage)
  have ready : v.carriage.condition = .ready := condition.trans (congrArg Carriage.condition carriage)
  refine ⟨numbered, h.2.rested (fun c x hx => (nomatch (bare c).symm.trans hx)) (fun c => .inl (noCart c _)) ?_ ?_
    (fun hu => (nomatch ready.symm.trans hu))
    (fun hr d => ?_) fun d => ?_⟩
  · exact (congrArg Picker.active picker).trans ((congrArg Carriage.active carriage).trans active)
  · exact (congrArg Picker.queue picker).trans ((congrArg Carriage.queue carriage).trans queue)
  · rw [berth]
    exact (h.2.sweep (swept.symm.trans hr)).2.2 d
  · have mount := h.2.mount d
    refine ⟨fun hf => ?_, fun hb => ?_, fun sd hsd hu => ?_, fun _ c hc => absurd hc (noCart c _)⟩
    · rw [berth] at hf ⊢
      exact mount.fitted hf
    · rw [berth] at hb ⊢
      exact mount.bare hb
    · rw [berth] at hsd hu
      simp only [Bool.or_eq_false_iff, decide_eq_false_iff_not] at hu
      have none_mounted : (s.carriage.berth d).mounted = none := mount.bare (by
        rcases drives d with e | e | e
        · exact .inr (.inl (congrArg DriveState.phase e))
        · exact absurd e hu.2
        · exact .inl e)
      exact nomatch none_mounted.symm.trans hsd

-- The full reset --------------------------------------------------------------------------------------------------

theorem Drive.initial_get (d : DriveNo) : (Vector.replicate 6 Drive.initial)[d] = Drive.initial := by simp

/-- A full reset keeps the laws of R42 (R13, R14). -/
theorem fullReset_carried (h : s.Carried pending) (cause : ResetCause) (kept : Bool) : (fullReset cause kept s).Carried [] := by
  have berth : ∀ d : DriveNo, ((Vector.replicate 6 Drive.initial)[d]).berth = Drive.initial.berth := fun d => by rw [Drive.initial_get]
  unfold fullReset
  dsimp only
  split
  · refine State.Changes.keeps_carried (f := True) (lineChoose_changes.after refreshLine_changes) ⟨h.1, ?_⟩
    refine h.2.rested (fun _ _ hx => hx) (fun _ => .inr rfl) rfl rfl nofun (fun _ d => ?_) fun d => .of_none (fun e => ?_) ?_ (.inl rfl)
    · exact ⟨congrArg Berth.fitted (berth d), congrArg Berth.mounted (berth d), .inl (congrArg Berth.phase (berth d))⟩
    · exact nomatch (congrArg Berth.fitted (berth d)).symm.trans e
    · exact congrArg Berth.mounted (berth d)
  · refine ⟨.nil, h.2.rested nofun (fun _ => .inl fun ⟨_, hc⟩ => nomatch hc) rfl rfl
      (fun _ => ⟨rfl, fun _ ⟨_, hc⟩ => (nomatch hc), fun d => ?_⟩) nofun fun d => .of_none (fun e => ?_) ?_ (.inr fun _ ⟨_, hc⟩ => nomatch hc)⟩
    · exact ⟨congrArg Berth.phase (berth d), congrArg Berth.fitted (berth d), congrArg Berth.mounted (berth d)⟩
    · exact nomatch (congrArg Berth.fitted (berth d)).symm.trans e
    · exact congrArg Berth.mounted (berth d)

-- The obligation --------------------------------------------------------------------------------------------------

/-- Every deed keeps the laws of R42. -/
theorem State.Deed.keeps_carried (h : State.Deed True False s t) (law : s.Carried []) : t.Carried [] := by
  cases h with
  | change h => exact (State.Changes.single h).keeps_carried law
  | formatNew _ new => exact formatNew_carried law new
  | formatQuiet _ quiet => exact formatQuiet_carried law quiet
  | fullReset cause kept => exact fullReset_carried law cause kept
  | importCart a b _ ready _ allowed slot => exact acceptImport_carried law ready a b allowed slot
  | exportCart _ _ found _ => exact acceptExport_carried law found _
  | mechanismReset report => exact mechanismReset_carried law report
  | picked p => exact picked_carried law p
  | placed p => exact placed_carried law p
  | slotOccupied n => exact slotOccupied_carried law n
  | mailPlaced => exact mailPlaced_carried law
  | mailEmptied => exact mailEmptied_carried law
  | spinDown d => exact spinDown_carried law d
  | faultPicker => exact faultPicker_carried law
  | faultDrive d => exact faultDrive_carried law d
  | lodge _ _ _ _ _ _ minded | abandon minded | queueReset minded | body _ minded | byte _ minded | overflow minded => exact minded.elim
  | writeCompletion _ minded | writeError _ minded | verifyCompletion _ _ _ minded | idleExpires _ minded => exact minded.elim

/-- Settles O24: every step is a chain of deeds, each of which keeps the laws of places. -/
theorem stepKeepsOneCartridgeAPlace : Obligations.StepKeepsOneCartridgeAPlace := by
  intro s t places carries h
  exact State.carried_iff.mp ((step_deeds False.elim h).keeps (P := (State.Carried · [])) (fun _ _ => State.Deed.keeps_carried)
    (State.carried_iff.mpr ⟨places, carries⟩))

end Sys2Proof.Machine
end
